-- ==== Sys2Proof/Word.lean ====
section
/-! DEFINITION. The words of the Aldokin 2416: bytes of its lines, 24-bit samples, sets of tracks, and the
plainest names over them. Positions (R1) and lengths in sample periods (R3) are natural numbers. Everything with a rule
behind it is in `Sys2Proof/Machine/`. -/

namespace Sys2Proof

/-- One byte of the control line, of a drain block or of note text. -/
abbrev Byte := BitVec 8

/-- A 24-bit two's complement sample (R35, R57). -/
abbrev Sample := BitVec 24

/-- A set of tracks: track `t` is bit `t - 1` (R183, type Mask). -/
abbrev TrackSet := BitVec 24

/-- A run of characters (note text, a scene, a track name, a comment). -/
abbrev Text := List Byte

end Sys2Proof
end

