-- ==== Sys2Proof/Syntax.lean ====
section
/-! DEFINITION. The commands: one constructor of `Instr` for each row of spec/opcode_table.json, and the types of their
operands. A request is a whole good control frame: its first operand is the frame's tag, the rest are the fields its
rule lists, at the sizes of R183. Fields that the rule says are not examined (those of a read) are no operands. -/

namespace Sys2Proof

/-- The two drains (R112). -/
inductive Drain where
  | a | b
  deriving DecidableEq, Repr

/-- The two mix buses: L is source 17, R is source 18 (R49). -/
inductive Bus where
  | l | r
  deriving DecidableEq, Repr

/-- The two trigger lines (R103). -/
inductive Line where
  | one | two
  deriving DecidableEq, Repr

/-- Hours, minutes, seconds and frames, one byte each (R183, type Label). -/
structure Label where
  hours : BitVec 8
  minutes : BitVec 8
  seconds : BitVec 8
  frames : BitVec 8
  deriving DecidableEq, Repr

/-- The eight setting fields of an INPT set, as the frame carries them (R48, R183). -/
structure InputFields where
  gain : BitVec 16
  polarity : BitVec 8
  hold : BitVec 16
  high : BitVec 32
  low : BitVec 32
  dwell : BitVec 32
  substitute : BitVec 8
  value : BitVec 24
  deriving DecidableEq, Repr

/-- The setting fields of a DRAN set (R113, R183). -/
structure DrainFields where
  enable : BitVec 8
  wordSize : BitVec 8
  byteOrder : BitVec 8
  blockLength : BitVec 16
  holdTimeout : BitVec 16
  deriving DecidableEq, Repr

/-- The five setting fields of a CAPS set, in the units of R67. -/
structure CaptureFields where
  preRoll : BitVec 16
  postRoll : BitVec 16
  maxLength : BitVec 16
  window : BitVec 16
  grace : BitVec 16
  deriving DecidableEq, Repr

/-- The commands of the 2416, in the order of spec/opcode_table.json. -/
inductive Instr where
  /-- The reset pin (R182). -/
  | powerOnReset
  /-- One audio frame: sixteen slot words (R186) and the electrical levels of the two trigger lines (R104). -/
  | audioFrame (slots : Vector (BitVec 32) 16) (line1 line2 : Bool)
  /-- A frame sync before the sixteenth word (R186). -/
  | earlyFrameSync
  /-- An input's quiet counter has reached 4,800 (R42). -/
  | clipEpisodeEnd (input : Fin 16)
  /-- A bus's quiet counter has reached 4,800 (R49). -/
  | busClipEpisodeEnd (bus : Bus)
  /-- An input's silence counter has reached its dwell (R43). -/
  | silent (input : Fin 16)
  /-- The sync timer reaches 4 (R36). -/
  | audioSyncLoss
  /-- The meter report period expires (R46). -/
  | lvlsReport
  /-- A decoded timecode frame: label, drop flag and arrival position (R20). -/
  | frameArrival (label : Label) (drop : Bool) (arrival : BitVec 48)
  /-- The loss count has reached the loss limit (R26). -/
  | refLost
  /-- Confirmed edges are acted on, line 1's before line 2's (R105). -/
  | edgeConfirmed
  /-- A frame boundary has entered an armed mark's count (R100). -/
  | markFired
  /-- P has reached the end target (R86). -/
  | tailEnd
  /-- P - roll has reached the maximum length (R85). -/
  | limitCut
  /-- P has reached window ends (R91). -/
  | windowEnd
  /-- A drain forms a block (R116 to R118). -/
  | formBlock (drain : Drain)
  /-- The writer has taken the whole block (R121). -/
  | completion (drain : Drain)
  /-- HOLD from the writer (R123). -/
  | hold (drain : Drain)
  /-- GO from the writer (R123). -/
  | go (drain : Drain)
  /-- The port's link goes down (R124). -/
  | linkDown (drain : Drain)
  /-- The port's link comes up (R124). -/
  | linkUp (drain : Drain)
  /-- The hold/down timer reaches the hold timeout (R125). -/
  | stalled (drain : Drain)
  /-- A note line character: bit `i` is the level of bit time `i` of R186. -/
  | character (bits : BitVec 11)
  /-- The idle timer reaches 44 bit times (R142). -/
  | idleTimeout
  /-- The note line has been low for more than 11 bit times (R143). -/
  | lineBreak
  /-- The note line goes high (R143, R147). -/
  | breakEnd
  /-- The binding unit takes the oldest completed line note (R149). -/
  | bindNote
  /-- A byte of the control line and whether its stop bit was high (R166). -/
  | controlByte (value : BitVec 8) (stopHigh : Bool)
  /-- The silence timer passes 200 byte times (R166). -/
  | silenceDiscard
  /-- A good frame whose kind word names no request (R169). -/
  | badKind (tag : BitVec 8) (kind : List (BitVec 8))
  /-- The control line comes free (R172). -/
  | transmitFrame
  | iden (tag : BitVec 8)
  | stat (tag : BitVec 8)
  | linkSet (tag : BitVec 8) (limit : BitVec 8)
  | linkRead (tag : BitVec 8)
  | linkReadAndClear (tag : BitVec 8)
  | rsetEngine (tag : BitVec 8)
  | rsetConfig (tag : BitVec 8)
  | inptSet (tag : BitVec 8) (input : BitVec 8) (fields : InputFields)
  | inptRead (tag : BitVec 8) (input : BitVec 8)
  | mixg (tag : BitVec 8) (bus input : BitVec 8) (gain : BitVec 16)
  | trakSource (tag : BitVec 8) (track source : BitVec 8)
  | trakLink (tag : BitVec 8) (track : BitVec 8)
  | trakUnlink (tag : BitVec 8) (track : BitVec 8)
  | trakRead (tag : BitVec 8) (track : BitVec 8)
  | armt (tag : BitVec 8) (mask : BitVec 24)
  | metrRead (tag : BitVec 8)
  | metrPeriod (tag : BitVec 8) (period : BitVec 16)
  | tlmd (tag : BitVec 8) (rate mode : BitVec 8) (tolerance : BitVec 16)
  | tcst (tag : BitVec 8) (label : Label)
  | jams (tag : BitVec 8)
  | tcqr (tag : BitVec 8)
  | capsSet (tag : BitVec 8) (fields : CaptureFields)
  | capsRead (tag : BitVec 8)
  | take (tag : BitVec 8) (id : BitVec 16) (sectionNo : BitVec 8)
  | roll (tag : BitVec 8)
  | cut (tag : BitVec 8)
  | markSet (tag : BitVec 8) (mark : BitVec 8) (label : Label)
  | markClear (tag : BitVec 8) (mark : BitVec 8)
  | markRead (tag : BitVec 8) (mark : BitVec 8)
  | trigSet (tag : BitVec 8) (line mode polarity : BitVec 8) (filter : BitVec 16)
  | trigRead (tag : BitVec 8) (line : BitVec 8)
  | dranSet (tag : BitVec 8) (drain : BitVec 8) (fields : DrainFields)
  | dranRead (tag : BitVec 8) (drain : BitVec 8)
  | nlinSet (tag : BitVec 8) (count : BitVec 8) (stations : Vector (BitVec 8) 8)
  | nlinRead (tag : BitVec 8)
  | nlinReadAndClear (tag : BitVec 8)
  | note (tag : BitVec 8) (text : List (BitVec 8))
  | slat (tag : BitVec 8) (sectionNo : BitVec 8)
  /-- The falling edge of a start bit on the note line (R142). -/
  | startBitEdge
  deriving DecidableEq, Repr

end Sys2Proof
end

