-- ==== Sys2Proof/Decode.lean ====
section
/-! DEFINITION. The decoder over the rows of spec/opcode_table.json that give bits. No row of this table gives any
("fields" is empty in all 70 and none has "fixed"), so no word spells a command. The control line's own framing is
decoded by the CONTROL_BYTE command (`Sys2Proof/Machine/ControlLink.lean`). -/

namespace Sys2Proof

/-- The command that a word of `nbits` bits spells by the table's bits: none. -/
def decodeTableWord (_nbits _w : Nat) : Option Instr := none

end Sys2Proof
end

