-- ==== Sys2Proof/Config.lean ====
section
/-! DEFINITION. What is fixed for the module (R177 gives most of it) and the free values: constants with no body,
for the two values the manual leaves unstated. -/

namespace Sys2Proof.Config

/-- Slots of the capture ring (R2, R57). -/
abbrev ringSlots : Nat := 2097152
/-- One more than the greatest position: positions are 48 bits wide (R1). -/
abbrev positionLimit : Nat := 281474976710656
/-- Take records the take table holds (R76). -/
abbrev maxTakes : Nat := 16
/-- Takes the delivery list holds (R109). -/
abbrev maxDelivering : Nat := 4
/-- Comments a slate holds (R72, R148). -/
abbrev maxComments : Nat := 8
/-- Entries of a take's event list (R73). -/
abbrev maxEvents : Nat := 32
/-- Entries of a section's gap list (R110). -/
abbrev maxGaps : Nat := 8
/-- Stations of the accept list (R135). -/
abbrev maxAccept : Nat := 8
/-- Notices the notice queue holds (R165). -/
abbrev maxNotices : Nat := 32
/-- Replies the reply queue holds (R165). -/
abbrev maxReplies : Nat := 8
/-- The largest payload of a control frame, in bytes (R166). -/
abbrev maxPayload : Nat := 240
/-- Characters of a note (R135, R146). -/
abbrev maxNoteText : Nat := 64
/-- Where every 16-bit count of the manual stops (R18, R135, R165). -/
abbrev countTop : Nat := 65535
/-- Bit times of idle line that end a partial note (R142). -/
abbrev idleLimit : Nat := 44
/-- The silence timer is past 200 byte times when it counts this many (R166). -/
abbrev silenceLimit : Nat := 201
/-- Ticks of the sync timer without an audio frame that lose the sync (R36). -/
abbrev syncLimit : Nat := 4
/-- Sample periods without a clip that end a clip episode (R42, R49). -/
abbrev quietLimit : Nat := 4800

/-! The model's timebase (DESIGN CHOICE, log entry 3): one idle step is 1/4,800,000 s, the longest unit that divides
every unit the manual counts on the module timer. -/

/-- Ticks in one sample-period tick of the module timer (1/48,000 s, R36). -/
abbrev ticksPerSample : Nat := 100
/-- Ticks in one millisecond (R45, R125). -/
abbrev ticksPerMs : Nat := 4800
/-- Ticks in one bit time of the note line (1/38,400 s). -/
abbrev ticksPerBit : Nat := 125
/-- Ticks in one byte time of the control line (10 bit times at 1,000,000 bit/s). -/
abbrev ticksPerByte : Nat := 48

/-- FREE VALUE (log entry 5): the position count after a write at 281,474,976,710,655. The manual gives P 48 bits (R1)
and states no value for the next write. The argument is the number of free values taken before. -/
opaque freePosition : Nat → BitVec 48

/-- FREE VALUE (log entry 6): the four label bytes reported for a frame count that lies outside the day of the rate in
force. R10 and R11 convert the counts of the day alone; a mark keeps its count across a rate change (R98). The
arguments are the rate code and the count. -/
opaque labelOutOfDay : Nat → Nat → BitVec 32

end Sys2Proof.Config
end

