-- ==== Sys2Proof/Machine/Kinds.lean ====
section
/-! DEFINITION. The kind words of the control line (R173, R183 and the request table of the Control Link chapter). -/

namespace Sys2Proof

/-- The twenty-three requests. -/
inductive ReqKind where
  | iden | stat | link | rset | inpt | mixg | trak | armt | metr | tlmd | tcst | jams
  | tcqr | caps | take | roll | cut | mark | trig | dran | nlin | note | slat
  deriving DecidableEq, Repr

/-- The request kinds, in the order of the request table. -/
def ReqKind.all : List ReqKind :=
  [.iden, .stat, .link, .rset, .inpt, .mixg, .trak, .armt, .metr, .tlmd, .tcst, .jams,
   .tcqr, .caps, .take, .roll, .cut, .mark, .trig, .dran, .nlin, .note, .slat]

/-- The kind word of a request: four ASCII characters, padded at the end with spaces (R183). -/
def ReqKind.word : ReqKind → Text
  | .iden => [0x49, 0x44, 0x45, 0x4E] -- IDEN
  | .stat => [0x53, 0x54, 0x41, 0x54] -- STAT
  | .link => [0x4C, 0x49, 0x4E, 0x4B] -- LINK
  | .rset => [0x52, 0x53, 0x45, 0x54] -- RSET
  | .inpt => [0x49, 0x4E, 0x50, 0x54] -- INPT
  | .mixg => [0x4D, 0x49, 0x58, 0x47] -- MIXG
  | .trak => [0x54, 0x52, 0x41, 0x4B] -- TRAK
  | .armt => [0x41, 0x52, 0x4D, 0x54] -- ARMT
  | .metr => [0x4D, 0x45, 0x54, 0x52] -- METR
  | .tlmd => [0x54, 0x4C, 0x4D, 0x44] -- TLMD
  | .tcst => [0x54, 0x43, 0x53, 0x54] -- TCST
  | .jams => [0x4A, 0x41, 0x4D, 0x53] -- JAMS
  | .tcqr => [0x54, 0x43, 0x51, 0x52] -- TCQR
  | .caps => [0x43, 0x41, 0x50, 0x53] -- CAPS
  | .take => [0x54, 0x41, 0x4B, 0x45] -- TAKE
  | .roll => [0x52, 0x4F, 0x4C, 0x4C] -- ROLL
  | .cut => [0x43, 0x55, 0x54, 0x20] -- CUT
  | .mark => [0x4D, 0x41, 0x52, 0x4B] -- MARK
  | .trig => [0x54, 0x52, 0x49, 0x47] -- TRIG
  | .dran => [0x44, 0x52, 0x41, 0x4E] -- DRAN
  | .nlin => [0x4E, 0x4C, 0x49, 0x4E] -- NLIN
  | .note => [0x4E, 0x4F, 0x54, 0x45] -- NOTE
  | .slat => [0x53, 0x4C, 0x41, 0x54] -- SLAT

/-- The request a kind word names, compared byte for byte (R169). -/
def ReqKind.ofWord (w : Text) : Option ReqKind :=
  ReqKind.all.find? fun k => k.word == w

/-- The kind word of every reply (R171). -/
def replyWord : Text := [0x52, 0x50, 0x4C, 0x59] -- RPLY

/-- The kinds of notice (R173). -/
inductive NoticeKind where
  | opening | clos | finl | refu | tref | mrke | lvls | drne | bind | orph | nrej | lflt
  deriving DecidableEq, Repr

/-- The kind word of a notice. -/
def NoticeKind.word : NoticeKind → Text
  | .opening => [0x4F, 0x50, 0x45, 0x4E] -- OPEN
  | .clos => [0x43, 0x4C, 0x4F, 0x53] -- CLOS
  | .finl => [0x46, 0x49, 0x4E, 0x4C] -- FINL
  | .refu => [0x52, 0x45, 0x46, 0x55] -- REFU
  | .tref => [0x54, 0x52, 0x45, 0x46] -- TREF
  | .mrke => [0x4D, 0x52, 0x4B, 0x45] -- MRKE
  | .lvls => [0x4C, 0x56, 0x4C, 0x53] -- LVLS
  | .drne => [0x44, 0x52, 0x4E, 0x45] -- DRNE
  | .bind => [0x42, 0x49, 0x4E, 0x44] -- BIND
  | .orph => [0x4F, 0x52, 0x50, 0x48] -- ORPH
  | .nrej => [0x4E, 0x52, 0x45, 0x4A] -- NREJ
  | .lflt => [0x4C, 0x46, 0x4C, 0x54] -- LFLT

end Sys2Proof
end

