-- ==== Sys2Proof/Machine/State.lean ====
section
/-! DEFINITION. The state of the Aldokin 2416, block by block, as plain data, and the machine right after power-on
reset. Each field cites the rule of spec/ that names it; a field of the model's own says so and names its log entry. -/

namespace Sys2Proof.Machine

/-! ## Stops -/

/-- The module has no fault: no rule of the manual stops it, so this type has no constructor. -/
inductive Fault where
  deriving DecidableEq, Repr

/-- Why the model would answer no next state. -/
inductive Refusal where
  /-- Raised by an arm of `exec` whose command has no meaning yet (safe). No arm raises it. -/
  | notModelled (mnemonic : String)
  deriving DecidableEq, Repr

/-! ## Names with a fixed set of values -/

/-- The six rates (R4). -/
inductive Rate where
  | r23976 | r24 | r25 | r2997 | r2997drop | r30
  deriving DecidableEq, Repr

/-- The modes of the timeline unit (R19). -/
inductive TimeMode where
  | free | jamOnce | follow
  deriving DecidableEq, Repr

/-- The reference states (R18, R19). -/
inductive RefState where
  | freeRun | seeking | locked | verifying | holdover
  deriving DecidableEq, Repr

/-- The audio-link sync states (R36). -/
inductive SyncState where
  | acquiring | synced | lost
  deriving DecidableEq, Repr

/-- The take states (R66). -/
inductive TakeState where
  | stopped | rolling | tail
  deriving DecidableEq, Repr

/-- The record states (R70): OPEN, CLOSED, FINAL. -/
inductive RecState where
  | opened | closed | final
  deriving DecidableEq, Repr

/-- The causes of rolls and cuts (R69); LIMIT is a cause of cuts alone. -/
inductive Cause where
  | command | mark | trigger1 | trigger2 | limit
  deriving DecidableEq, Repr

/-- The kinds of event in a take's event list (R73). -/
inductive EventKind where
  | dropout | clip | silent | audioBreak | tcJump | refLost | refRegained
  deriving DecidableEq, Repr

/-- How a take number was found (R72, R158). -/
inductive Numbering where
  | auto | explicit
  deriving DecidableEq, Repr

/-- The states of a delivery section (R110). -/
inductive SecState where
  | off | pending | active | done | abandoned
  deriving DecidableEq, Repr

/-- The modes of a trigger line (R103). -/
inductive TrigMode where
  | off | level | toggle | edge
  deriving DecidableEq, Repr

/-- The direction of a confirmed edge (R103, R105). -/
inductive Direction where
  | asserted | released
  deriving DecidableEq, Repr

/-- A drain's word size (R112). -/
inductive WordSize where
  | w16 | w24
  deriving DecidableEq, Repr

/-- The line states of the note receiver (R135). -/
inductive NoteLineState where
  | idle | opened | breaking
  deriving DecidableEq, Repr

/-- The frame errors (R167). -/
inductive FrameError where
  | length | byte | crc
  deriving DecidableEq, Repr

/-- The two marks (R98). -/
inductive MarkName where
  | start | stop
  deriving DecidableEq, Repr

/-- The kinds of note (R150). -/
inductive NoteKind where
  | scene | takeNum | trackName | circle | noGood | falseTake | wild | comment
  deriving DecidableEq, Repr

/-- Why a note is rejected (R152). -/
inductive RejectReason where
  | noKind | unknownKind | badTarget | badTakeNumber | badTrack
  deriving DecidableEq, Repr

/-- Why a note is an orphan (R160). -/
inductive OrphanReason where
  | noTake | final | noWindow
  deriving DecidableEq, Repr

/-- Where a bound note went (R161). -/
inductive Destination where
  | take | pending | takeAndPending
  deriving DecidableEq, Repr

/-- The reply statuses (R171), in order. -/
inductive Status where
  | ok | badKind | badLength | range | busy | state | label | noTake | linked | notArmed
  deriving DecidableEq, Repr

/-- The six conditions (R174), in priority order. -/
inductive Condition where
  | linkFault | deliveryGap | audioLost | referenceLost | noticesLost | drainStalled
  deriving DecidableEq, Repr

/-- The events a TREF notice reports (R28). -/
inductive TrefKind where
  | locked | jammed | tcJump | refLost | refRegained
  deriving DecidableEq, Repr

/-- The kinds of DRNE notice (R131). -/
inductive DrneKind where
  | gap | stalled
  deriving DecidableEq, Repr

/-- The reasons of a DRNE notice (R131). -/
inductive DrneReason where
  | push | abort | held | linkDown
  deriving DecidableEq, Repr

/-- The outcomes a trigger line keeps (R107). -/
inductive LineOutcome where
  | taken (id : Nat) | alreadyRolling | notArmed | notRolling | held
  deriving DecidableEq, Repr

/-- The outcomes of a roll (R69); TAKEN carries the take id and the start position. -/
inductive RollOutcome where
  | taken (id start : Nat) | alreadyRolling | notArmed
  deriving DecidableEq, Repr

/-- The outcomes of a cut (R69); TAKEN carries the take id and the cut position. -/
inductive CutOutcome where
  | taken (id cut : Nat) | notRolling | held
  deriving DecidableEq, Repr

/-- The outcomes an MRKE notice reports (R102). -/
inductive MarkOutcome where
  | taken | alreadyRolling | notArmed | notRolling
  deriving DecidableEq, Repr

/-! ## Small records -/

/-- A timer of the module: its count in the manual's unit, and the ticks of the model's timebase below one unit
(log entry 3). -/
structure Timer where
  count : Nat
  frac : Nat
  deriving DecidableEq, Repr

/-- One value for each drain. -/
structure PerDrain (α : Type) where
  a : α
  b : α
  deriving DecidableEq, Repr

/-- The value of one drain. -/
def PerDrain.get {α : Type} (p : PerDrain α) : Drain → α
  | .a => p.a
  | .b => p.b

/-- The pair with one drain's value changed. -/
def PerDrain.modify {α : Type} (p : PerDrain α) (d : Drain) (f : α → α) : PerDrain α :=
  match d with
  | .a => { p with a := f p.a }
  | .b => { p with b := f p.b }

/-- A pair of a position and a frame count: the anchor (R5), or a candidate frame (R18). -/
structure Anchor where
  pos : Nat
  count : Nat
  deriving DecidableEq, Repr

/-- A label that the module reports, with its drop flag (R14). -/
structure ReportedLabel where
  label : Label
  drop : Bool
  deriving DecidableEq, Repr

/-- A timeline reading (R15). -/
structure Reading where
  count : Nat
  phase : Nat
  label : ReportedLabel
  rate : Rate
  deriving DecidableEq, Repr

/-- A comment of a slate (R72, R148). -/
structure Comment where
  station : Nat
  position : Nat
  text : Text
  deriving DecidableEq, Repr

/-- An entry of a take's event list (R73). -/
structure Event where
  kind : EventKind
  source : Nat
  position : Nat
  error : Int
  deriving DecidableEq, Repr

/-- A run of lost sample periods: offset from take start and length (R110, R127). -/
structure Gap where
  offset : Nat
  length : Nat
  deriving DecidableEq, Repr

/-- The slate of an earlier take, as a record keeps it (R72). -/
structure PriorSlate where
  scene : Option Text
  number : Nat
  deriving DecidableEq, Repr

/-- The last-slate record (R92). -/
structure LastSlate where
  id : Nat
  scene : Option Text
  number : Nat
  deriving DecidableEq, Repr

/-! ## Take records -/

/-- One delivery section (R110). -/
structure Section where
  state : SecState
  formation : Nat
  confirmed : Nat
  nextSeq : Nat
  delivered : Nat
  gapTotal : Nat
  abandoned : Nat
  gaps : List Gap
  notListed : Nat
  gapPending : Bool
  /-- Its abandonment was left open by R115 and is counted at the close (R117). -/
  owing : Bool
  deriving DecidableEq, Repr

/-- The slate of a take record (R72). -/
structure Slate where
  scene : Option Text
  number : Nat
  numbering : Numbering
  prior : Option PriorSlate
  names : Vector (Option Text) 24
  circle : Bool
  noGood : Bool
  falseTake : Bool
  wild : Bool
  comments : List Comment
  commentsLost : Nat
  deriving DecidableEq, Repr

/-- A take record (R70 to R74). -/
structure TakeRecord where
  id : Nat
  state : RecState
  start : Nat
  roll : Nat
  rollCause : Cause
  cut : Option Nat
  cutCause : Option Cause
  endTarget : Option Nat
  endPos : Option Nat
  windowEnd : Option Nat
  reading : Reading
  mask : TrackSet
  tailShortened : Bool
  limited : Bool
  earlyFinal : Bool
  slate : Slate
  events : List Event
  eventsLost : Nat
  truncated : Bool
  sections : PerDrain Section
  deriving DecidableEq, Repr

/-- The header section of a take record (R93, R184). -/
structure Header where
  start : Nat
  roll : Nat
  rollCause : Cause
  cut : Option Nat
  cutCause : Option Cause
  endTarget : Option Nat
  endPos : Option Nat
  windowEnd : Option Nat
  reading : Reading
  mask : TrackSet
  tailShortened : Bool
  limited : Bool
  earlyFinal : Bool
  truncated : Bool
  circle : Bool
  noGood : Bool
  falseTake : Bool
  wild : Bool
  scene : Option Text
  number : Nat
  numbering : Numbering
  prior : Option PriorSlate
  commentCount : Nat
  commentsLost : Nat
  eventCount : Nat
  eventsLost : Nat
  deriving DecidableEq, Repr

/-- A section of a TAKE reply (R93). -/
inductive TakeSection where
  | header (h : Header)
  | names (names : Vector (Option Text) 24)
  /-- Sections 2 and 3: up to four comments. -/
  | comments (sectionNo : Nat) (entries : List Comment)
  /-- Sections 4 and 5: up to sixteen events. -/
  | events (sectionNo : Nat) (entries : List Event)
  | delivery (start : Nat) (truncated : Bool) (sections : PerDrain Section)
  deriving DecidableEq, Repr

/-! ## The blocks -/

/-- The six condition flags (R174). -/
structure Conds where
  linkFault : Bool
  deliveryGap : Bool
  audioLost : Bool
  referenceLost : Bool
  noticesLost : Bool
  drainStalled : Bool
  deriving DecidableEq, Repr

/-- The seven link counts (R178). -/
structure LinkCounts where
  framesReceived : Nat
  crcErrors : Nat
  lengthErrors : Nat
  byteErrors : Nat
  silenceDiscards : Nat
  overrunDiscards : Nat
  bytesSkipped : Nat
  deriving DecidableEq, Repr

/-- The receive states (R166), each with what it has received of the frame. -/
inductive RxState where
  | hunt
  | length
  | kind (len : BitVec 8) (got : Text)
  | tag (len : BitVec 8) (kind : Text)
  | payload (len : BitVec 8) (kind : Text) (tag : BitVec 8) (got : Text)
  | crc (len : BitVec 8) (kind : Text) (tag : BitVec 8) (payload : Text) (low : Option (BitVec 8))
  deriving DecidableEq, Repr

/-- The eight settings of an input (R47). -/
structure ChannelSettings where
  gain : BitVec 16
  inverted : Bool
  hold : Nat
  high : Nat
  low : Nat
  dwell : Nat
  subOn : Bool
  subValue : Sample
  deriving DecidableEq, Repr

/-- An input channel (R38 to R47). -/
structure Channel where
  settings : ChannelSettings
  lastGood : Sample
  holdCount : Nat
  dropout : Bool
  clip : Bool
  quiet : Nat
  silence : Nat
  silentFlag : Bool
  peak : Nat
  deriving DecidableEq, Repr

/-- The input conditioner (R36, R46, R47). -/
structure Inputs where
  channels : Vector Channel 16
  sync : SyncState
  syncTimer : Timer
  reportPeriod : Nat
  reportTimer : Timer
  deriving DecidableEq, Repr

/-- A mix bus (R49, R50). -/
structure MixBus where
  gains : Vector (BitVec 16) 16
  clip : Bool
  quiet : Nat
  peak : Nat
  deriving DecidableEq, Repr

/-- The mixer and track router (R49 to R54). -/
structure Router where
  busL : MixBus
  busR : MixBus
  sources : Vector Nat 24
  /-- The set of links: link `t` is bit `t - 1` (R52). -/
  links : TrackSet
  armed : TrackSet
  deriving DecidableEq, Repr

/-- The timeline unit (R18). -/
structure Timeline where
  rate : Rate
  mode : TimeMode
  tolerance : Nat
  anchor : Anchor
  ref : RefState
  candidate : Option Anchor
  regain : Bool
  loss : Nat
  mismatch : Nat
  invalid : Nat
  deriving DecidableEq, Repr

/-- The capture ring (R1, R57): P, and the slots that hold anything but 24 zero samples, slot numbers rising. -/
structure Ring where
  p : Nat
  cells : List (Nat × Vector Sample 24)
  deriving DecidableEq, Repr

/-- The capture settings, as lengths in sample periods (R67). -/
structure Captures where
  preRoll : Nat
  postRoll : Nat
  maxLength : Nat
  window : Nat
  grace : Nat
  deriving DecidableEq, Repr

/-- A start or stop mark (R98). -/
structure Mark where
  armed : Bool
  count : Nat
  deriving DecidableEq, Repr

/-- The MODEL's own: a frame boundary that has entered the count of an armed mark, not yet taken by the take
controller (R100, log entry 13). -/
structure MarkDue where
  count : Nat
  pos : Nat
  start : Bool
  stop : Bool
  deriving DecidableEq, Repr

/-- The take controller (R66, R67, R75, R76, R92, R98). -/
structure TakeCtl where
  state : TakeState
  caps : Captures
  table : List TakeRecord
  nextId : Nat
  lastSlate : Option LastSlate
  startMark : Mark
  stopMark : Mark
  markDue : Option MarkDue
  deriving DecidableEq, Repr

/-- A pending edge (R103). -/
structure PendingEdge where
  first : Nat
  counter : Nat
  deriving DecidableEq, Repr

/-- What a trigger line asks of the take controller on an edge (R105). -/
inductive TrigRequest where
  | roll | levelCut | toggle
  deriving DecidableEq, Repr

/-- The MODEL's own: an edge that the last sample has confirmed, with the request that the settings in force at that
sample give it, not yet acted on (R104, R105, log entry 12). -/
structure ConfirmedEdge where
  level : Bool
  first : Nat
  direction : Direction
  request : Option TrigRequest
  deriving DecidableEq, Repr

/-- A trigger line (R103). -/
structure TrigLine where
  mode : TrigMode
  assertedLow : Bool
  filter : Nat
  /-- The filtered level: high, low, or unset. -/
  level : Option Bool
  pending : Option PendingEdge
  lastEdge : Option (Nat × Direction)
  edgeCount : Nat
  lastOutcome : Option LineOutcome
  confirmed : Option ConfirmedEdge
  deriving DecidableEq, Repr

/-- The trigger unit (R103). -/
structure Triggers where
  line1 : TrigLine
  line2 : TrigLine
  deriving DecidableEq, Repr

/-- The header of a drain block (R118, R185). -/
structure BlockHeader where
  takeId : Nat
  seq : Nat
  offset : Nat
  count : Nat
  mask : TrackSet
  wordSize : WordSize
  highFirst : Bool
  last : Bool
  afterGap : Bool
  deriving DecidableEq, Repr

/-- A block in flight (R112): take id, sequence and count stand in its header; the payload is a copy (R61). -/
structure Block where
  header : BlockHeader
  first : Nat
  settled : Bool
  payload : List Byte
  deriving DecidableEq, Repr

/-- The settings of a drain (R112). -/
structure DrainSettings where
  enabled : Bool
  wordSize : WordSize
  highFirst : Bool
  blockLength : Nat
  holdTimeout : Nat
  deriving DecidableEq, Repr

/-- A drain (R112). -/
structure DrainState where
  settings : DrainSettings
  linkUp : Bool
  hold : Bool
  timer : Timer
  stalled : Bool
  gapEpisode : Bool
  inFlight : Option Block
  lateCompletions : Nat
  lateSamples : Nat
  deriving DecidableEq, Repr

/-- The delivery engine (R109, R112). The sections stand in the take records. -/
structure Delivery where
  list : List Nat
  drains : PerDrain DrainState
  deriving DecidableEq, Repr

/-- The eleven counts of the note receiver (R135). -/
structure NoteCounts where
  completed : Nat
  stray : Nat
  notAccepted : Nat
  badAddresses : Nat
  dropped : Nat
  long : Nat
  byAddress : Nat
  byTimeout : Nat
  byBreak : Nat
  breaks : Nat
  framing : Nat
  deriving DecidableEq, Repr

/-- A completed line note (R140); its station is 1 to 30. A note of origin REQUEST has station 0 (R146). -/
structure CompletedNote where
  station : Nat
  text : Text
  long : Bool
  position : Nat
  deriving DecidableEq, Repr

/-- The note receiver (R135, R147). -/
structure NoteRx where
  accept : List Nat
  line : NoteLineState
  station : Option Nat
  buffer : Text
  long : Bool
  idleTimer : Timer
  /-- The bits of a character are arriving: the idle timer pauses (R142). -/
  receiving : Bool
  /-- The level of the note line, as the last row of the line left it (log entry 9). -/
  lineHigh : Bool
  /-- The line was low at a reset and has not gone high since: no character is taken (R147). -/
  waitHigh : Bool
  counts : NoteCounts
  /-- The MODEL's own: completed notes that the binding unit has not yet taken (R145, log entry 14). -/
  completed : List CompletedNote
  deriving DecidableEq, Repr

/-- The binding unit: the pending slate (R148). -/
structure Binding where
  scene : Option Text
  names : Vector (Option Text) 24
  number : Option Nat
  wild : Bool
  comments : List Comment
  commentsLost : Nat
  deriving DecidableEq, Repr

/-! ## Notices and replies -/

/-- What a bound note did (R161). -/
structure BoundReport where
  kind : NoteKind
  dest : Destination
  takeId : Nat
  targeted : Bool
  commentLost : Bool
  number : Nat
  numbering : Option Numbering
  renumbered : Bool
  cut : Bool
  deriving DecidableEq, Repr

/-- The outcome of a note (R160 to R162). -/
inductive NoteOutcome where
  | bound (r : BoundReport)
  | orphaned (kind : NoteKind) (target : Nat) (reason : OrphanReason)
  | rejected (reason : RejectReason) (first : BitVec 8) (length : Nat)
  deriving DecidableEq, Repr

/-- The notices (R173), each with its contents. -/
inductive Notice where
  /-- R82. -/
  | opening (id : Nat) (cause : Cause) (start roll : Nat) (label : ReportedLabel) (rate : Rate) (mask : TrackSet)
      (scene : Option Text) (number : Nat) (numbering : Numbering) (entered : Bool)
  /-- R87. -/
  | clos (id : Nat) (cutCause : Option Cause) (cut : Option Nat) (endPos windowEnd : Nat)
      (tailShortened limited : Bool) (events eventsLost : Nat)
  /-- R91; the id is the model's label of the take whose header it carries (log entry 17). -/
  | finl (id : Nat) (header : Header)
  /-- R81; the reason is always NOT ARMED. -/
  | refu (cause : Cause) (pos : Nat)
  /-- R28. -/
  | tref (kind : TrefKind) (pos : Nat) (ref : RefState) (anchor : Anchor) (error : Int)
  /-- R102; no outcome for SKIPPED. -/
  | mrke (mark : MarkName) (fired : Bool) (count : Nat) (label : ReportedLabel) (pos : Nat) (c1 c2 : Nat)
      (outcome : Option MarkOutcome) (takeId : Nat)
  /-- R46. -/
  | lvls (p : Nat) (peaks : Vector Nat 18)
  /-- R131. -/
  | drne (drain : Drain) (kind : DrneKind) (takeId : Nat) (pos : Nat) (offset : Nat) (reason : DrneReason)
      (holdTimeout : Nat)
  /-- R161. -/
  | bind (station : Nat) (r : BoundReport) (pos : Nat) (long : Bool)
  /-- R160. -/
  | orph (station : Nat) (kind : NoteKind) (target : Nat) (reason : OrphanReason) (pos : Nat) (long : Bool)
  /-- R152. -/
  | nrej (station : Nat) (reason : RejectReason) (first : BitVec 8) (length : Nat) (pos : Nat) (long : Bool)
  /-- R168. -/
  | lflt (consecutive limit : Nat) (error : FrameError)
  deriving DecidableEq, Repr

/-- A notice with its sequence (R173). -/
structure QueuedNotice where
  seq : Nat
  notice : Notice
  deriving DecidableEq, Repr

/-- One mark as a MARK reply reports it (R99). -/
structure MarkReport where
  armed : Bool
  count : Nat
  label : ReportedLabel
  /-- Given for an armed mark alone. -/
  distance : Option Int
  deriving DecidableEq, Repr

/-- The contents of a STAT reply (R176). -/
structure StatReport where
  highest : Option Condition
  conds : Conds
  lostCount : Nat
  queueLevel : Nat
  nextSeq : Nat
  p : Nat
  takeState : TakeState
  openTake : Nat
  list : List Nat
  /-- Enable, link-up, hold and stalled flags of each drain. -/
  drains : PerDrain (Bool × Bool × Bool × Bool)
  ref : RefState
  deriving DecidableEq, Repr

/-- A section of the SLAT reply (R163). -/
inductive SlatSection where
  | header (scene : Option Text) (number : Option Nat) (wild : Bool) (comments commentsLost : Nat)
      (last : Option LastSlate)
  | names (names : Vector (Option Text) 24)
  | comments (sectionNo : Nat) (entries : List Comment)
  deriving DecidableEq, Repr

/-- The results that replies carry (R171), each by the rule of its request. -/
inductive Result where
  /-- No result: a status other than OK (R171). -/
  | none
  | iden
  | stat (r : StatReport)
  | link (limit consecutive : Nat) (fault : Bool) (counts : LinkCounts)
  | rset (config : Bool) (p : Nat)
  | inptSet (settings : ChannelSettings)
  | inptRead (channel : Channel)
  | mixg (gains : Vector (BitVec 16) 16)
  | trak (sources : Vector Nat 24) (links armed : TrackSet)
  | armt (armed : TrackSet)
  | metrRead (peaks : Vector Nat 18) (p : Nat)
  | metrPeriod (period : Nat)
  | tlmd (rate : Rate) (mode : TimeMode) (tolerance : Nat) (ref : RefState)
  | tcst (count : Nat) (anchor : Anchor)
  | jams (ref : RefState)
  | tcqr (reading : Reading) (unit : Timeline)
  | caps (settings : Captures)
  | take (id : Nat) (state : RecState) (p : Nat) (sectionData : TakeSection)
  | rollTaken (id : Nat) (start roll : Nat)
  | rollAlready (id : Nat) (roll : Nat)
  | cutTaken (id : Nat) (cut endTarget : Nat) (closed : Bool)
  | cutNot (state : TakeState) (id : Nat)
  | mark (start stop : MarkReport)
  | trig (line : TrigLine)
  | dran (drain : DrainState) (current : Nat)
  | nlin (rx : NoteRx)
  | note (outcome : NoteOutcome) (p : Nat) (long : Bool)
  | slat (p : Nat) (sectionData : SlatSection)
  deriving DecidableEq, Repr

/-- A reply (R171). -/
structure Reply where
  tag : BitVec 8
  kind : Text
  status : Status
  result : Result
  deriving DecidableEq, Repr

/-- A frame that goes out on the control line (R172). -/
inductive Outgoing where
  | reply (r : Reply)
  | notice (n : QueuedNotice)
  deriving DecidableEq, Repr

/-- The frame in transmission, with its bytes (R172, R183). -/
structure TxFrame where
  frame : Outgoing
  bytes : List Byte
  deriving DecidableEq, Repr

/-- The control link interface (R165). -/
structure Link where
  rx : RxState
  silenceTimer : Timer
  errorLimit : Nat
  consecutive : Nat
  counts : LinkCounts
  replies : List Reply
  notices : List QueuedNotice
  nextSeq : Nat
  lostCount : Nat
  conds : Conds
  tx : Option TxFrame
  /-- The MODEL's own: byte times since the frame in transmission began (log entry 3). -/
  txTimer : Timer
  deriving DecidableEq, Repr

/-- The machine. -/
structure State where
  /-- Commands waiting, first in, first out. -/
  pending : List Instr
  link : Link
  inputs : Inputs
  router : Router
  timeline : Timeline
  ring : Ring
  takes : TakeCtl
  triggers : Triggers
  delivery : Delivery
  notes : NoteRx
  binding : Binding
  /-- The MODEL's own: how many free values have been taken (log entry 5). -/
  freeCount : Nat
  deriving DecidableEq, Repr

/-! ## Power-on values -/

/-- A timer stopped at 0. -/
def Timer.zero : Timer := { count := 0, frac := 0 }

/-- No condition set. -/
def Conds.clear : Conds :=
  { linkFault := false, deliveryGap := false, audioLost := false, referenceLost := false, noticesLost := false,
    drainStalled := false }

/-- All link counts 0. -/
def LinkCounts.zero : LinkCounts :=
  { framesReceived := 0, crcErrors := 0, lengthErrors := 0, byteErrors := 0, silenceDiscards := 0, overrunDiscards := 0,
    bytesSkipped := 0 }

/-- The control link interface after power-on reset (R165). The table says of the silence timer only "Stopped": DESIGN CHOICE,
it stands at 0 (log entry 33). -/
def Link.initial : Link :=
  { rx := .hunt, silenceTimer := Timer.zero, errorLimit := 1, consecutive := 0, counts := LinkCounts.zero, replies := [],
    notices := [], nextSeq := 0, lostCount := 0, conds := Conds.clear, tx := none, txTimer := Timer.zero }

/-- The default settings of an input (R47). -/
def ChannelSettings.initial : ChannelSettings :=
  { gain := 16384, inverted := false, hold := 48, high := 8388607, low := 0, dwell := 0, subOn := false, subValue := 0 }

/-- An input channel after power-on reset (R47). -/
def Channel.initial : Channel :=
  { settings := ChannelSettings.initial, lastGood := 0, holdCount := 0, dropout := false, clip := false, quiet := 0,
    silence := 0, silentFlag := false, peak := 0 }

/-- The input conditioner after power-on reset (R37, R46, R47). R37 says of the sync timer only "Stopped", and no rule gives
the report timer a count at power-on: DESIGN CHOICE, both stand at 0 (log entry 33). -/
def Inputs.initial : Inputs :=
  { channels := Vector.replicate 16 Channel.initial, sync := .acquiring, syncTimer := Timer.zero, reportPeriod := 0,
    reportTimer := Timer.zero }

/-- A mix bus after power-on reset (R50). -/
def MixBus.initial : MixBus := { gains := Vector.replicate 16 0, clip := false, quiet := 0, peak := 0 }

/-- The track sources after power-on reset and RSET CONFIG (R51). -/
def initialSources : Vector Nat 24 := Vector.ofFn fun i => if i.val < 18 then i.val + 1 else 0

/-- The mixer and router after power-on reset (R50, R51, R52, R54). -/
def Router.initial : Router :=
  { busL := MixBus.initial, busR := MixBus.initial, sources := initialSources, links := 0, armed := 0 }

/-- The timeline unit after power-on reset (R18). -/
def Timeline.initial : Timeline :=
  { rate := .r24, mode := .free, tolerance := 24, anchor := { pos := 0, count := 0 }, ref := .freeRun, candidate := none,
    regain := false, loss := 0, mismatch := 0, invalid := 0 }

/-- The ring after power-on reset (R64); the slots' contents are the model's choice (log entry 7). -/
def Ring.initial : Ring := { p := 0, cells := [] }

/-- The default capture settings (R67). -/
def Captures.initial : Captures :=
  { preRoll := 96000, postRoll := 48000, maxLength := 0, window := 1440000, grace := 720000 }

/-- A mark after every kind of reset (R98). -/
def Mark.initial : Mark := { armed := false, count := 0 }

/-- The take controller after power-on reset (R66). -/
def TakeCtl.initial : TakeCtl :=
  { state := .stopped, caps := Captures.initial, table := [], nextId := 1, lastSlate := none, startMark := Mark.initial,
    stopMark := Mark.initial, markDue := none }

/-- A trigger line after power-on reset (R103). -/
def TrigLine.initial : TrigLine :=
  { mode := .off, assertedLow := false, filter := 96, level := none, pending := none, lastEdge := none, edgeCount := 0,
    lastOutcome := none, confirmed := none }

/-- The default settings of a drain (R112). -/
def DrainSettings.initial : DrainSettings :=
  { enabled := false, wordSize := .w24, highFirst := false, blockLength := 2048, holdTimeout := 8 }

/-- A drain after power-on reset; the link-up flag comes from the port (R112, log entry 8). -/
def DrainState.initial (linkUp : Bool) : DrainState :=
  { settings := DrainSettings.initial, linkUp := linkUp, hold := false, timer := Timer.zero, stalled := false,
    gapEpisode := false, inFlight := none, lateCompletions := 0, lateSamples := 0 }

/-- The delivery engine after power-on reset (R133). -/
def Delivery.initial (upA upB : Bool) : Delivery :=
  { list := [], drains := { a := DrainState.initial upA, b := DrainState.initial upB } }

/-- All receiver counts 0. -/
def NoteCounts.zero : NoteCounts :=
  { completed := 0, stray := 0, notAccepted := 0, badAddresses := 0, dropped := 0, long := 0, byAddress := 0,
    byTimeout := 0, byBreak := 0, breaks := 0, framing := 0 }

/-- The note receiver after power-on reset, with the note line at the given level (R135, R147, log entry 9). -/
def NoteRx.initial (lineHigh : Bool) : NoteRx :=
  { accept := [], line := .idle, station := none, buffer := [], long := false, idleTimer := Timer.zero,
    receiving := false, lineHigh := lineHigh, waitHigh := !lineHigh, counts := NoteCounts.zero, completed := [] }

/-- The pending slate after power-on reset (R148). -/
def Binding.initial : Binding :=
  { scene := none, names := Vector.replicate 24 none, number := none, wild := false, comments := [], commentsLost := 0 }

/-- The machine right after power-on reset. -/
def State.reset : State :=
  { pending := [], link := Link.initial, inputs := Inputs.initial, router := Router.initial,
    timeline := Timeline.initial, ring := Ring.initial, takes := TakeCtl.initial,
    triggers := { line1 := TrigLine.initial, line2 := TrigLine.initial }, delivery := Delivery.initial false false,
    notes := NoteRx.initial true, binding := Binding.initial, freeCount := 0 }

end Sys2Proof.Machine
end

