-- ==== Sys2Proof/Machine/Ops.lean ====
section
/-! DEFINITION. The named operations that every block shares: changing one block, timers, counts that stop at a top, the
capture ring's store, and the notice queue. -/

namespace Sys2Proof.Machine

/-! ## One block at a time -/

/-- Change the control link interface. -/
def State.modLink (s : State) (f : Link → Link) : State := { s with link := f s.link }
/-- Change the input conditioner. -/
def State.modInputs (s : State) (f : Inputs → Inputs) : State := { s with inputs := f s.inputs }
/-- Change the mixer and router. -/
def State.modRouter (s : State) (f : Router → Router) : State := { s with router := f s.router }
/-- Change the timeline unit. -/
def State.modTimeline (s : State) (f : Timeline → Timeline) : State := { s with timeline := f s.timeline }
/-- Change the capture ring. -/
def State.modRing (s : State) (f : Ring → Ring) : State := { s with ring := f s.ring }
/-- Change the take controller. -/
def State.modTakes (s : State) (f : TakeCtl → TakeCtl) : State := { s with takes := f s.takes }
/-- Change the trigger unit. -/
def State.modTriggers (s : State) (f : Triggers → Triggers) : State := { s with triggers := f s.triggers }
/-- Change the delivery engine. -/
def State.modDelivery (s : State) (f : Delivery → Delivery) : State := { s with delivery := f s.delivery }
/-- Change the note receiver. -/
def State.modNotes (s : State) (f : NoteRx → NoteRx) : State := { s with notes := f s.notes }
/-- Change the binding unit. -/
def State.modBinding (s : State) (f : Binding → Binding) : State := { s with binding := f s.binding }

/-- One drain. -/
def State.drain (s : State) (d : Drain) : DrainState := s.delivery.drains.get d
/-- Change one drain. -/
def State.modDrain (s : State) (d : Drain) (f : DrainState → DrainState) : State :=
  s.modDelivery fun e => { e with drains := e.drains.modify d f }
/-- Change the condition flags. -/
def State.modConds (s : State) (f : Conds → Conds) : State := s.modLink fun l => { l with conds := f l.conds }

/-- Run an operation for each member of a list, in order. -/
def runAll {α : Type} (f : α → State → State) : List α → State → State
  | [], s => s
  | x :: xs, s => runAll f xs (f x s)

/-! ## Counts -/

/-- A count that stops at its top (R18, R135, R165: at 65,535; R72, R73, R165: at 255). -/
def bump (top n : Nat) : Nat := if n < top then n + 1 else n

/-! ## Timers (log entry 3) -/

/-- One tick of the timebase on a running timer: `unit` ticks make one count, and the timer stops at `limit`. -/
def Timer.advance (unit limit : Nat) (t : Timer) : Timer :=
  if t.count < limit then
    if t.frac + 1 < unit then { t with frac := t.frac + 1 } else { count := t.count + 1, frac := 0 }
  else t

/-- A timer that stands at its limit. -/
def Timer.at (limit : Nat) : Timer := { count := limit, frac := 0 }

/-! ## The capture ring's store (R57, R58, R61) -/

/-- What an unlisted slot holds: 24 zero samples (log entry 7). -/
def zeroSlot : Vector Sample 24 := Vector.replicate 24 0

/-- The contents of one slot. -/
def readSlot : List (Nat × Vector Sample 24) → Nat → Vector Sample 24
  | [], _ => zeroSlot
  | (k, v) :: rest, slot => if k = slot then v else readSlot rest slot

/-- Store 24 samples in one slot, keeping the canonical form. -/
def writeSlot : List (Nat × Vector Sample 24) → Nat → Vector Sample 24 → List (Nat × Vector Sample 24)
  | [], slot, x => if x = zeroSlot then [] else [(slot, x)]
  | (k, v) :: rest, slot, x =>
    if slot < k then (if x = zeroSlot then (k, v) :: rest else (slot, x) :: (k, v) :: rest)
    else if slot = k then (if x = zeroSlot then rest else (k, x) :: rest)
    else (k, v) :: writeSlot rest slot x

/-- Slot numbers rise strictly, and all lie above `low` where one is given. -/
def risingFrom : Option Nat → List (Nat × Vector Sample 24) → Bool
  | _, [] => true
  | none, (k, _) :: rest => risingFrom (some k) rest
  | some low, (k, _) :: rest => decide (low < k) && risingFrom (some k) rest

/-- The canonical form of the ring's store: slot numbers rise strictly, each is a slot of the ring, and no entry equals
what an unlisted slot holds. -/
def Ring.wf (r : Ring) : Bool :=
  risingFrom none r.cells && r.cells.all fun c => decide (c.1 < Config.ringSlots) && decide (c.2 ≠ zeroSlot)

/-- The slot of a position (R2). -/
def slotOf (p : Nat) : Nat := p % Config.ringSlots

/-- The oldest retained position O = max(0, P - 2,097,152) (R2). -/
def oldestRetained (p : Nat) : Nat := p - Config.ringSlots

/-- The oldest retained position of the machine (R60). -/
def State.oldest (s : State) : Nat := oldestRetained s.ring.p

/-- The twenty-four samples of a position, read from its slot. -/
def Ring.samplesAt (r : Ring) (p : Nat) : Vector Sample 24 := readSlot r.cells (slotOf p)

/-- The tracks of a set, in track order (bit 0 is track 1). -/
def tracksOf (mask : TrackSet) : List (Fin 24) := (List.finRange 24).filter fun t => mask.getLsbD t.val

/-- What the ring answers to a sample read (R61): the groups of the positions read, and whether the run is reported short. -/
structure SampleRead where
  groups : List (List Sample)
  short : Bool
  deriving DecidableEq, Repr

/-- A position lies in the retained range, from O to P - 1 (R2, R61). -/
def Ring.retains (r : Ring) (p : Nat) : Bool := decide (oldestRetained r.p ≤ p) && decide (p < r.p)

/-- The positions of a run that lie in the retained range, in order (R61). -/
def Ring.retainedRun (r : Ring) (a n : Nat) : List Nat := ((List.range n).map fun i => a + i).filter r.retains

/-- The group of one position: the samples of the tracks in a mask, in track order (R61). -/
def Ring.group (r : Ring) (mask : TrackSet) (p : Nat) : List Sample := (tracksOf mask).map fun t => (r.samplesAt p)[t]

/-- The sample read of `n` positions from `a` for the tracks of a mask (R61): the groups of the positions inside the retained
range, and whether the run reaches outside it and is reported short. -/
def Ring.read (r : Ring) (a n : Nat) (mask : TrackSet) : SampleRead :=
  { groups := (r.retainedRun a n).map (r.group mask), short := decide ((r.retainedRun a n).length < n) }

/-- The position count after a write (R58 step 2); after 281,474,976,710,655 the value is free (log entry 5). -/
def nextPosition (freeCount p : Nat) : Nat :=
  if p + 1 < Config.positionLimit then p + 1 else (Config.freePosition freeCount).toNat

/-- The ring's write (R58 steps 1 and 2). -/
def State.writeRing (s : State) (x : Vector Sample 24) : State :=
  { s with
    ring := { p := nextPosition s.freeCount s.ring.p, cells := writeSlot s.ring.cells (slotOf s.ring.p) x }
    freeCount := if s.ring.p + 1 < Config.positionLimit then s.freeCount else s.freeCount + 1 }

/-! ## Notices (R173) -/

/-- Hand a notice to the control link interface: it takes the next sequence, and joins the queue or is dropped, counted,
and sets NOTICES LOST. -/
def State.notify (s : State) (n : Notice) : State :=
  s.modLink fun l =>
    if l.notices.length < Config.maxNotices then
      { l with notices := l.notices ++ [{ seq := l.nextSeq, notice := n }], nextSeq := (l.nextSeq + 1) % 65536 }
    else
      { l with nextSeq := (l.nextSeq + 1) % 65536, lostCount := bump Config.countTop l.lostCount
               conds := { l.conds with noticesLost := true } }

end Sys2Proof.Machine
end

