-- ==== Sys2Proof/Machine/Operands.lean ====
section
/-! DEFINITION. The operand forms: numbers that name a thing and are refused outside their set, lengths that are clamped
(R171, 00_scope.md "Refused and clamped"), and the fields of a request's payload, low byte first (R183). -/

namespace Sys2Proof.Machine

/-! ## Clamps and sets -/

/-- Clamp into a range. -/
def clamp (low high n : Nat) : Nat := if n < low then low else if high < n then high else n

/-- An input number 1 to 16. -/
def inputIndex (n : BitVec 8) : Option (Fin 16) :=
  if h : 1 ≤ n.toNat ∧ n.toNat ≤ 16 then some ⟨n.toNat - 1, by omega⟩ else none

/-- A track number 1 to 24. -/
def trackIndex (n : BitVec 8) : Option (Fin 24) :=
  if h : 1 ≤ n.toNat ∧ n.toNat ≤ 24 then some ⟨n.toNat - 1, by omega⟩ else none

/-- A bus number 17 or 18 (R50). -/
def busOf (n : BitVec 8) : Option Bus :=
  if n = 17 then some .l else if n = 18 then some .r else none

/-- A line number 1 or 2 (R108). -/
def lineOf (n : BitVec 8) : Option Line :=
  if n = 1 then some .one else if n = 2 then some .two else none

/-- A drain number 0 or 1 (R113). -/
def drainOf (n : BitVec 8) : Option Drain :=
  if n = 0 then some .a else if n = 1 then some .b else none

/-- A mark number 0 or 1 (R99). -/
def markOf (n : BitVec 8) : Option MarkName :=
  if n = 0 then some .start else if n = 1 then some .stop else none

/-- A code 0 or 1. -/
def flagOf (n : BitVec 8) : Option Bool :=
  if n = 0 then some false else if n = 1 then some true else none

/-- A rate code 0 to 5 (R4). -/
def rateOf (n : BitVec 8) : Option Rate :=
  if n = 0 then some .r23976 else if n = 1 then some .r24 else if n = 2 then some .r25
  else if n = 3 then some .r2997 else if n = 4 then some .r2997drop else if n = 5 then some .r30 else none

/-- A mode code 0 to 2 (R29). -/
def timeModeOf (n : BitVec 8) : Option TimeMode :=
  if n = 0 then some .free else if n = 1 then some .jamOnce else if n = 2 then some .follow else none

/-- A trigger mode code 0 to 3 (R108). -/
def trigModeOf (n : BitVec 8) : Option TrigMode :=
  if n = 0 then some .off else if n = 1 then some .level else if n = 2 then some .toggle
  else if n = 3 then some .edge else none

/-- A word size, 16 or 24 (R113). -/
def wordSizeOf (n : BitVec 8) : Option WordSize :=
  if n = 16 then some .w16 else if n = 24 then some .w24 else none

/-- An error limit code 0 to 3, for the limits 1, 2, 4 and 8 (R178). -/
def errorLimitOf (n : BitVec 8) : Option Nat :=
  if n = 0 then some 1 else if n = 1 then some 2 else if n = 2 then some 4 else if n = 3 then some 8 else none

/-- The settings of an INPT set: the codes checked, the rest clamped (R48). -/
def channelSettingsOf (f : InputFields) : Option ChannelSettings :=
  match flagOf f.polarity, flagOf f.substitute with
  | some inverted, some subOn =>
    some { gain := f.gain, inverted := inverted, hold := clamp 0 480 f.hold.toNat,
           high := clamp 1 8388608 f.high.toNat, low := clamp 0 8388607 f.low.toNat,
           dwell := clamp 0 480000 f.dwell.toNat, subOn := subOn, subValue := f.value }
  | _, _ => none

/-- The settings of a DRAN set: the codes checked, the lengths clamped (R113). -/
def drainSettingsOf (f : DrainFields) : Option DrainSettings :=
  match flagOf f.enable, wordSizeOf f.wordSize, flagOf f.byteOrder with
  | some enabled, some wordSize, some highFirst =>
    some { enabled := enabled, wordSize := wordSize, highFirst := highFirst,
           blockLength := clamp 256 8192 f.blockLength.toNat, holdTimeout := clamp 1 60 f.holdTimeout.toNat }
  | _, _, _ => none

/-- The settings of a CAPS set, clamped and then converted to sample periods (R3, R67, R68). -/
def capturesOf (f : CaptureFields) : Captures :=
  { preRoll := clamp 0 10000 f.preRoll.toNat * 48
    postRoll := clamp 0 10000 f.postRoll.toNat * 48
    maxLength := clamp 0 240 f.maxLength.toNat * 2880000
    window := clamp 0 120 f.window.toNat * 48000
    grace := clamp 0 60 f.grace.toNat * 48000 }

/-- The report period of a METR period request (R45). -/
def reportPeriodOf (n : Nat) : Nat := if n = 0 then 0 else clamp 50 1000 n

/-! ## Payload fields -/

/-- The byte at an offset of a payload. -/
def byteAt (p : Text) (i : Nat) : BitVec 8 := p.getD i 0
/-- A U16 field. -/
def u16At (p : Text) (i : Nat) : BitVec 16 := byteAt p (i + 1) ++ byteAt p i
/-- A U24, S24 or Mask field. -/
def u24At (p : Text) (i : Nat) : BitVec 24 := byteAt p (i + 2) ++ byteAt p (i + 1) ++ byteAt p i
/-- A U32 field. -/
def u32At (p : Text) (i : Nat) : BitVec 32 := byteAt p (i + 3) ++ byteAt p (i + 2) ++ byteAt p (i + 1) ++ byteAt p i
/-- A Label field. -/
def labelAt (p : Text) (i : Nat) : Label :=
  { hours := byteAt p i, minutes := byteAt p (i + 1), seconds := byteAt p (i + 2), frames := byteAt p (i + 3) }

/-! ## Slot words of the audio input link (R186) -/

/-- The classes of a slot (R35). -/
inductive SlotClass where
  | good | flagged | invalid
  deriving DecidableEq, Repr

/-- Bits 31 to 8: the sample. -/
def slotSample (w : BitVec 32) : Sample := w.extractLsb' 8 24

/-- Bits 7 and 6: the valid and dropout flags give the class (R35). -/
def slotClass (w : BitVec 32) : SlotClass :=
  if w.getLsbD 7 then (if w.getLsbD 6 then .flagged else .good) else .invalid

/-! ## Note line characters (R134, R186) -/

/-- Bit times 1 to 8, least significant first: the value. -/
def characterValue (bits : BitVec 11) : BitVec 8 := bits.extractLsb' 1 8

/-- Bit time 9: the marker. -/
def characterMarked (bits : BitVec 11) : Bool := bits.getLsbD 9

/-- Bit time 10: the stop bit is high. -/
def characterStopHigh (bits : BitVec 11) : Bool := bits.getLsbD 10

/-- A printable character, 0x20 to 0x7E (R134). -/
def printable (b : BitVec 8) : Bool := decide (0x20 ≤ b.toNat) && decide (b.toNat ≤ 0x7E)

end Sys2Proof.Machine
end

