-- ==== Sys2Proof/Machine/NoteLine.lean ====
section
/-! DEFINITION. The note receiver: characters, addresses, data, partial notes, the idle timer, breaks (R134 to R144, R147). -/

namespace Sys2Proof.Machine

/-- Change the counts of the receiver. -/
def NoteRx.count (x : NoteRx) (f : NoteCounts → NoteCounts) : NoteRx := { x with counts := f x.counts }

/-- The receiver returns to IDLE (R135). -/
def NoteRx.toIdle (x : NoteRx) : NoteRx :=
  { x with line := .idle, station := none, buffer := [], long := false, idleTimer := Timer.zero }

/-- A station is accepted (R136). -/
def NoteRx.accepts (x : NoteRx) (station : Nat) : Bool := x.accept.isEmpty || x.accept.contains station

/-- An address of an accepted station opens a note (R138). -/
def NoteRx.openFor (x : NoteRx) (station : Nat) : NoteRx :=
  { x with line := .opened, station := some station, buffer := [], long := false, idleTimer := Timer.zero }

/-- An address taken in IDLE (R138). -/
def NoteRx.idleAddress (x : NoteRx) (v : BitVec 8) : NoteRx :=
  if 1 ≤ v.toNat ∧ v.toNat ≤ 30 then
    if x.accepts v.toNat then x.openFor v.toNat
    else x.count fun c => { c with notAccepted := bump Config.countTop c.notAccepted }
  else x.count fun c => { c with badAddresses := bump Config.countTop c.badAddresses }

/-- A data character taken in IDLE (R138). -/
def NoteRx.idleData (x : NoteRx) : NoteRx := x.count fun c => { c with stray := bump Config.countTop c.stray }

/-- An address taken in OPEN: the partial note is discarded, and the address is taken as in IDLE (R141). -/
def NoteRx.openAddress (x : NoteRx) (v : BitVec 8) : NoteRx :=
  ((x.count fun c => { c with byAddress := bump Config.countTop c.byAddress }).toIdle).idleAddress v

/-- A data character other than the terminator taken in OPEN (R139). -/
def NoteRx.openData (x : NoteRx) (v : BitVec 8) : NoteRx :=
  let y := { x with idleTimer := Timer.zero }
  if printable v then
    if y.buffer.length < Config.maxNoteText then { y with buffer := y.buffer ++ [v] } else { y with long := true }
  else y.count fun c => { c with dropped := bump Config.countTop c.dropped }

/-- The terminator taken in OPEN completes the note, which is handed on (R140, R145). -/
def NoteRx.complete (x : NoteRx) (p : Nat) : NoteRx :=
  let note : CompletedNote := { station := x.station.getD 0, text := x.buffer, long := x.long, position := p }
  let y := (x.count fun c =>
    { c with completed := bump Config.countTop c.completed
             long := if x.long then bump Config.countTop c.long else c.long }).toIdle
  { y with completed := y.completed ++ [note] }

/-- A character whose stop bit is high (R134, R138 to R141). -/
def NoteRx.takeGood (x : NoteRx) (v : BitVec 8) (marked : Bool) (p : Nat) : NoteRx :=
  match x.line with
  | .idle => if marked then x.idleAddress v else x.idleData
  | .opened => if marked then x.openAddress v else if v = 0x0D then x.complete p else x.openData v
  | .breaking => x

/-- A character that arrives while the receiver waits for the line to go high: it is not taken and nothing is counted (R147),
and its stop bit shows the line's level, which ends the wait if it is high (log entry 9). -/
def NoteRx.passCharacter (x : NoteRx) (stopHigh : Bool) : NoteRx :=
  { x with receiving := false, lineHigh := stopHigh, waitHigh := !stopHigh }

/-- A character of the note line, at its stop bit (R134, R144). In BREAK none is taken (R143), nor while the receiver waits
for the line to go high (R147). A stop bit sampled high shows the line high, and one sampled low shows it low: the idle timer
then resumes once the line is high again (R142, R144, log entry 9). -/
def NoteRx.character (x : NoteRx) (bits : BitVec 11) (p : Nat) : NoteRx :=
  if bits.getLsbD 0 = true ∨ x.line = .breaking then x
  else if x.waitHigh then x.passCharacter (characterStopHigh bits)
  else if characterStopHigh bits then
    ({ x with receiving := false, lineHigh := true } : NoteRx).takeGood (characterValue bits) (characterMarked bits) p
  else
    ({ x with receiving := false, lineHigh := false } : NoteRx).count fun c =>
      { c with framing := bump Config.countTop c.framing }

/-- The line goes high (R143, R147, log entry 9): BREAK ends, and a receiver that waited for it takes characters. -/
def NoteRx.goesHigh (x : NoteRx) : NoteRx :=
  { x with line := if x.line = .breaking then .idle else x.line, lineHigh := true, waitHigh := false }

/-- The falling edge of a start bit pauses the idle timer (R142). The line is low from it; a line that falls has been high, so
a wait for the line is over (R147, log entry 9) and the character that arrives is taken, also where RSET ENGINE comes in
between (R135). In BREAK nothing is taken (R143). -/
def NoteRx.startEdge (x : NoteRx) : NoteRx :=
  if x.line = .breaking then x else { x with receiving := true, lineHigh := false, waitHigh := false }

/-- The receiver after power-on reset, which takes the line at its present level (R147). DESIGN CHOICE: while the bits of a
character arrive the line is taken as low, so a character begun before the reset is not taken (log entry 9). DESIGN CHOICE:
the completed notes that the binding unit has not yet taken (R145) are dropped with everything else, which RSET ENGINE does
not do (log entry 14). -/
def NoteRx.powerOn (x : NoteRx) : NoteRx := NoteRx.initial (x.lineHigh && !x.receiving)

/-- The line is idle high with a note in OPEN: the idle timer runs (R142). -/
def NoteRx.idleRuns (x : NoteRx) : Bool := decide (x.line = .opened) && !x.receiving && x.lineHigh

/-- The idle timer of a note in OPEN reaches 44 bit times (R142, log entry 4). It counts a high line alone, so its expiry
also shows the line high (log entry 9). -/
def NoteRx.timeout (x : NoteRx) : NoteRx :=
  if x.line = .opened ∧ x.receiving = false then
    (x.goesHigh.count fun c => { c with byTimeout := bump Config.countTop c.byTimeout }).toIdle
  else x

/-- A partial note is discarded by a break (R143). -/
def NoteRx.discardByBreak (x : NoteRx) : NoteRx :=
  if x.line = .opened then x.count fun c => { c with byBreak := bump Config.countTop c.byBreak } else x

/-- The line has been low for more than 11 bit times (R143). -/
def NoteRx.enterBreak (x : NoteRx) : NoteRx :=
  if x.line = .breaking then x
  else
    { ((x.discardByBreak.count fun c => { c with breaks := bump Config.countTop c.breaks }).toIdle) with
      line := .breaking, receiving := false, lineHigh := false }

/-- The receiver after RSET ENGINE (R135, R147): a character whose bits are arriving is not interrupted, and a line that
is low is taken as after power-on reset. -/
def NoteRx.engineReset (x : NoteRx) : NoteRx :=
  { x.toIdle with counts := NoteCounts.zero, waitHigh := !x.lineHigh && !x.receiving }

end Sys2Proof.Machine
end

