-- ==== Sys2Proof/Machine/Flags.lean ====
section
/-! DEFINITION. The condition flags of the control link interface: their priority, and who sets and clears them (R174,
R175). -/

namespace Sys2Proof.Machine

/-- One flag. -/
def Conds.get (c : Conds) : Condition → Bool
  | .linkFault => c.linkFault
  | .deliveryGap => c.deliveryGap
  | .audioLost => c.audioLost
  | .referenceLost => c.referenceLost
  | .noticesLost => c.noticesLost
  | .drainStalled => c.drainStalled

/-- Give one flag a value. -/
def Conds.put (c : Conds) (k : Condition) (v : Bool) : Conds :=
  match k with
  | .linkFault => { c with linkFault := v }
  | .deliveryGap => { c with deliveryGap := v }
  | .audioLost => { c with audioLost := v }
  | .referenceLost => { c with referenceLost := v }
  | .noticesLost => { c with noticesLost := v }
  | .drainStalled => { c with drainStalled := v }

/-- The conditions in priority order (R174). -/
def Condition.all : List Condition :=
  [.linkFault, .deliveryGap, .audioLost, .referenceLost, .noticesLost, .drainStalled]

/-- The highest set condition, or none (R174). -/
def Conds.highest (c : Conds) : Option Condition := Condition.all.find? c.get

/-- Set a condition (R174). -/
def State.raise (s : State) (k : Condition) : State := s.modConds fun c => c.put k true

/-- Clear a condition (R175). -/
def State.lower (s : State) (k : Condition) : State := s.modConds fun c => c.put k false

/-- No drain is stalled. -/
def State.noDrainStalled (s : State) : Bool := !(s.drain .a).stalled && !(s.drain .b).stalled

/-- DRAIN STALLED clears when no drain is stalled (R125, R175). -/
def State.settleStallCondition (s : State) : State :=
  if s.noDrainStalled then s.lower .drainStalled else s

/-- What the STAT reply clears: LINK FAULT, DELIVERY GAP, NOTICES LOST and the lost count (R175). -/
def State.clearReported (s : State) : State :=
  s.modLink fun l =>
    { l with lostCount := 0, conds := { l.conds with linkFault := false, deliveryGap := false, noticesLost := false } }

end Sys2Proof.Machine
end

