-- ==== Sys2Proof/Machine/Timecode.lean ====
section
/-! DEFINITION. Rates, the frame grid, day length, circular distance, labels and readings (R4 to R15), and the two tests
of a timecode frame (R22). -/

namespace Sys2Proof.Machine

/-! ## Rates (R4) -/

/-- Nominal frames per second. -/
def Rate.nominal : Rate → Nat
  | .r23976 => 24 | .r24 => 24 | .r25 => 25 | .r2997 => 30 | .r2997drop => 30 | .r30 => 30

/-- Numerator of the samples-per-frame fraction. -/
def Rate.num : Rate → Nat
  | .r23976 => 2002 | .r24 => 2000 | .r25 => 1920 | .r2997 => 8008 | .r2997drop => 8008 | .r30 => 1600

/-- Denominator of the samples-per-frame fraction. -/
def Rate.den : Rate → Nat
  | .r23976 => 1 | .r24 => 1 | .r25 => 1 | .r2997 => 5 | .r2997drop => 5 | .r30 => 1

/-- Whether labels have the drop form. -/
def Rate.isDrop : Rate → Bool
  | .r2997drop => true
  | .r23976 => false | .r24 => false | .r25 => false | .r2997 => false | .r30 => false

/-- The rate code. -/
def Rate.code : Rate → Nat
  | .r23976 => 0 | .r24 => 1 | .r25 => 2 | .r2997 => 3 | .r2997drop => 4 | .r30 => 5

/-- The day length Dfr (R7). -/
def Rate.day : Rate → Nat
  | .r23976 => 2073600 | .r24 => 2073600 | .r25 => 2160000 | .r2997 => 2592000 | .r2997drop => 2589408 | .r30 => 2592000

/-- ceil(num / den). -/
def Rate.ceilFrame (r : Rate) : Nat := (r.num + r.den - 1) / r.den

/-- floor(num / den). -/
def Rate.floorFrame (r : Rate) : Nat := r.num / r.den

/-- The loss limit: 2 * ceil(num / den) advances of P (R22). -/
def Rate.lossLimit (r : Rate) : Nat := 2 * r.ceilFrame

/-! ## The frame grid (R5, R6, R8, R9) -/

/-- S(k) = floor(k * num / den) (R5). -/
def frameStart (r : Rate) (k : Int) : Int := k * (r.num : Int) / (r.den : Int)

/-- The frame index of an offset from the anchor position (R6). -/
def frameIndex (r : Rate) (d : Int) : Int := ((d + 1) * (r.den : Int) - 1) / (r.num : Int)

/-- The frame count of a position (R6). -/
def Timeline.countAt (t : Timeline) (p : Nat) : Nat :=
  (((t.anchor.count : Int) + frameIndex t.rate ((p : Int) - t.anchor.pos)) % (t.rate.day : Int)).toNat

/-- The phase of a position (R6). -/
def Timeline.phaseAt (t : Timeline) (p : Nat) : Nat :=
  (((p : Int) - t.anchor.pos) - frameStart t.rate (frameIndex t.rate ((p : Int) - t.anchor.pos))).toNat

/-- The circular distance from one frame count to another (R8). -/
def dist (r : Rate) (a b : Nat) : Int :=
  ((b : Int) - (a : Int) + (r.day / 2 : Nat)) % (r.day : Int) - (r.day / 2 : Nat)

/-- The expected start E(c) of a frame count (R9); it may lie before position 0. -/
def Timeline.expected (t : Timeline) (c : Nat) : Int :=
  (t.anchor.pos : Int) + frameStart t.rate (dist t.rate t.anchor.count c)

/-! ## Labels (R10 to R14) -/

/-- The non-drop conversion with a nominal rate F (R10). -/
def nonDropLabel (f c : Nat) : Label :=
  { hours := BitVec.ofNat 8 (c / (3600 * f)), minutes := BitVec.ofNat 8 (c / (60 * f) % 60),
    seconds := BitVec.ofNat 8 (c / f % 60), frames := BitVec.ofNat 8 (c % f) }

/-- The labels left out before a count at 29.97 drop (R11 step 2). -/
def droppedBefore (c : Nat) : Nat :=
  if c % 17982 < 2 then 18 * (c / 17982) else 18 * (c / 17982) + 2 * ((c % 17982 - 2) / 1798)

/-- The label of a frame count, with its drop flag (R10, R11, R14). A count outside the day has a free label
(log entry 6). -/
def labelOf (r : Rate) (c : Nat) : ReportedLabel :=
  if c < r.day then
    { label := if r.isDrop then nonDropLabel 30 (c + droppedBefore c) else nonDropLabel r.nominal c, drop := r.isDrop }
  else
    { label := { hours := (Config.labelOutOfDay r.code c).extractLsb' 0 8,
                 minutes := (Config.labelOutOfDay r.code c).extractLsb' 8 8,
                 seconds := (Config.labelOutOfDay r.code c).extractLsb' 16 8,
                 frames := (Config.labelOutOfDay r.code c).extractLsb' 24 8 },
      drop := r.isDrop }

/-- The validity of a label at a rate (R12). -/
def validLabel (r : Rate) (l : Label) : Bool :=
  decide (l.hours.toNat ≤ 23) && decide (l.minutes.toNat ≤ 59) && decide (l.seconds.toNat ≤ 59)
    && decide (l.frames.toNat < r.nominal)
    && !(r.isDrop && decide (l.seconds.toNat = 0) && decide (l.frames.toNat ≤ 1) && decide (l.minutes.toNat % 10 ≠ 0))

/-- The frame count of a label, by the non-drop formula with a nominal rate F (R13). -/
def plainCount (f : Nat) (l : Label) : Nat :=
  3600 * f * l.hours.toNat + 60 * f * l.minutes.toNat + f * l.seconds.toNat + l.frames.toNat

/-- The frame count of a valid label (R13). -/
def labelCount (r : Rate) (l : Label) : Nat :=
  if r.isDrop then
    plainCount 30 l - 2 * ((60 * l.hours.toNat + l.minutes.toNat) - (60 * l.hours.toNat + l.minutes.toNat) / 10)
  else plainCount r.nominal l

/-- A timeline reading of a position (R15). -/
def Timeline.readingAt (t : Timeline) (p : Nat) : Reading :=
  { count := t.countAt p, phase := t.phaseAt p, label := labelOf t.rate (t.countAt p), rate := t.rate }

/-! ## The tests of a valid frame (R22) -/

/-- An error lies from -T to +T. -/
def withinTolerance (t : Nat) (e : Int) : Bool := decide (-(t : Int) ≤ e) && decide (e ≤ (t : Int))

/-- The error of a frame against the anchor in force (R22). -/
def Timeline.errorOf (t : Timeline) (c : Nat) (arrival : Nat) : Int := (arrival : Int) - t.expected c

/-- Agreement with the anchor (R22). -/
def Timeline.agrees (t : Timeline) (c : Nat) (arrival : Nat) : Bool :=
  withinTolerance t.tolerance (t.errorOf c arrival)

/-- Consistency of a later frame with an earlier one (R22). -/
def Timeline.consistent (t : Timeline) (first : Anchor) (c : Nat) (arrival : Nat) : Bool :=
  decide (c = (first.count + 1) % t.rate.day)
    && decide ((t.rate.floorFrame : Int) - t.tolerance ≤ (arrival : Int) - first.pos)
    && decide ((arrival : Int) - first.pos ≤ (t.rate.ceilFrame : Int) + t.tolerance)

end Sys2Proof.Machine
end

