-- ==== Sys2Proof/Machine/Records.lean ====
section
/-! DEFINITION. Take records in the take table: finding and changing them, event intake (R55, R88), and FINAL (R91, R130). -/

namespace Sys2Proof.Machine

/-! ## The table (R70, R76) -/

/-- The record of a take id, if the table holds one. -/
def State.record? (s : State) (id : Nat) : Option TakeRecord := s.takes.table.find? fun r => r.id == id

/-- The open take's record (R66): the record in state OPEN. -/
def State.openRecord? (s : State) : Option TakeRecord := s.takes.table.find? fun r => r.state == .opened

/-- The most recent CLOSED record (R89). -/
def State.recentClosed? (s : State) : Option TakeRecord := s.takes.table.reverse.find? fun r => r.state == .closed

/-- The id of the open take, or 0 (R176). -/
def State.openId (s : State) : Nat := match s.openRecord? with | some r => r.id | none => 0

/-- Change the record of a take id. -/
def State.updRecord (s : State) (id : Nat) (f : TakeRecord → TakeRecord) : State :=
  s.modTakes fun t => { t with table := t.table.map fun r => if r.id = id then f r else r }

/-- Change one delivery section of a take. -/
def State.updSection (s : State) (id : Nat) (d : Drain) (f : Section → Section) : State :=
  s.updRecord id fun r => { r with sections := r.sections.modify d f }

/-- A section in PENDING or ACTIVE (R109). -/
def Section.live (x : Section) : Bool :=
  match x.state with
  | .pending => true
  | .active => true
  | .off => false
  | .done => false
  | .abandoned => false

/-- A record with a section in PENDING or ACTIVE. -/
def TakeRecord.live (r : TakeRecord) : Bool := r.sections.a.live || r.sections.b.live

/-- The header section of a record (R93). -/
def TakeRecord.header (r : TakeRecord) : Header :=
  { start := r.start, roll := r.roll, rollCause := r.rollCause, cut := r.cut, cutCause := r.cutCause,
    endTarget := r.endTarget, endPos := r.endPos, windowEnd := r.windowEnd, reading := r.reading, mask := r.mask,
    tailShortened := r.tailShortened, limited := r.limited, earlyFinal := r.earlyFinal, truncated := r.truncated,
    circle := r.slate.circle, noGood := r.slate.noGood, falseTake := r.slate.falseTake, wild := r.slate.wild,
    scene := r.slate.scene, number := r.slate.number, numbering := r.slate.numbering, prior := r.slate.prior,
    commentCount := r.slate.comments.length, commentsLost := r.slate.commentsLost, eventCount := r.events.length,
    eventsLost := r.eventsLost }

/-! ## Events for the open take (R55, R88) -/

/-- The gain of an input 1 to 16 on a bus is not 0. -/
def MixBus.hears (b : MixBus) (source : Nat) : Bool :=
  if h : 1 ≤ source ∧ source ≤ 16 then b.gains[source - 1]'(by omega) != 0 else false

/-- The router's feeding answer for an input 1 to 16 or a bus 17 or 18 (R55). -/
def Router.feeds (rt : Router) (mask : TrackSet) (source : Nat) : Bool :=
  (tracksOf mask).any fun t =>
    rt.sources[t] == source
      || (rt.sources[t] == 17 && rt.busL.hears source)
      || (rt.sources[t] == 18 && rt.busR.hears source)

/-- Whether an event feeds the open take: those of the module and the timeline always do (R88). -/
def State.eventFeeds (s : State) (mask : TrackSet) (e : Event) : Bool :=
  match e.kind with
  | .dropout => s.router.feeds mask e.source
  | .clip => s.router.feeds mask e.source
  | .silent => s.router.feeds mask e.source
  | .audioBreak => true
  | .tcJump => true
  | .refLost => true
  | .refRegained => true

/-- Enter an event in a record's event list, or count it lost (R73, R88). -/
def TakeRecord.enter (e : Event) (r : TakeRecord) : TakeRecord :=
  if r.events.length < Config.maxEvents then { r with events := r.events ++ [e] }
  else { r with eventsLost := bump 255 r.eventsLost }

/-- Hand an event to the take controller (R88). -/
def State.intake (s : State) (e : Event) : State :=
  match s.openRecord? with
  | none => s
  | some r => if s.eventFeeds r.mask e then s.updRecord r.id (TakeRecord.enter e) else s

/-! ## FINAL (R91, R130) -/

/-- Whether a drain's block in flight is an unsettled block of a take. -/
def DrainState.unsettledOf (x : DrainState) (id : Nat) : Option Block :=
  match x.inFlight with
  | some b => if b.header.takeId = id ∧ b.settled = false then some b else none
  | none => none

/-- Settle a take's block in flight on one drain: its count is abandoned and the block is marked (R130). -/
def State.settleOn (s : State) (id : Nat) (d : Drain) : State :=
  match (s.drain d).unsettledOf id with
  | some b =>
    (s.updSection id d fun x => { x with abandoned := x.abandoned + b.header.count }).modDrain d
      fun x => { x with inFlight := some { b with settled := true } }
  | none => s

/-- Make a record FINAL: its blocks in flight are settled first, then its state becomes FINAL and FINL is queued with its
header section (R91, R130); by eviction EARLY FINAL is set (R77). -/
def State.makeFinal (s : State) (id : Nat) (early : Bool) : State :=
  let s1 := ((s.settleOn id .a).settleOn id .b).updRecord id fun r =>
    { r with state := .final, earlyFinal := r.earlyFinal || early }
  match s1.record? id with
  | some r => s1.notify (.finl id r.header)
  | none => s1

/-- The three conditions of R91 for a record. -/
def State.isDueFinal (s : State) (r : TakeRecord) : Bool :=
  r.state == .closed && !s.delivery.list.contains r.id
    && (match r.windowEnd with | some w => decide (w ≤ s.ring.p) | none => false)

/-- The test of R91 for one take. -/
def State.finalTest (s : State) (id : Nat) : State :=
  match s.record? id with
  | some r => if s.isDueFinal r then s.makeFinal id false else s
  | none => s

end Sys2Proof.Machine
end

