-- ==== Sys2Proof/Machine/Samples.lean ====
section
/-! DEFINITION. The sample arithmetic: polarity, gain, saturation (R38, R49) and the narrowing of 16-bit drains (R119). -/

namespace Sys2Proof.Machine

/-- Clamp an integer to the 24-bit range (R38 step 3). -/
def saturate24 (x : Int) : Int := if x < -8388608 then -8388608 else if 8388607 < x then 8388607 else x

/-- Polarity inversion: the negation of -8,388,608 is 8,388,607 (R38 step 1). -/
def invert (x : Int) : Int := if x = -8388608 then 8388607 else -x

/-- Gain: floor((x * g + 8,192) / 16,384) (R38 step 2). -/
def scale (x : Int) (gain : BitVec 16) : Int := (x * (gain.toNat : Int) + 8192) / 16384

/-- The conditioned value of a good or flagged slot (R38). -/
def conditionSample (c : ChannelSettings) (x : Sample) : Sample :=
  BitVec.ofInt 24 (saturate24 (scale (if c.inverted then invert x.toInt else x.toInt) c.gain))

/-- The magnitude of a sample, 0 to 8,388,608. -/
def magnitude (x : Sample) : Nat := x.toInt.natAbs

/-- The narrowing of a sample to 16 bits: floor((x + 128) / 256), at most 32,767 (R119). -/
def narrow16 (x : Sample) : Int := min ((x.toInt + 128) / 256) 32767

end Sys2Proof.Machine
end

