-- ==== Sys2Proof/Machine/DeliveryOps.lean ====
section
/-! DEFINITION. The delivery engine's operations: the delivery list and the current takes (R109, R111), gaps (R127, R128),
overrun pushes (R126), DONE (R117), truncation (R129), aborts (R115, R122), stalls (R125), and the forming of blocks
(R116 to R120). -/

namespace Sys2Proof.Machine

/-! ## The list and the current takes -/

/-- Whether a take in the list still has a section in PENDING or ACTIVE (R109). -/
def State.stillDelivering (s : State) (id : Nat) : Bool :=
  match s.record? id with
  | some r => r.live
  | none => false

/-- A drain's current take: the oldest in the list whose section for it is PENDING or ACTIVE (R111). -/
def State.currentTake (s : State) (d : Drain) : Option Nat :=
  s.delivery.list.find? fun id =>
    match s.record? id with
    | some r => (r.sections.get d).live
    | none => false

/-- The record of a drain's current take. -/
def State.currentRecord (s : State) (d : Drain) : Option TakeRecord :=
  match s.currentTake d with
  | some id => s.record? id
  | none => none

/-- A drain's current take moves from PENDING to ACTIVE (R111). -/
def State.activateOn (s : State) (d : Drain) : State :=
  match s.currentTake d with
  | some id => s.updSection id d fun x => if x.state = .pending then { x with state := .active } else x
  | none => s

/-- Both drains' current takes become ACTIVE (R111). -/
def State.activate (s : State) : State := (s.activateOn .a).activateOn .b

/-- Every take with no section in PENDING or ACTIVE leaves the list, oldest first; the take controller tests each for
FINAL (R90, R91, R109); the drains move on to their next takes (R111). -/
def State.sweepList (s : State) : State :=
  (runAll (fun id s => s.finalTest id) (s.delivery.list.filter fun id => !s.stillDelivering id)
    (s.modDelivery fun e => { e with list := e.list.filter fun id => s.stillDelivering id })).activate

/-- A section becomes DONE when its take is closed, its formation cursor equals the end, and no block of the take is in
flight on the drain (R117). -/
def State.testDone (s : State) (id : Nat) (d : Drain) : State :=
  match s.record? id with
  | none => s
  | some r =>
    if r.state ≠ .opened ∧ (r.sections.get d).live = true ∧ r.endPos = some (r.sections.get d).formation
        ∧ ((s.drain d).inFlight.all fun b => b.header.takeId ≠ id) = true then
      s.updSection id d fun x => { x with state := .done }
    else s

/-- The test for DONE, and what follows from it for the list. -/
def State.settleDone (s : State) (id : Nat) (d : Drain) : State := (s.testDone id d).sweepList

/-! ## Gaps -/

/-- Write a lost run into the gap list (R127). -/
def Section.recordGap (x : Section) (offset length : Nat) : Section :=
  match x.gaps.getLast? with
  | some g =>
    if offset = g.offset + g.length then
      { x with gaps := x.gaps.dropLast ++ [{ offset := g.offset, length := g.length + length }] }
    else if offset + length = g.offset then
      { x with gaps := x.gaps.dropLast ++ [{ offset := offset, length := g.length + length }] }
    else if x.gaps.length < Config.maxGaps then
      { x with gaps := x.gaps ++ [{ offset := offset, length := length }] }
    else { x with notListed := bump Config.countTop x.notListed }
  | none => { x with gaps := [{ offset := offset, length := length }] }

/-- Every gap tests the drain's gap episode flag: a new episode sets the flag and DELIVERY GAP and queues DRNE GAP
(R128, R131). -/
def State.gapEpisodeTest (s : State) (d : Drain) (takeId pos offset : Nat) (reason : DrneReason) : State :=
  if (s.drain d).gapEpisode then s
  else
    ((s.modDrain d fun x => { x with gapEpisode := true }).raise .deliveryGap).notify
      (.drne d .gap takeId pos offset reason (s.drain d).settings.holdTimeout)

/-- Add a lost run to a section's gap total and gap list, and set gap pending (R126, R127, R128). -/
def Section.lose (x : Section) (offset length : Nat) : Section :=
  { (x.recordGap offset length) with gapTotal := x.gapTotal + length, gapPending := true }

/-- The push of one section (R126). -/
def State.push (s : State) (id : Nat) (d : Drain) : State :=
  match s.record? id with
  | none => s
  | some r =>
    let f := (r.sections.get d).formation
    let upTo := match r.endPos with | some e => min s.oldest e | none => s.oldest
    if (r.sections.get d).live = true ∧ f < upTo then
      ((s.updSection id d fun x =>
          { (x.lose (f - r.start) (upTo - f)) with formation := x.formation + (upTo - f)
                                                   confirmed := x.confirmed + (upTo - f) }).gapEpisodeTest
        d id f (f - r.start) .push).settleDone id d
    else s

/-- The overrun pushes of one write: every take of the list in list order, and each drain of it (R126). DESIGN CHOICE: drain A
is pushed before drain B, an order the rule does not give (log entry 36). -/
def State.overrun (s : State) : State :=
  runAll (fun id s => (s.push id .a).push id .b) s.delivery.list s

/-! ## Entering and truncation -/

/-- A section as the delivery engine sets it when its take enters the list, or OFF (R110). -/
def newSection (pending : Bool) (start : Nat) : Section :=
  { state := if pending then .pending else .off, formation := start, confirmed := start, nextSeq := 0, delivered := 0,
    gapTotal := 0, abandoned := 0, gaps := [], notListed := 0, gapPending := false, owing := false }

/-- Give up the rest of a section by truncation (R129). -/
def Section.truncateAt (x : Section) (e : Nat) : Section :=
  if x.live then { x with state := .abandoned, abandoned := x.abandoned + (e - x.formation) } else x

/-- Truncate the oldest take of the list; it leaves the list, and each drain whose current take it was moves on at once (R111,
R129). DEDUCED: a worked figure of the same file moves a drain with a block in flight only when that block ends; the rules
are followed, and such a drain forms nothing until then (R116, log entry 35). -/
def State.truncateOldest (s : State) : State :=
  match s.delivery.list with
  | [] => s
  | id :: _ =>
    (s.updRecord id fun r =>
      { r with truncated := true
               sections := { a := r.sections.a.truncateAt (r.endPos.getD 0)
                             b := r.sections.b.truncateAt (r.endPos.getD 0) } }).sweepList

/-- A take enters at the end of the list, the oldest being truncated first when the list is full (R78 step 4, R109). -/
def State.enterList (s : State) (id : Nat) : State :=
  (if s.delivery.list.length < Config.maxDelivering then s else s.truncateOldest).modDelivery
    fun e => { e with list := e.list ++ [id] }

/-! ## The end of a take (R117) -/

/-- An abandonment left open by R115 is counted when the end is handed over. -/
def Section.settleOwing (x : Section) (e : Nat) : Section :=
  if x.owing then { x with abandoned := x.abandoned + (e - x.confirmed), owing := false } else x

/-- The end of a take is handed to the delivery engine (R87 step 5, R117). -/
def State.handEnd (s : State) (id : Nat) (e : Nat) : State :=
  (((s.updRecord id fun r =>
      { r with sections := { a := r.sections.a.settleOwing e, b := r.sections.b.settleOwing e } }).testDone id .a).testDone
    id .b).sweepList

/-! ## Hold, link and stall (R123 to R125) -/

/-- The hold/down timer runs while the drain is enabled and either held or down (R125). -/
def DrainState.timerRuns (x : DrainState) : Bool := x.settings.enabled && (x.hold || !x.linkUp)

/-- Where the hold/down timer stops, in milliseconds (R125). -/
def DrainState.timerLimit (x : DrainState) : Nat := x.settings.holdTimeout * 1000

/-- Why a drain stalls (R131): its link is down, or it is held. -/
def DrainState.stallReason (x : DrainState) : DrneReason := if x.linkUp then .held else .linkDown

/-- The hold/down timer has reached the hold timeout (R125): it stops there, and unless the drain is stalled already the
stalled flag and DRAIN STALLED are set and DRNE STALLED is queued (R131). -/
def State.reachStall (s : State) (d : Drain) : State :=
  let s1 := s.modDrain d fun x => { x with timer := Timer.at x.timerLimit }
  if (s.drain d).stalled then s1
  else
    ((s1.modDrain d fun x => { x with stalled := true }).raise .drainStalled).notify
      (.drne d .stalled ((s.currentTake d).getD 0) s.ring.p 0 (s.drain d).stallReason (s.drain d).settings.holdTimeout)

/-! ## Aborts -/

/-- A link-down abort for a section in PENDING or ACTIVE (R122): the positions that have left the ring are lost, and the
cursors and the sequence return. `o` is the oldest retained position. -/
def Section.abortLive (x : Section) (b : Block) (o start : Nat) : Section :=
  { (if b.first < min (b.first + b.header.count) o then
        x.lose (b.first - start) (min (b.first + b.header.count) o - b.first)
      else x) with
    formation := min x.formation (max b.first o), confirmed := min x.formation (max b.first o)
    nextSeq := b.header.seq }

/-- A link-down abort of an unsettled block, for its section (R122). -/
def Section.abortLink (x : Section) (b : Block) (o start : Nat) : Section :=
  match x.state with
  | .abandoned =>
    { x with formation := x.confirmed, abandoned := x.abandoned + b.header.count, nextSeq := b.header.seq }
  | .pending => x.abortLive b o start
  | .active => x.abortLive b o start
  | .off => x
  | .done => x

/-- Whether a link-down abort loses positions of the block on a live section (R122). -/
def Section.abortLoses (x : Section) (b : Block) (o : Nat) : Bool :=
  x.live && decide (b.first < min (b.first + b.header.count) o)

/-- Abort a drain's block in flight because its link went down (R122). -/
def State.abortForLink (s : State) (d : Drain) : State :=
  match (s.drain d).inFlight with
  | none => s
  | some b =>
    let s1 := s.modDrain d fun x => { x with inFlight := none }
    match s.record? b.header.takeId with
    | none => s1
    | some r =>
      if b.settled then s1.settleDone r.id d
      else
        let s2 := s1.updSection r.id d fun x => x.abortLink b s.oldest r.start
        (if (r.sections.get d).abortLoses b s.oldest then
            s2.gapEpisodeTest d r.id b.first (b.first - r.start) .abort
          else s2).settleDone r.id d

/-- Abort a drain's block in flight because the drain is disabled (R115 step 1): the formation cursor returns to the
confirmed cursor, the sequence returns to the block's (R122, log entry 18), and a truncated take's count is abandoned. -/
def State.abortForDisable (s : State) (d : Drain) : State :=
  match (s.drain d).inFlight with
  | none => s
  | some b =>
    let s1 := s.modDrain d fun x => { x with inFlight := none }
    if b.settled then s1
    else
      s1.updSection b.header.takeId d fun x =>
        { x with formation := x.confirmed, nextSeq := b.header.seq,
                 abandoned := if x.state = .abandoned then x.abandoned + b.header.count else x.abandoned }

/-- A live section is abandoned by disabling its drain (R115 step 2). -/
def Section.abandonFor (x : Section) (endPos : Option Nat) : Section :=
  if x.live then
    match endPos with
    | some e => { x with state := .abandoned, abandoned := x.abandoned + (e - x.confirmed) }
    | none => { x with state := .abandoned, owing := true }
  else x

/-- Abandon the sections of a drain in every take of the list (R115 step 2). -/
def State.abandonSections (s : State) (d : Drain) : State :=
  runAll (fun id s => s.updRecord id fun r => { r with sections := r.sections.modify d fun x => x.abandonFor r.endPos })
    s.delivery.list s

/-- Disable an enabled drain (R115), in the order of the rule. -/
def State.disableDrain (s : State) (d : Drain) : State :=
  ((((s.abortForDisable d).abandonSections d).modDrain d fun x =>
      { x with settings := { x.settings with enabled := false }, hold := false, timer := Timer.zero, stalled := false,
               gapEpisode := false }).settleStallCondition).sweepList

/-- Enable a disabled drain (R114). -/
def State.enableDrain (s : State) (d : Drain) : State :=
  s.modDrain d fun x => { x with settings := { x.settings with enabled := true }, hold := false, timer := Timer.zero }

/-! ## Forming blocks (R116 to R120) -/

/-- The least significant byte first, `n` bytes of an integer in two's complement. -/
def lowFirstBytes : Nat → Int → List Byte
  | 0, _ => []
  | n + 1, x => BitVec.ofInt 8 x :: lowFirstBytes n (x / 256)

/-- One sample of a block's payload (R119, R120). -/
def sampleBytes (w : WordSize) (highFirst : Bool) (x : Sample) : List Byte :=
  let bytes := match w with
    | .w24 => lowFirstBytes 3 x.toInt
    | .w16 => lowFirstBytes 2 (narrow16 x)
  if highFirst then bytes.reverse else bytes

/-- The payload of a block: the samples of each position in order (R118). -/
def payloadBytes (w : WordSize) (highFirst : Bool) (groups : List (List Sample)) : List Byte :=
  groups.flatMap fun g => g.flatMap (sampleBytes w highFirst)

/-- How many sample periods the next block of a take on a drain holds (R117), 0 for none. -/
def blockCount (p : Nat) (blockLength : Nat) (r : TakeRecord) (x : Section) : Nat :=
  match r.endPos with
  | some e => min (e - x.formation) blockLength
  | none => if blockLength ≤ p - x.formation then blockLength else 0

/-- The port's conditions for forming a block (R116). -/
def DrainState.mayForm (x : DrainState) : Bool := x.settings.enabled && x.linkUp && !x.hold && x.inFlight.isNone

/-- The block that a drain forms of `n` sample periods of a take, out of the ring's copy (R118). -/
def formedBlock (x : DrainState) (r : TakeRecord) (sec : Section) (n : Nat) (groups : List (List Sample)) : Block :=
  { header := { takeId := r.id, seq := sec.nextSeq, offset := sec.formation - r.start, count := n, mask := r.mask,
                wordSize := x.settings.wordSize, highFirst := x.settings.highFirst,
                last := r.endPos == some (sec.formation + n), afterGap := sec.gapPending }
    first := sec.formation, settled := false
    payload := payloadBytes x.settings.wordSize x.settings.highFirst groups }

/-- The block that a drain forms now, with its take's record, if R116 and R117 allow one; a read that the ring reports short
forms none (R61). -/
def State.nextBlock (s : State) (d : Drain) : Option (TakeRecord × Block) :=
  if (s.drain d).mayForm then
    match s.currentRecord d with
    | none => none
    | some r =>
      let sec := r.sections.get d
      let n := blockCount s.ring.p (s.drain d).settings.blockLength r sec
      if n = 0 then none
      else
        let read := s.ring.read sec.formation n r.mask
        if read.short then none else some (r, formedBlock (s.drain d) r sec n read.groups)
  else none

/-- A drain's stall ends; DRAIN STALLED clears if no drain is then stalled (R118, R125). -/
def State.endStall (s : State) (d : Drain) : State :=
  if (s.drain d).stalled then (s.modDrain d fun x => { x with stalled := false }).settleStallCondition else s

/-- Form a block, in one event (R118). -/
def State.sendBlock (s : State) (d : Drain) (r : TakeRecord) (b : Block) : State :=
  ((s.updSection r.id d fun x =>
      { x with formation := x.formation + b.header.count, nextSeq := (x.nextSeq + 1) % 4294967296, gapPending := false }
    ).modDrain d fun x => { x with gapEpisode := false, inFlight := some b }).endStall d

/-- A closed take with nothing left to form on a drain that may form is tested for DONE (R117). -/
def State.testExhausted (s : State) (d : Drain) : State :=
  match (s.drain d).inFlight, s.currentTake d with
  | none, some id => s.settleDone id d
  | _, _ => s

end Sys2Proof.Machine
end

