-- ==== Sys2Proof/Machine/TakeOps.lean ====
section
/-! DEFINITION. The take controller's operations: take numbers and the slate of a new take (R157, R158), eviction (R77),
the roll (R78 to R82), the cut (R83 to R85), the close (R86, R87), the marks (R98 to R102), and the work it does at an
advance of P (R59). -/

namespace Sys2Proof.Machine

/-! ## Take ids, numbers and slates -/

/-- The take id after this one: 65,535 is followed by 1 (R75). -/
def followingId (id : Nat) : Nat := id % 65535 + 1

/-- The automatic number of a take of a scene, reckoned against an earlier slate (R158, R159). -/
def autoNumber (scene : Option Text) (prior : Option PriorSlate) : Nat :=
  match prior with
  | some q => if q.scene = scene then q.number % 999 + 1 else 1
  | none => 1

/-- The last-slate record as a prior slate (R92, R158). -/
def LastSlate.asPrior (l : LastSlate) : PriorSlate := { scene := l.scene, number := l.number }

/-- The slate of a new take, from the pending slate and the last-slate record (R157, R158). -/
def newSlate (b : Binding) (last : Option LastSlate) : Slate :=
  { scene := b.scene
    number := match b.number with | some n => n | none => autoNumber b.scene (last.map LastSlate.asPrior)
    numbering := match b.number with | some _ => .explicit | none => .auto
    prior := last.map LastSlate.asPrior, names := b.names, circle := false, noGood := false, falseTake := false,
    wild := b.wild, comments := b.comments, commentsLost := b.commentsLost }

/-- The pending slate after a roll has taken it (R157 step 6). -/
def Binding.taken (b : Binding) : Binding := { b with number := none, wild := false, comments := [], commentsLost := 0 }

/-! ## Closing (R87) -/

/-- The end raised over a section's formation cursor, unless the section is OFF (R87). -/
def Section.raiseEnd (x : Section) (e : Nat) : Nat := if x.state = .off then e else max e x.formation

/-- The end of a take whose close asks for an end (R87). -/
def TakeRecord.closingEnd (r : TakeRecord) (e : Nat) : Nat :=
  r.sections.b.raiseEnd (r.sections.a.raiseEnd e)

/-- A record closed at an end (R87 steps 1 to 3). -/
def TakeRecord.close (e window : Nat) (r : TakeRecord) : TakeRecord :=
  { r with endTarget := none, state := .closed, endPos := some e, windowEnd := some (e + window) }

/-- The CLOS notice of a record that closes at an end (R87). -/
def TakeRecord.closNotice (r : TakeRecord) (e window : Nat) : Notice :=
  .clos r.id r.cutCause r.cut e (e + window) r.tailShortened r.limited r.events.length r.eventsLost

/-- Close the open take (R87); the take state becomes STOPPED. -/
def State.closeOpen (s : State) (endAsked : Nat) : State :=
  match s.openRecord? with
  | none => s
  | some r =>
    let e := r.closingEnd endAsked
    (((((s.updRecord r.id (TakeRecord.close e s.takes.caps.window)).modTakes fun t => { t with state := .stopped }).notify
      (r.closNotice e s.takes.caps.window)).handEnd r.id e).finalTest r.id)

/-! ## Rolling (R78 to R82) -/

/-- The record that eviction chooses: the oldest whose take is not in the delivery list (R77). -/
def State.evictee (s : State) : Option TakeRecord := s.takes.table.find? fun r => !s.delivery.list.contains r.id

/-- Evict one record when the table is full (R77). -/
def State.evict (s : State) : State :=
  if s.takes.table.length < Config.maxTakes then s
  else
    match s.evictee with
    | none => s
    | some r =>
      (if r.state = .closed then s.makeFinal r.id true else s).modTakes fun t =>
        { t with table := t.table.eraseP fun q => q.id == r.id }

/-- A drain is enabled. -/
def State.anyDrainEnabled (s : State) : Bool := (s.drain .a).settings.enabled || (s.drain .b).settings.enabled

/-- Where a roll places the start: max(r - pre-roll, O) (R78 step 2). -/
def State.rollStart (s : State) (r : Nat) : Nat := max (r - s.takes.caps.preRoll) s.oldest

/-- The record of a take that a roll opens (R78 steps 6 and 7, R16, R71, R110). -/
def State.newRecord (s : State) (cause : Cause) (r : Nat) : TakeRecord :=
  { id := s.takes.nextId, state := .opened, start := s.rollStart r, roll := r, rollCause := cause, cut := none,
    cutCause := none, endTarget := none, endPos := none, windowEnd := none,
    reading := s.timeline.readingAt (s.rollStart r), mask := s.router.armed, tailShortened := false, limited := false,
    earlyFinal := false, slate := newSlate s.binding s.takes.lastSlate, events := [], eventsLost := 0,
    truncated := false,
    sections := { a := newSection (s.drain .a).settings.enabled (s.rollStart r)
                  b := newSection (s.drain .b).settings.enabled (s.rollStart r) } }

/-- The OPEN notice of a new record (R82). -/
def TakeRecord.openNotice (q : TakeRecord) (entered : Bool) : Notice :=
  .opening q.id q.rollCause q.start q.roll q.reading.label q.reading.rate q.mask q.slate.scene q.slate.number
    q.slate.numbering entered

/-- Steps 3 to 5 of a roll: the id is used, the take enters the delivery list if a drain is enabled, and the table makes
room (R78). -/
def State.rollMakesRoom (s : State) : State :=
  let s1 := s.modTakes fun t => { t with nextId := followingId t.nextId }
  (if s.anyDrainEnabled then s1.enterList s.takes.nextId else s1).evict

/-- Steps 2 to 8 of a roll: a take opens at roll position `r` (R78). -/
def State.rollOpens (s : State) (cause : Cause) (r : Nat) : State :=
  let q := s.newRecord cause r
  ((((s.rollMakesRoom.modTakes fun t =>
      { t with table := t.table ++ [q], state := .rolling,
               lastSlate := some { id := q.id, scene := q.slate.scene, number := q.slate.number } }).modBinding
    Binding.taken).activate).notify (q.openNotice s.anyDrainEnabled))

/-- A roll refused for an empty armed mask: REFU, unless the roll came by request (R81). -/
def State.refuseRoll (s : State) (cause : Cause) (r : Nat) : State :=
  match cause with
  | .command => s
  | .mark => s.notify (.refu .mark r)
  | .trigger1 => s.notify (.refu .trigger1 r)
  | .trigger2 => s.notify (.refu .trigger2 r)
  | .limit => s

/-- The tailing take is closed before its end target (R80 steps 1 and 2). -/
def State.closeTail (s : State) (r : Nat) : State :=
  match s.openRecord? with
  | none => s
  | some q => (s.updRecord q.id fun q => { q with tailShortened := true }).closeOpen (max r (q.cut.getD 0))

/-- A roll that opens a take, with its outcome (R78). -/
def State.rollTaken (s : State) (cause : Cause) (r : Nat) : State × RollOutcome :=
  (s.rollOpens cause r, .taken s.takes.nextId (s.rollStart r))

/-- A roll handed to the take controller (R69, R78 to R81). A position past P is taken as P. -/
def State.rollReq (s : State) (cause : Cause) (pos : Nat) : State × RollOutcome :=
  match s.takes.state with
  | .rolling => (s, .alreadyRolling)
  | .stopped =>
    if s.router.armed = 0 then (s.refuseRoll cause (min pos s.ring.p), .notArmed)
    else s.rollTaken cause (min pos s.ring.p)
  | .tail =>
    if s.router.armed = 0 then (s.refuseRoll cause (min pos s.ring.p), .notArmed)
    else (s.closeTail (min pos s.ring.p)).rollTaken cause (min pos s.ring.p)

/-! ## Cutting (R83 to R85) -/

/-- A trigger line is asserted: its filtered level is the asserting level of its polarity (R103). -/
def TrigLine.isAsserted (l : TrigLine) : Bool :=
  match l.level with
  | some high => high != l.assertedLow
  | none => false

/-- One trigger line. -/
def Triggers.get (t : Triggers) : Line → TrigLine
  | .one => t.line1
  | .two => t.line2

/-- The other trigger line. -/
def otherLine : Line → Line
  | .one => .two
  | .two => .one

/-- The trigger unit's answer about the other line of a LEVEL cut (R106). -/
def State.otherHolds (s : State) (n : Line) : Bool :=
  decide ((s.triggers.get (otherLine n)).mode = .level) && (s.triggers.get (otherLine n)).isAsserted

/-- Whether a cut is held: it carries the LEVEL mark of a line and the other line is asserted in LEVEL mode (R83). -/
def State.cutHeld (s : State) (level : Option Line) : Bool :=
  match level with
  | some n => s.otherHolds n
  | none => false

/-- A cut taken at a cut position (R83 steps 1 to 4); a LIMIT cut sets LIMITED (R85). -/
def State.cutOpen (s : State) (q : TakeRecord) (cause : Cause) (c : Nat) : State :=
  let e := c + s.takes.caps.postRoll
  let s1 := s.updRecord q.id fun q =>
    { q with cut := some c, cutCause := some cause, limited := q.limited || decide (cause = .limit) }
  if s.ring.p < e then
    (s1.updRecord q.id fun q => { q with endTarget := some e }).modTakes fun t => { t with state := .tail }
  else s1.closeOpen e

/-- A cut handed to the take controller (R69, R83, R84). A position past P is taken as P. -/
def State.cutReq (s : State) (cause : Cause) (pos : Nat) (level : Option Line) : State × CutOutcome :=
  match s.takes.state, s.openRecord? with
  | .rolling, some q =>
    if s.cutHeld level then (s, .held)
    else
      (s.cutOpen q cause (max (min pos s.ring.p) q.roll), .taken q.id (max (min pos s.ring.p) q.roll))
  | .rolling, none => (s, .notRolling)
  | .stopped, _ => (s, .notRolling)
  | .tail, _ => (s, .notRolling)

/-! ## The take controller's work at an advance of P (R59) -/

/-- The record that the maximum length cuts now (R85). -/
def State.limitDue (s : State) : Option TakeRecord :=
  match s.takes.state, s.openRecord? with
  | .rolling, some q =>
    if s.takes.caps.maxLength ≠ 0 ∧ q.roll + s.takes.caps.maxLength ≤ s.ring.p then some q else none
  | _, _ => none

/-- The LIMIT cut (R85). -/
def State.takeLimitCut (s : State) : State :=
  match s.limitDue with
  | some q => (s.cutReq .limit (q.roll + s.takes.caps.maxLength) none).1
  | none => s

/-- The end target that P has reached in TAIL (R86). -/
def State.tailDue (s : State) : Option Nat :=
  match s.takes.state, s.openRecord? with
  | .tail, some q => match q.endTarget with
    | some e => if e ≤ s.ring.p then some e else none
    | none => none
  | _, _ => none

/-- The close at the end target (R86). -/
def State.takeTailEnd (s : State) : State :=
  match s.tailDue with
  | some e => s.closeOpen e
  | none => s

/-- The ids of the records that R91 makes FINAL now, in table order. -/
def State.finalDue (s : State) : List Nat := (s.takes.table.filter s.isDueFinal).map fun r => r.id

/-- The records whose window end P has reached become FINAL, in table order (R91). -/
def State.takeWindowEnd (s : State) : State := runAll (fun id s => s.finalTest id) s.finalDue s

/-! ## Marks (R98 to R102) -/

/-- One mark. -/
def State.mark (s : State) : MarkName → Mark
  | .start => s.takes.startMark
  | .stop => s.takes.stopMark

/-- Change one mark. -/
def State.modMark (s : State) (m : MarkName) (f : Mark → Mark) : State :=
  s.modTakes fun t => match m with
    | .start => { t with startMark := f t.startMark }
    | .stop => { t with stopMark := f t.stopMark }

/-- Disarm a mark; it keeps its frame count (R98). -/
def State.disarm (s : State) (m : MarkName) : State := s.modMark m fun k => { k with armed := false }

/-- An outcome of a roll as an MRKE notice reports it (R102). -/
def RollOutcome.forMark : RollOutcome → MarkOutcome
  | .taken _ _ => .taken
  | .alreadyRolling => .alreadyRolling
  | .notArmed => .notArmed

/-- The take id of an MRKE notice for a roll: the take opened, or the open take for ALREADY ROLLING (R102). -/
def RollOutcome.markTake (o : RollOutcome) (openId : Nat) : Nat :=
  match o with
  | .taken id _ => id
  | .alreadyRolling => openId
  | .notArmed => 0

/-- An outcome of a cut as an MRKE notice reports it (R102); a cut from a mark is never held. -/
def CutOutcome.forMark : CutOutcome → MarkOutcome
  | .taken _ _ => .taken
  | .notRolling => .notRolling
  | .held => .notRolling

/-- The take id of an MRKE notice for a cut (R102). -/
def CutOutcome.markTake : CutOutcome → Nat
  | .taken id _ => id
  | .notRolling => 0
  | .held => 0

/-- An MRKE notice of a mark (R102). -/
def State.mrkeNotice (s : State) (m : MarkName) (fired : Bool) (pos c1 c2 : Nat) (o : Option MarkOutcome) (takeId : Nat) :
    Notice :=
  .mrke m fired (s.mark m).count (labelOf s.timeline.rate (s.mark m).count) pos c1 c2 o takeId

/-- A mark fires at a position (R100): it is disarmed, its roll or cut is taken with the cause MARK, and MRKE FIRED is
queued after whatever that queues (R102). -/
def State.fireMark (s : State) (m : MarkName) (pos : Nat) (c1 c2 : Nat) : State :=
  match m with
  | .start =>
    let out := (s.disarm .start).rollReq .mark pos
    out.1.notify (s.mrkeNotice .start true pos c1 c2 (some out.2.forMark) (out.2.markTake out.1.openId))
  | .stop =>
    let out := (s.disarm .stop).cutReq .mark pos none
    out.1.notify (s.mrkeNotice .stop true pos c1 c2 (some out.2.forMark) out.2.markTake)

/-- One mark at an anchor move: landed, skipped or kept (R101). -/
def State.moveMark (s : State) (c1 c2 : Nat) (m : MarkName) : State :=
  if (s.mark m).armed = false then s
  else if (s.mark m).count = c2 then s.fireMark m s.ring.p c1 c2
  else if 0 < dist s.timeline.rate c1 (s.mark m).count ∧ dist s.timeline.rate c2 (s.mark m).count ≤ 0 then
    (s.disarm m).notify (s.mrkeNotice m false s.ring.p c1 c2 none 0)
  else s

/-- The take controller takes the two counts of an anchor move, the start mark first (R28 step 2, R101). -/
def State.markHandoff (s : State) (c1 c2 : Nat) : State :=
  if c1 = c2 then s else (s.moveMark c1 c2 .start).moveMark c1 c2 .stop

/-- The armed marks whose count the frame boundary at P enters, if P is one (R100). -/
def State.marksEntered (s : State) : Option MarkDue :=
  let c := s.timeline.countAt s.ring.p
  let start := s.takes.startMark.armed && decide (s.takes.startMark.count = c)
  let stop := s.takes.stopMark.armed && decide (s.takes.stopMark.count = c)
  if s.timeline.phaseAt s.ring.p = 0 ∧ (start || stop) = true then
    some { count := c, pos := s.ring.p, start := start, stop := stop }
  else none

/-- A mark that the last frame boundary entered fires, if it is armed at that count when the firing is taken (R100). DESIGN
CHOICE: that is all the take controller looks at, so a mark disarmed after its boundary, by a MARK clear or by a change of the
rate, and set again to the same count before MARK_FIRED still fires for that boundary (log entry 13). -/
def State.fireEntered (s : State) (due : MarkDue) (m : MarkName) (entered : Bool) : State :=
  if entered = true ∧ (s.mark m).armed = true ∧ (s.mark m).count = due.count then
    s.fireMark m due.pos due.count due.count
  else s

/-- The marks that the last frame boundary entered fire, the start mark first (R100). -/
def State.takeMarksFired (s : State) : State :=
  match s.takes.markDue with
  | none => s
  | some due =>
    ((s.modTakes fun t => { t with markDue := none }).fireEntered due .start due.start).fireEntered due .stop due.stop

end Sys2Proof.Machine
end

