-- ==== Sys2Proof/Machine/BindingOps.lean ====
section
/-! DEFINITION. The binding unit: reading a note's text (R150 to R152), its destination (R153, R154), its effect (R155,
R156, R159) and its report (R160 to R162). -/

namespace Sys2Proof.Machine

/-! ## Note text (R150, R151) -/

/-- The body of a note, as its kind reads it (R151). -/
inductive NoteBody where
  | scene (value : Option Text)
  | takeNum (value : Nat)
  | trackName (track : Fin 24) (value : Option Text)
  | circle
  | noGood
  | falseTake
  | wild
  | comment (value : Text)
  deriving DecidableEq, Repr

/-- The kind of a body. -/
def NoteBody.kind : NoteBody → NoteKind
  | .scene _ => .scene
  | .takeNum _ => .takeNum
  | .trackName _ _ => .trackName
  | .circle => .circle
  | .noGood => .noGood
  | .falseTake => .falseTake
  | .wild => .wild
  | .comment _ => .comment

/-- A note that has been read: its target, its body, and whether the body was cut to its limit. -/
structure ParsedNote where
  target : Option Nat
  body : NoteBody
  cut : Bool
  deriving DecidableEq, Repr

/-- The outcome of reading a text: a note, or the reason of its rejection. -/
inductive Parsed where
  | note (n : ParsedNote)
  | rejected (reason : RejectReason)
  deriving DecidableEq, Repr

/-- A decimal digit. -/
def isDigit (b : BitVec 8) : Bool := decide (0x30 ≤ b.toNat) && decide (b.toNat ≤ 0x39)

/-- The value of a run of decimal digits. -/
def decimalValue (digits : Text) : Nat := digits.foldl (fun n b => 10 * n + (b.toNat - 0x30)) 0

/-- The kind letters (R150). -/
def kindOfLetter (b : BitVec 8) : Option NoteKind :=
  if b = 0x53 then some .scene else if b = 0x54 then some .takeNum else if b = 0x4B then some .trackName
  else if b = 0x43 then some .circle else if b = 0x4E then some .noGood else if b = 0x46 then some .falseTake
  else if b = 0x57 then some .wild else if b = 0x4D then some .comment else none

/-- A target and a body: the text after the kind letter, or none where the target is malformed (R150 steps 2 to 4). -/
def targetAndBody : Text → Option (Option Nat × Text)
  | 0x23 :: rest =>
    let digits := rest.takeWhile isDigit
    let v := decimalValue digits
    if digits = [] ∨ 5 < digits.length ∨ v = 0 ∨ 65535 < v then none
    else
      match rest.dropWhile isDigit with
      | [] => some (some v, [])
      | c :: body => if c = 0x20 then some (some v, body) else none
  | 0x20 :: rest => some (none, rest)
  | rest => some (none, rest)

/-- A text limited to `n` characters, or absent when empty (R151). -/
def limitedText (n : Nat) (t : Text) : Option Text := if t = [] then none else some (t.take n)

/-- A TAKENUM body (R151). -/
def takeNumBody (body : Text) : Option Nat :=
  if 1 ≤ body.length ∧ body.length ≤ 3 ∧ body.all isDigit = true ∧ 1 ≤ decimalValue body then some (decimalValue body)
  else none

/-- A TRACKNAME body: its track and what follows the equals sign (R151). -/
def trackNameBody : Text → Option (Fin 24 × Text)
  | d1 :: d2 :: e :: name =>
    if isDigit d1 = true ∧ isDigit d2 = true ∧ e = 0x3D then
      (trackIndex (BitVec.ofNat 8 (decimalValue [d1, d2]))).map fun t => (t, name)
    else none
  | _ => none

/-- A body read by its kind (R151, R152). -/
def readBody (k : NoteKind) (target : Option Nat) (body : Text) : Parsed :=
  match k with
  | .scene => .note { target := target, body := .scene (limitedText 12 body), cut := decide (12 < body.length) }
  | .takeNum =>
    match takeNumBody body with
    | some n => .note { target := target, body := .takeNum n, cut := false }
    | none => .rejected .badTakeNumber
  | .trackName =>
    match trackNameBody body with
    | some tn =>
      .note { target := target, body := .trackName tn.1 (limitedText 8 tn.2), cut := decide (8 < tn.2.length) }
    | none => .rejected .badTrack
  | .circle => .note { target := target, body := .circle, cut := false }
  | .noGood => .note { target := target, body := .noGood, cut := false }
  | .falseTake => .note { target := target, body := .falseTake, cut := false }
  | .wild => .note { target := target, body := .wild, cut := false }
  | .comment => .note { target := target, body := .comment (body.take 48), cut := decide (48 < body.length) }

/-- Reading a note's text (R150 to R152). -/
def parseNote : Text → Parsed
  | [] => .rejected .noKind
  | letter :: rest =>
    match kindOfLetter letter with
    | none => .rejected .unknownKind
    | some k =>
      match targetAndBody rest with
      | none => .rejected .badTarget
      | some tb => readBody k tb.1 tb.2

/-! ## Destinations (R153, R154) -/

/-- Where a note goes. -/
inductive NoteDest where
  | take (id : Nat) (alsoPending : Bool)
  | pendingSlate
  | orphan (reason : OrphanReason)
  deriving DecidableEq, Repr

/-- The destination of a note with a target (R153). -/
def State.targetDest (s : State) (id : Nat) : NoteDest :=
  match s.record? id with
  | none => .orphan .noTake
  | some r => if r.state = .final then .orphan .final else .take id false

/-- The open take is within grace (R154). -/
def State.withinGrace (s : State) (r : TakeRecord) : Bool := decide (s.ring.p - r.roll ≤ s.takes.caps.grace)

/-- The most recent CLOSED record, if it is within its window (R154). -/
def State.windowRecord? (s : State) : Option TakeRecord :=
  match s.recentClosed? with
  | none => none
  | some r => match r.windowEnd with
    | some w => if s.ring.p < w then some r else none
    | none => none

/-- The pending slate, and also the open take within grace (R154). -/
def State.slateDest (s : State) : NoteDest :=
  match s.openRecord? with
  | some r => if s.withinGrace r then .take r.id true else .pendingSlate
  | none => .pendingSlate

/-- The open take, then the most recent CLOSED record within its window, then `otherwise` (R154). -/
def State.flagDest (s : State) (otherwise : NoteDest) : NoteDest :=
  match s.openRecord? with
  | some r => .take r.id false
  | none =>
    match s.windowRecord? with
    | some r => .take r.id false
    | none => otherwise

/-- The destination of a note without a target, by its kind (R154). -/
def State.kindDest (s : State) : NoteKind → NoteDest
  | .scene => s.slateDest
  | .trackName => s.slateDest
  | .takeNum => s.slateDest
  | .wild => match s.openRecord? with
    | some r => .take r.id false
    | none => .pendingSlate
  | .circle => s.flagDest (.orphan .noWindow)
  | .noGood => s.flagDest (.orphan .noWindow)
  | .falseTake => s.flagDest (.orphan .noWindow)
  | .comment => s.flagDest .pendingSlate

/-- The destination of a note. -/
def State.noteDest (s : State) (n : ParsedNote) : NoteDest :=
  match n.target with
  | some id => s.targetDest id
  | none => s.kindDest n.body.kind

/-! ## Effects (R155, R156, R159) -/

/-- A comment added to a slate's list, or lost (R155). -/
def Slate.addComment (x : Slate) (c : Comment) : Slate :=
  if x.comments.length < Config.maxComments then { x with comments := x.comments ++ [c] }
  else { x with commentsLost := bump 255 x.commentsLost }

/-- A SCENE note on a record's slate, renumbering it if AUTO (R155, R159). -/
def Slate.setScene (x : Slate) (v : Option Text) : Slate :=
  { x with scene := v, number := if x.numbering = .auto then autoNumber v x.prior else x.number }

/-- The effect of a note on a record's slate (R155). -/
def Slate.apply (x : Slate) (station : Nat) (pos : Nat) : NoteBody → Slate
  | .scene v => x.setScene v
  | .takeNum n => { x with number := n, numbering := .explicit }
  | .trackName t v => { x with names := x.names.set t v }
  | .circle => { x with circle := true, noGood := false }
  | .noGood => { x with noGood := true, circle := false }
  | .falseTake => { x with falseTake := true }
  | .wild => { x with wild := true }
  | .comment v => x.addComment { station := station, position := pos, text := v }

/-- The effect of a note on the pending slate; `reachedTake` says that it has also reached the open take (R156). -/
def Binding.apply (x : Binding) (station : Nat) (pos : Nat) (reachedTake : Bool) : NoteBody → Binding
  | .scene v => { x with scene := v }
  | .takeNum n => { x with number := if reachedTake then none else some n }
  | .trackName t v => { x with names := x.names.set t v }
  | .circle => x
  | .noGood => x
  | .falseTake => x
  | .wild => { x with wild := true }
  | .comment v =>
    if x.comments.length < Config.maxComments then
      { x with comments := x.comments ++ [{ station := station, position := pos, text := v }] }
    else { x with commentsLost := bump 255 x.commentsLost }

/-- The last-slate record follows the record it names (R92, R155). -/
def State.followLastSlate (s : State) (id : Nat) : State :=
  match s.takes.lastSlate, s.record? id with
  | some l, some r =>
    if l.id = id then
      s.modTakes fun t => { t with lastSlate := some { l with scene := r.slate.scene, number := r.slate.number } }
    else s
  | _, _ => s

/-- A note written to a take record (R155). -/
def State.writeTake (s : State) (id station : Nat) (pos : Nat) (b : NoteBody) : State :=
  (s.updRecord id fun r => { r with slate := r.slate.apply station pos b }).followLastSlate id

/-- A note written to the pending slate (R156). -/
def State.writePending (s : State) (station : Nat) (pos : Nat) (reachedTake : Bool) (b : NoteBody) : State :=
  s.modBinding fun x => x.apply station pos reachedTake b

/-! ## Reports (R161, R162) -/

/-- A body is a comment and the list it goes to is full. -/
def NoteBody.losesComment (b : NoteBody) (held : Nat) : Bool :=
  match b with
  | .comment _ => decide (Config.maxComments ≤ held)
  | .scene _ => false
  | .takeNum _ => false
  | .trackName _ _ => false
  | .circle => false
  | .noGood => false
  | .falseTake => false
  | .wild => false

/-- A SCENE or TAKENUM note reports the take's number and numbering after it (R161). -/
def NoteBody.reportsNumber : NoteBody → Bool
  | .scene _ => true
  | .takeNum _ => true
  | .trackName _ _ => false
  | .circle => false
  | .noGood => false
  | .falseTake => false
  | .wild => false
  | .comment _ => false

/-- A SCENE note renumbers an AUTO record by R159 (log entry 32). -/
def NoteBody.renumbers (b : NoteBody) (r : TakeRecord) : Bool :=
  match b with
  | .scene _ => decide (r.slate.numbering = .auto)
  | .takeNum _ => false
  | .trackName _ _ => false
  | .circle => false
  | .noGood => false
  | .falseTake => false
  | .wild => false
  | .comment _ => false

/-- The report of a note that reached a record `r`, as it stood before the note (R161). -/
def takeReport (n : ParsedNote) (station : Nat) (pos : Nat) (r : TakeRecord) (alsoPending : Bool) : BoundReport :=
  { kind := n.body.kind, dest := if alsoPending then .takeAndPending else .take, takeId := r.id,
    targeted := n.target.isSome, commentLost := n.body.losesComment r.slate.comments.length,
    number := if n.body.reportsNumber then (r.slate.apply station pos n.body).number else 0,
    numbering := if n.body.reportsNumber then some (r.slate.apply station pos n.body).numbering else none,
    renumbered := n.body.renumbers r, cut := n.cut }

/-- The report of a note that reached the pending slate alone (R161). -/
def pendingReport (n : ParsedNote) (b : Binding) : BoundReport :=
  { kind := n.body.kind, dest := .pending, takeId := 0, targeted := n.target.isSome,
    commentLost := n.body.losesComment b.comments.length, number := 0, numbering := none, renumbered := false,
    cut := n.cut }

/-- The rejection of a text (R152). -/
def rejection (text : Text) (reason : RejectReason) : NoteOutcome :=
  .rejected reason (text.headD 0) text.length

/-- The note taken to its record (R153 to R156). -/
def State.bindTake (s : State) (n : ParsedNote) (station : Nat) (pos : Nat) (id : Nat) (alsoPending : Bool) :
    State × NoteOutcome :=
  match s.record? id with
  | none => (s, .orphaned n.body.kind (n.target.getD 0) .noTake)
  | some r =>
    (if alsoPending then (s.writeTake id station pos n.body).writePending station pos true n.body
      else s.writeTake id station pos n.body,
      .bound (takeReport n station pos r alsoPending))

/-- A note is resolved and applied (R149 steps 2 and 3). -/
def State.bindParsed (s : State) (n : ParsedNote) (station : Nat) (pos : Nat) : State × NoteOutcome :=
  match s.noteDest n with
  | .take id alsoPending => s.bindTake n station pos id alsoPending
  | .pendingSlate => (s.writePending station pos false n.body, .bound (pendingReport n s.binding))
  | .orphan reason => (s, .orphaned n.body.kind (n.target.getD 0) reason)

/-- A completed note is taken (R149), with its outcome. -/
def State.bindNote (s : State) (note : CompletedNote) : State × NoteOutcome :=
  match parseNote note.text with
  | .rejected reason => (s, rejection note.text reason)
  | .note n => s.bindParsed n note.station note.position

/-- The notice of a line note's outcome (R152, R160, R161). -/
def lineNotice (note : CompletedNote) : NoteOutcome → Notice
  | .bound r => .bind note.station r note.position note.long
  | .orphaned kind target reason => .orph note.station kind target reason note.position note.long
  | .rejected reason first length => .nrej note.station reason first length note.position note.long

/-- The binding unit takes a line note and reports its outcome (R149). -/
def State.takeLineNote (s : State) (note : CompletedNote) : State :=
  (s.bindNote note).1.notify (lineNotice note (s.bindNote note).2)

/-- The binding unit takes the oldest completed line note, if there is one (R145, R149). DESIGN CHOICE: a line note reaches
the binding unit at its BIND_NOTE, so a NOTE request placed before that is taken ahead of a line note already completed (log
entry 14). -/
def State.takeNextNote (s : State) : State :=
  match s.notes.completed with
  | [] => s
  | note :: rest => (s.modNotes fun x => { x with completed := rest }).takeLineNote note

/-- The note that a NOTE request forms from its payload (R146). -/
def requestNote (payload : Text) (p : Nat) : CompletedNote :=
  { station := 0, text := (payload.filter printable).take Config.maxNoteText,
    long := decide (Config.maxNoteText < (payload.filter printable).length), position := p }

end Sys2Proof.Machine
end

