-- ==== Sys2Proof/Machine/Formats.lean ====
section
/-! DEFINITION. The byte layouts of the control line and of the drain ports: the CRC (R167), frames and field types
(R183), TAKE sections (R184), block headers (R185), and the contents of every reply and notice in the order of its owning
rule. Where R183 leaves a layout open, log entry 16 names the choice. -/

namespace Sys2Proof.Machine

/-! ## The CRC (R167) -/

/-- One bit of the CRC: generator 0x1021. -/
def crcBit (c : BitVec 16) : BitVec 16 := if c.msb then (c <<< 1) ^^^ 0x1021#16 else c <<< 1

/-- One byte of the CRC, most significant bit first. -/
def crcByte (c : BitVec 16) (b : Byte) : BitVec 16 :=
  crcBit (crcBit (crcBit (crcBit (crcBit (crcBit (crcBit (crcBit (c ^^^ (b ++ 0#8)))))))))

/-- The CRC of a run of bytes: initial value 0xFFFF, no final inversion (R167). -/
def crc (bytes : List Byte) : BitVec 16 := bytes.foldl crcByte 0xFFFF#16

/-! ## Field types (R183) -/

/-- An unsigned number in `n` bytes, low byte first. -/
def unsignedBytes : Nat → Nat → List Byte
  | 0, _ => []
  | n + 1, x => BitVec.ofNat 8 x :: unsignedBytes n (x / 256)

/-- U8. -/
def u8 (x : Nat) : List Byte := unsignedBytes 1 x
/-- U16. -/
def u16 (x : Nat) : List Byte := unsignedBytes 2 x
/-- U24. -/
def u24 (x : Nat) : List Byte := unsignedBytes 3 x
/-- U32. -/
def u32 (x : Nat) : List Byte := unsignedBytes 4 x
/-- U40. DESIGN CHOICE: a length or an offset within a take that is above 1,099,511,627,775, which a take without a maximum
length can reach and for which no rule states the field (R183), is sent as its low 40 bits (log entry 26). -/
def u40 (x : Nat) : List Byte := unsignedBytes 5 x
/-- U48. -/
def u48 (x : Nat) : List Byte := unsignedBytes 6 x
/-- S24. -/
def s24 (x : Int) : List Byte := lowFirstBytes 3 x
/-- S48. DESIGN CHOICE: an error of TC JUMP outside the range of 48 bits, where no rule states the field, is sent as its low
48 bits in two's complement (log entry 26). -/
def s48 (x : Int) : List Byte := lowFirstBytes 6 x
/-- Flag. -/
def flagByte (b : Bool) : List Byte := [if b then 1 else 0]
/-- Mask. -/
def maskBytes (m : TrackSet) : List Byte := u24 m.toNat
/-- Text n: a count, then `n` bytes, unused bytes 0; an absent text has count 0. -/
def textBytes (n : Nat) (t : Option Text) : List Byte :=
  let x := (t.getD []).take n
  u8 x.length ++ x ++ List.replicate (n - x.length) 0
/-- Reported label. -/
def labelBytes (l : ReportedLabel) : List Byte :=
  [l.label.hours, l.label.minutes, l.label.seconds, l.label.frames] ++ flagByte l.drop
/-- An optional field with its presence Flag: absent, its bytes are 0. -/
def optionalBytes {α : Type} (size : Nat) (f : α → List Byte) (x : Option α) : List Byte :=
  match x with
  | some v => flagByte true ++ f v
  | none => flagByte false ++ List.replicate size 0
/-- An anchor: its position and then its frame count. -/
def anchorBytes (a : Anchor) : List Byte := u48 a.pos ++ u32 a.count
/-- A candidate: its frame count and then its arrival position. -/
def candidateBytes (a : Anchor) : List Byte := u32 a.count ++ u48 a.pos

/-! ## Codes: the place in the owning rule's list -/

/-- R4. -/
def Rate.bytes (r : Rate) : List Byte := u8 r.code
/-- R18. -/
def TimeMode.bytes : TimeMode → List Byte
  | .free => u8 0 | .jamOnce => u8 1 | .follow => u8 2
/-- R18. -/
def RefState.bytes : RefState → List Byte
  | .freeRun => u8 0 | .seeking => u8 1 | .locked => u8 2 | .verifying => u8 3 | .holdover => u8 4
/-- R66. -/
def TakeState.bytes : TakeState → List Byte
  | .stopped => u8 0 | .rolling => u8 1 | .tail => u8 2
/-- R70, R183. -/
def RecState.bytes : RecState → List Byte
  | .opened => u8 0 | .closed => u8 1 | .final => u8 2
/-- R69, R183. -/
def Cause.bytes : Cause → List Byte
  | .command => u8 0 | .mark => u8 1 | .trigger1 => u8 2 | .trigger2 => u8 3 | .limit => u8 4
/-- R73. -/
def EventKind.bytes : EventKind → List Byte
  | .dropout => u8 0 | .clip => u8 1 | .silent => u8 2 | .audioBreak => u8 3 | .tcJump => u8 4 | .refLost => u8 5
  | .refRegained => u8 6
/-- The numbering of an OPEN or BIND notice and of a NOTE reply, in the order of its list (R72, R82). -/
def Numbering.bytes : Numbering → List Byte
  | .explicit => u8 0 | .auto => u8 1
/-- The numbering in the header section of a record, which gives codes of its own (R184). -/
def Numbering.headerBytes : Numbering → List Byte
  | .auto => u8 0 | .explicit => u8 1
/-- R110, R183. -/
def SecState.code : SecState → Nat
  | .off => 0 | .pending => 1 | .active => 2 | .done => 3 | .abandoned => 4
/-- R108. -/
def TrigMode.bytes : TrigMode → List Byte
  | .off => u8 0 | .level => u8 1 | .toggle => u8 2 | .edge => u8 3
/-- R103. -/
def Direction.bytes : Direction → List Byte
  | .asserted => u8 0 | .released => u8 1
/-- R113: the word size itself. -/
def WordSize.bytes : WordSize → List Byte
  | .w16 => u8 16 | .w24 => u8 24
/-- R135. -/
def NoteLineState.bytes : NoteLineState → List Byte
  | .idle => u8 0 | .opened => u8 1 | .breaking => u8 2
/-- R167. -/
def FrameError.bytes : FrameError → List Byte
  | .length => u8 0 | .byte => u8 1 | .crc => u8 2
/-- R98. -/
def MarkName.bytes : MarkName → List Byte
  | .start => u8 0 | .stop => u8 1
/-- R150. -/
def NoteKind.bytes : NoteKind → List Byte
  | .scene => u8 0 | .takeNum => u8 1 | .trackName => u8 2 | .circle => u8 3 | .noGood => u8 4 | .falseTake => u8 5
  | .wild => u8 6 | .comment => u8 7
/-- R152. -/
def RejectReason.bytes : RejectReason → List Byte
  | .noKind => u8 0 | .unknownKind => u8 1 | .badTarget => u8 2 | .badTakeNumber => u8 3 | .badTrack => u8 4
/-- R160. -/
def OrphanReason.bytes : OrphanReason → List Byte
  | .noTake => u8 0 | .final => u8 1 | .noWindow => u8 2
/-- R161. -/
def Destination.bytes : Destination → List Byte
  | .take => u8 0 | .pending => u8 1 | .takeAndPending => u8 2
/-- R171, R183. -/
def Status.bytes : Status → List Byte
  | .ok => u8 0 | .badKind => u8 1 | .badLength => u8 2 | .range => u8 3 | .busy => u8 4 | .state => u8 5
  | .label => u8 6 | .noTake => u8 7 | .linked => u8 8 | .notArmed => u8 9
/-- R174; NONE follows the six (log entry 16). -/
def conditionBytes : Option Condition → List Byte
  | some .linkFault => u8 0 | some .deliveryGap => u8 1 | some .audioLost => u8 2 | some .referenceLost => u8 3
  | some .noticesLost => u8 4 | some .drainStalled => u8 5 | none => u8 6
/-- R28. -/
def TrefKind.bytes : TrefKind → List Byte
  | .locked => u8 0 | .jammed => u8 1 | .tcJump => u8 2 | .refLost => u8 3 | .refRegained => u8 4
/-- R131. -/
def DrneKind.bytes : DrneKind → List Byte
  | .gap => u8 0 | .stalled => u8 1
/-- R131; one list over both kinds (log entry 16). -/
def DrneReason.bytes : DrneReason → List Byte
  | .push => u8 0 | .abort => u8 1 | .held => u8 2 | .linkDown => u8 3
/-- R102. -/
def MarkOutcome.bytes : MarkOutcome → List Byte
  | .taken => u8 0 | .alreadyRolling => u8 1 | .notArmed => u8 2 | .notRolling => u8 3
/-- A drain number (R113). -/
def drainBytes : Drain → List Byte
  | .a => u8 0 | .b => u8 1
/-- The limit code of an error limit (R178). -/
def errorLimitBytes (n : Nat) : List Byte := u8 (if n = 1 then 0 else if n = 2 then 1 else if n = 4 then 2 else 3)
/-- R107: the outcome and its take id. -/
def LineOutcome.bytes : LineOutcome → List Byte
  | .taken id => u8 0 ++ u16 id
  | .alreadyRolling => u8 1 ++ u16 0
  | .notArmed => u8 2 ++ u16 0
  | .notRolling => u8 3 ++ u16 0
  | .held => u8 4 ++ u16 0

/-! ## TAKE sections (R184) -/

/-- Bits gathered into one byte, bit 0 first. -/
def bitsByte (bits : List Bool) : List Byte := u8 (bits.foldr (fun b n => (if b then 1 else 0) + 2 * n) 0)

/-- Section 0, 91 bytes. -/
def Header.bytes (h : Header) : List Byte :=
  bitsByte [h.cut.isSome, h.endTarget.isSome, h.endPos.isSome, h.prior.isSome]
  ++ u48 h.start ++ u48 h.roll ++ h.rollCause.bytes ++ u48 (h.cut.getD 0)
  ++ (match h.cutCause with | some c => c.bytes | none => u8 0)
  ++ u48 (h.endTarget.getD 0) ++ u48 (h.endPos.getD 0) ++ u48 (h.windowEnd.getD 0)
  ++ u32 h.reading.count ++ labelBytes h.reading.label ++ u16 h.reading.phase ++ h.reading.rate.bytes
  ++ maskBytes h.mask ++ bitsByte [h.tailShortened, h.limited, h.earlyFinal, h.truncated]
  ++ bitsByte [h.circle, h.noGood, h.falseTake, h.wild]
  ++ textBytes 12 h.scene ++ u16 h.number ++ h.numbering.headerBytes
  ++ (match h.prior with
      | some q => textBytes 12 q.scene ++ u16 q.number
      | none => List.replicate 15 0)
  ++ u8 h.commentCount ++ u8 h.commentsLost ++ u8 h.eventCount ++ u8 h.eventsLost

/-- Entries laid out in a fixed span, unused entries 0. -/
def entriesBytes {α : Type} (span size : Nat) (f : α → List Byte) (xs : List α) : List Byte :=
  u8 xs.length ++ xs.flatMap f ++ List.replicate ((span - xs.length) * size) 0

/-- A comment entry, 56 bytes. -/
def Comment.bytes (c : Comment) : List Byte := u8 c.station ++ u48 c.position ++ textBytes 48 (some c.text)

/-- An event entry, 14 bytes. -/
def Event.bytes (e : Event) : List Byte := e.kind.bytes ++ u8 e.source ++ u48 e.position ++ s48 e.error

/-- A gap entry, 10 bytes. -/
def Gap.bytes (g : Gap) : List Byte := u40 g.offset ++ u40 g.length

/-- The twenty-four track name entries. -/
def namesBytes (names : Vector (Option Text) 24) : List Byte := names.toList.flatMap (textBytes 8)

/-- One drain's part of section 6, 112 bytes. -/
def Section.bytes (x : Section) (start : Nat) (truncated : Bool) : List Byte :=
  u8 (x.state.code + 8 * x.gaps.length + if truncated then 128 else 0)
  ++ u40 (x.formation - start) ++ u40 (x.confirmed - start) ++ u32 x.nextSeq ++ u40 x.delivered ++ u40 x.gapTotal
  ++ u40 x.abandoned ++ x.gaps.flatMap Gap.bytes ++ List.replicate ((8 - x.gaps.length) * 10) 0 ++ u16 x.notListed

/-- A section's number and its bytes. -/
def TakeSection.number : TakeSection → Nat
  | .header _ => 0
  | .names _ => 1
  | .comments n _ => n
  | .events n _ => n
  | .delivery _ _ _ => 6

/-- The bytes of a TAKE section. -/
def TakeSection.bytes : TakeSection → List Byte
  | .header h => h.bytes
  | .names v => namesBytes v
  | .comments _ l => entriesBytes 4 56 Comment.bytes l
  | .events _ l => entriesBytes 16 14 Event.bytes l
  | .delivery start truncated secs => secs.a.bytes start truncated ++ secs.b.bytes start truncated

/-! ## Drain blocks (R185) -/

/-- The header of a block, 20 bytes, low byte first whatever the drain's byte order. -/
def BlockHeader.bytes (h : BlockHeader) : List Byte :=
  u16 h.takeId ++ u32 h.seq ++ u48 h.offset ++ u16 h.count ++ maskBytes h.mask ++ h.wordSize.bytes
  ++ u8 (if h.highFirst then 1 else 0) ++ bitsByte [h.last, h.afterGap]

/-- What goes out on the port for a block. -/
def Block.bytes (b : Block) : List Byte := b.header.bytes ++ b.payload

/-! ## Results -/

/-- The settings of an input (R48). -/
def ChannelSettings.bytes (c : ChannelSettings) : List Byte :=
  u16 c.gain.toNat ++ u8 (if c.inverted then 1 else 0) ++ u16 c.hold ++ u32 c.high ++ u32 c.low ++ u32 c.dwell
  ++ u8 (if c.subOn then 1 else 0) ++ s24 c.subValue.toInt

/-- The runtime state of an input (R48). -/
def Channel.bytes (c : Channel) : List Byte :=
  s24 c.lastGood.toInt ++ u16 c.holdCount ++ flagByte c.dropout ++ flagByte c.clip ++ u16 c.quiet ++ u24 c.silence
  ++ flagByte c.silentFlag ++ u24 c.peak

/-- The seven link counts (R178). -/
def LinkCounts.bytes (c : LinkCounts) : List Byte :=
  u16 c.framesReceived ++ u16 c.crcErrors ++ u16 c.lengthErrors ++ u16 c.byteErrors ++ u16 c.silenceDiscards
  ++ u16 c.overrunDiscards ++ u16 c.bytesSkipped

/-- The six condition flags (R174). -/
def Conds.bytes (c : Conds) : List Byte := Condition.all.flatMap fun k => flagByte (c.get k)

/-- The four flags of a drain (R176). -/
def drainFlagsBytes (f : Bool × Bool × Bool × Bool) : List Byte :=
  flagByte f.1 ++ flagByte f.2.1 ++ flagByte f.2.2.1 ++ flagByte f.2.2.2

/-- The STAT contents (R176). -/
def StatReport.bytes (r : StatReport) : List Byte :=
  conditionBytes r.highest ++ r.conds.bytes ++ u16 r.lostCount ++ u8 r.queueLevel ++ u16 r.nextSeq ++ u48 r.p
  ++ r.takeState.bytes ++ u16 r.openTake ++ entriesBytes 4 2 u16 r.list
  ++ drainFlagsBytes r.drains.a ++ drainFlagsBytes r.drains.b ++ r.ref.bytes

/-- A reading, in the order of R15. -/
def Reading.bytes (r : Reading) : List Byte := u32 r.count ++ u16 r.phase ++ labelBytes r.label ++ r.rate.bytes

/-- The state of the timeline unit, in the order of R33. -/
def Timeline.bytes (t : Timeline) : List Byte :=
  t.rate.bytes ++ t.mode.bytes ++ u16 t.tolerance ++ t.ref.bytes ++ anchorBytes t.anchor
  ++ optionalBytes 10 candidateBytes t.candidate ++ flagByte t.regain ++ u16 t.loss ++ u16 t.mismatch ++ u16 t.invalid

/-- The capture settings in the units of the request (R67, R68). -/
def Captures.bytes (c : Captures) : List Byte :=
  u16 (c.preRoll / 48) ++ u16 (c.postRoll / 48) ++ u16 (c.maxLength / 2880000) ++ u16 (c.window / 48000)
  ++ u16 (c.grace / 48000)

/-- One mark of a MARK reply (R99). -/
def MarkReport.bytes (m : MarkReport) : List Byte :=
  flagByte m.armed ++ u32 m.count ++ labelBytes m.label ++ optionalBytes 3 s24 m.distance

/-- A line's settings and runtime state (R103, R108). The last edge's position and its direction are absent together, each
with a presence Flag of its own (R183). -/
def TrigLine.bytes (l : TrigLine) : List Byte :=
  l.mode.bytes ++ u8 (if l.assertedLow then 1 else 0) ++ u16 l.filter
  ++ u8 (match l.level with | some true => 0 | some false => 1 | none => 2)
  ++ optionalBytes 8 (fun e : PendingEdge => u48 e.first ++ u16 e.counter) l.pending
  ++ optionalBytes 6 u48 (l.lastEdge.map fun e => e.1) ++ optionalBytes 1 Direction.bytes (l.lastEdge.map fun e => e.2)
  ++ u16 l.edgeCount ++ optionalBytes 3 LineOutcome.bytes l.lastOutcome

/-- The block in flight as a DRAN reply reports it (R112). DESIGN CHOICE: its count, at most 8,192, is a U16 as in the block's
header (R185), and no length within the take in a U40 (log entry 16). -/
def Block.report (b : Block) : List Byte :=
  u16 b.header.takeId ++ u32 b.header.seq ++ u48 b.first ++ u16 b.header.count ++ flagByte b.settled

/-- A drain's settings and runtime state (R113). -/
def DrainState.bytes (x : DrainState) (current : Nat) : List Byte :=
  u8 (if x.settings.enabled then 1 else 0) ++ x.settings.wordSize.bytes ++ u8 (if x.settings.highFirst then 1 else 0)
  ++ u16 x.settings.blockLength ++ u16 x.settings.holdTimeout ++ flagByte x.linkUp ++ flagByte x.hold
  ++ flagByte x.stalled ++ flagByte x.gapEpisode ++ u16 x.timer.count ++ u16 current
  ++ optionalBytes 15 Block.report x.inFlight ++ u16 x.lateCompletions ++ u32 x.lateSamples

/-- The eleven counts (R135). -/
def NoteCounts.bytes (c : NoteCounts) : List Byte :=
  u16 c.completed ++ u16 c.stray ++ u16 c.notAccepted ++ u16 c.badAddresses ++ u16 c.dropped ++ u16 c.long
  ++ u16 c.byAddress ++ u16 c.byTimeout ++ u16 c.byBreak ++ u16 c.breaks ++ u16 c.framing

/-- The receiver as an NLIN reply reports it (R137). -/
def NoteRx.bytes (x : NoteRx) : List Byte :=
  entriesBytes 8 1 u8 x.accept ++ x.line.bytes
  ++ optionalBytes 68
      (fun n : Nat => u8 n ++ textBytes 64 (some x.buffer) ++ flagByte x.long ++ u8 x.idleTimer.count) x.station
  ++ x.counts.bytes

/-- A bound note's report without station, position and LONG (R161, R162); a numbering that is not reported is sent as 0. -/
def BoundReport.bytes (r : BoundReport) : List Byte :=
  r.kind.bytes ++ r.dest.bytes ++ u16 r.takeId ++ flagByte r.targeted ++ u8 (if r.commentLost then 1 else 0)
  ++ u16 r.number
  ++ (match r.numbering with | some x => x.bytes | none => u8 0) ++ flagByte r.renumbered ++ flagByte r.cut

/-- The outcome of a NOTE request (R162). -/
def NoteOutcome.bytes : NoteOutcome → List Byte
  | .bound r => u8 0 ++ r.bytes
  | .orphaned kind target reason => u8 1 ++ kind.bytes ++ u16 target ++ reason.bytes
  | .rejected reason first length => u8 2 ++ reason.bytes ++ [first] ++ u8 length

/-- The last-slate record (R92). -/
def LastSlate.bytes (l : LastSlate) : List Byte := u16 l.id ++ textBytes 12 l.scene ++ u16 l.number

/-- The bytes of a SLAT section (R163). -/
def SlatSection.bytes : SlatSection → List Byte
  | .header scene number wild held lost last =>
    textBytes 12 scene ++ optionalBytes 2 u16 number ++ flagByte wild ++ u8 held ++ u8 lost
    ++ optionalBytes 17 LastSlate.bytes last
  | .names v => namesBytes v
  | .comments _ l => entriesBytes 4 56 Comment.bytes l

/-- The ASCII characters of the vendor, Gelvarin (R177). -/
def vendorText : Text := [0x47, 0x65, 0x6C, 0x76, 0x61, 0x72, 0x69, 0x6E]

/-- The ASCII characters of the part, 2416 (R177). -/
def partText : Text := [0x32, 0x34, 0x31, 0x36]

/-- The identity and capacities (R177). -/
def idenBytes : List Byte :=
  textBytes 8 (some vendorText) ++ textBytes 4 (some partText) ++ u8 1 ++ u8 16 ++ u8 24 ++ u24 Config.ringSlots
  ++ u8 Config.maxTakes ++ u8 Config.maxDelivering ++ u8 Config.maxComments ++ u8 Config.maxEvents ++ u8 Config.maxGaps
  ++ u8 30 ++ u8 Config.maxAccept ++ u8 Config.maxNotices ++ u8 Config.maxReplies ++ u8 Config.maxPayload

/-- The bytes of a result. DESIGN CHOICE: a SLAT reply carries P and the contents of the section asked for, without the
section number, which R163 gives no place (log entry 16). -/
def Result.bytes : Result → List Byte
  | .none => []
  | .iden => idenBytes
  | .stat r => r.bytes
  | .link limit consecutive fault counts => errorLimitBytes limit ++ u8 consecutive ++ flagByte fault ++ counts.bytes
  | .rset config p => u8 (if config then 1 else 0) ++ u48 p
  | .inptSet settings => settings.bytes
  | .inptRead c => c.settings.bytes ++ c.bytes
  | .mixg gains => gains.toList.flatMap fun g => u16 g.toNat
  | .trak sources links armed => sources.toList.flatMap u8 ++ maskBytes links ++ maskBytes armed
  | .armt armed => maskBytes armed
  | .metrRead peaks p => peaks.toList.flatMap u24 ++ u48 p
  | .metrPeriod period => u16 period
  | .tlmd rate mode tolerance ref => rate.bytes ++ mode.bytes ++ u16 tolerance ++ ref.bytes
  | .tcst count anchor => u32 count ++ anchorBytes anchor
  | .jams ref => ref.bytes
  | .tcqr reading unit => reading.bytes ++ unit.bytes
  | .caps settings => settings.bytes
  | .take id state p sec => u16 id ++ state.bytes ++ u48 p ++ u8 sec.number ++ sec.bytes
  | .rollTaken id start roll => u8 0 ++ u16 id ++ u48 start ++ u48 roll
  | .rollAlready id roll => u8 1 ++ u16 id ++ u48 roll
  | .cutTaken id cut endTarget closed => u8 0 ++ u16 id ++ u48 cut ++ u48 endTarget ++ flagByte closed
  | .cutNot state id => u8 1 ++ state.bytes ++ u16 id
  | .mark start stop => start.bytes ++ stop.bytes
  | .trig line => line.bytes
  | .dran drain current => drain.bytes current
  | .nlin rx => rx.bytes
  | .note outcome p long => outcome.bytes ++ u48 p ++ flagByte long
  | .slat p sec => u48 p ++ sec.bytes

/-! ## Notices -/

/-- The kind of a notice. -/
def Notice.noticeKind : Notice → NoticeKind
  | .opening _ _ _ _ _ _ _ _ _ _ _ => .opening
  | .clos _ _ _ _ _ _ _ _ _ => .clos
  | .finl _ _ => .finl
  | .refu _ _ => .refu
  | .tref _ _ _ _ _ => .tref
  | .mrke _ _ _ _ _ _ _ _ _ => .mrke
  | .lvls _ _ => .lvls
  | .drne _ _ _ _ _ _ _ => .drne
  | .bind _ _ _ _ => .bind
  | .orph _ _ _ _ _ _ => .orph
  | .nrej _ _ _ _ _ _ => .nrej
  | .lflt _ _ _ => .lflt

/-- The contents of a notice, in the order of its owning rule. -/
def Notice.bytes : Notice → List Byte
  | .opening id cause start roll label rate mask scene number numbering entered =>
    u16 id ++ cause.bytes ++ u48 start ++ u48 roll ++ labelBytes label ++ rate.bytes ++ maskBytes mask
    ++ textBytes 12 scene ++ u16 number ++ numbering.bytes ++ flagByte entered
  | .clos id cutCause cut endPos windowEnd tailShortened limited events eventsLost =>
    u16 id ++ (match cutCause with | some c => c.bytes | none => u8 0) ++ u48 (cut.getD 0) ++ u48 endPos
    ++ u48 windowEnd ++ flagByte tailShortened ++ flagByte limited ++ u8 events ++ u8 eventsLost
  | .finl _ header => header.bytes
  | .refu cause pos => cause.bytes ++ u48 pos ++ u8 0
  | .tref kind pos ref anchor error => kind.bytes ++ u48 pos ++ ref.bytes ++ anchorBytes anchor ++ s48 error
  | .mrke mark fired count label pos c1 c2 outcome takeId =>
    mark.bytes ++ u8 (if fired then 0 else 1) ++ u32 count ++ labelBytes label ++ u48 pos ++ u32 c1 ++ u32 c2
    ++ optionalBytes 1 MarkOutcome.bytes outcome ++ u16 takeId
  | .lvls p peaks => u48 p ++ peaks.toList.flatMap u24
  | .drne drain kind takeId pos offset reason holdTimeout =>
    drainBytes drain ++ kind.bytes ++ u16 takeId ++ u48 pos ++ u40 offset ++ reason.bytes ++ u16 holdTimeout
  | .bind station r pos long => u8 station ++ r.bytes ++ u48 pos ++ flagByte long
  | .orph station kind target reason pos long =>
    u8 station ++ kind.bytes ++ u16 target ++ reason.bytes ++ u48 pos ++ flagByte long
  | .nrej station reason first length pos long =>
    u8 station ++ reason.bytes ++ [first] ++ u8 length ++ u48 pos ++ flagByte long
  | .lflt consecutive limit error => u8 consecutive ++ errorLimitBytes limit ++ error.bytes

/-! ## Frames (R183) -/

/-- The bytes over which the CRC runs: length, kind word, tag, payload. -/
def frameBody (kind : Text) (tag : BitVec 8) (payload : List Byte) : List Byte :=
  BitVec.ofNat 8 payload.length :: (kind ++ tag :: payload)

/-- A control frame. -/
def frameBytes (kind : Text) (tag : BitVec 8) (payload : List Byte) : List Byte :=
  0xA7 :: (frameBody kind tag payload
    ++ [(crc (frameBody kind tag payload)).extractLsb' 0 8, (crc (frameBody kind tag payload)).extractLsb' 8 8])

/-- The frame of a reply (R171, R183). -/
def Reply.frame (r : Reply) : List Byte := frameBytes replyWord r.tag (r.kind ++ r.status.bytes ++ r.result.bytes)

/-- The frame of a notice: its tag is 0 (R173, R183). -/
def QueuedNotice.frame (n : QueuedNotice) : List Byte :=
  frameBytes n.notice.noticeKind.word 0 (u16 n.seq ++ n.notice.bytes)

/-- The bytes of an outgoing frame. -/
def Outgoing.frame : Outgoing → List Byte
  | .reply r => r.frame
  | .notice n => n.frame

end Sys2Proof.Machine
end

