-- ==== Sys2Proof/Machine/TimelineOps.lean ====
section
/-! DEFINITION. The timeline unit: frame arrivals (R20 to R27), the reports of anchor moves (R28), the loss of the
reference (R26), and the changes its requests make (R29 to R32, R34). -/

namespace Sys2Proof.Machine

/-! ## Reports (R28) -/

/-- The event of the open take that a TREF event also hands over, if it does (R28). -/
def TrefKind.event (k : TrefKind) (pos : Nat) (e : Int) : Option Event :=
  match k with
  | .tcJump => some { kind := .tcJump, source := 0, position := pos, error := e }
  | .refLost => some { kind := .refLost, source := 0, position := pos, error := 0 }
  | .refRegained => some { kind := .refRegained, source := 0, position := pos, error := 0 }
  | .locked => none
  | .jammed => none

/-- Report one event: a TREF notice, and for TC JUMP, REF LOST and REF REGAINED an event for the open take (R28 step 1). -/
def State.report (s : State) (k : TrefKind) (pos : Nat) (e : Int) : State :=
  let s1 := s.notify (.tref k pos s.timeline.ref s.timeline.anchor e)
  match k.event pos e with
  | some ev => s1.intake ev
  | none => s1

/-- Move the anchor (R28 step 2 needs the count of P before and after). -/
def State.setAnchor (s : State) (a : Anchor) : State := s.modTimeline fun t => { t with anchor := a }

/-- The reference is regained at a position: REF REGAINED is reported and REFERENCE LOST clears (R25, R27, R34). -/
def State.regained (s : State) (pos : Nat) : State := (s.report .refRegained pos 0).lower .referenceLost

/-! ## Frame arrivals (R21 to R27) -/

/-- A valid frame in SEEKING (R23). -/
def State.frameSeeking (s : State) (c : Nat) (arrival : Nat) : State :=
  let t := s.timeline
  match t.candidate with
  | none => s.modTimeline fun t => { t with candidate := some { pos := arrival, count := c } }
  | some first =>
    if t.consistent first c arrival then
      let e := t.errorOf c arrival
      let jamOnce := decide (t.mode ≠ .follow)
      let s1 := s.modTimeline fun t =>
        { t with anchor := { pos := arrival, count := c }, candidate := none,
                 ref := if jamOnce then .freeRun else .locked }
      let s2 := s1.report (if jamOnce then .jammed else .locked) arrival 0
      let s3 := if withinTolerance t.tolerance e then s2 else s2.report .tcJump arrival e
      s3.markHandoff (t.countAt s.ring.p) (s1.timeline.countAt s.ring.p)
    else s.modTimeline fun t => { t with candidate := some { pos := arrival, count := c } }

/-- A valid frame in LOCKED (R24). -/
def State.frameLocked (s : State) (c : Nat) (arrival : Nat) : State :=
  if s.timeline.agrees c arrival then s
  else
    s.modTimeline fun t =>
      { t with candidate := some { pos := arrival, count := c }, ref := .verifying, regain := false }

/-- A valid frame in VERIFYING (R25). -/
def State.frameVerifying (s : State) (c : Nat) (arrival : Nat) : State :=
  let t := s.timeline
  if t.agrees c arrival then
    let s1 := s.modTimeline fun t => { t with candidate := none, ref := .locked, regain := false }
    if t.regain then s1.regained arrival else s1
  else if t.candidate.any (fun first => t.consistent first c arrival) then
    let e := t.errorOf c arrival
    let s1 := s.modTimeline fun t =>
      { t with anchor := { pos := arrival, count := c }, candidate := none, ref := .locked, regain := false }
    let s2 := if t.regain then s1.regained arrival else s1
    (s2.report .tcJump arrival e).markHandoff (t.countAt s.ring.p) (s1.timeline.countAt s.ring.p)
  else s.modTimeline fun t => { t with candidate := some { pos := arrival, count := c } }

/-- A valid frame in HOLDOVER (R27). -/
def State.frameHoldover (s : State) (c : Nat) (arrival : Nat) : State :=
  if s.timeline.agrees c arrival then
    (s.modTimeline fun t => { t with candidate := none, ref := .locked }).regained arrival
  else
    s.modTimeline fun t =>
      { t with candidate := some { pos := arrival, count := c }, ref := .verifying, regain := true }

/-- A valid frame: the loss count returns to 0, and the reference state handles the frame (R21). -/
def State.validFrame (s : State) (c : Nat) (arrival : Nat) : State :=
  let s1 := s.modTimeline fun t => { t with loss := 0 }
  match s.timeline.ref with
  | .freeRun => s1
  | .seeking => s1.frameSeeking c arrival
  | .locked => s1.frameLocked c arrival
  | .verifying => s1.frameVerifying c arrival
  | .holdover => s1.frameHoldover c arrival

/-- A frame arrival: the drop flag is tested first, then the label (R21). -/
def State.takeFrame (s : State) (label : Label) (drop : Bool) (arrival : Nat) : State :=
  if drop ≠ s.timeline.rate.isDrop then s.modTimeline fun t => { t with mismatch := bump Config.countTop t.mismatch }
  else if validLabel s.timeline.rate label = false then
    s.modTimeline fun t => { t with invalid := bump Config.countTop t.invalid }
  else s.validFrame (labelCount s.timeline.rate label) arrival

/-! ## The loss of the reference (R26) -/

/-- The loss count counts in LOCKED and VERIFYING (R26). -/
def Timeline.countsLoss (t : Timeline) : Bool := decide (t.ref = .locked) || decide (t.ref = .verifying)

/-- The loss count at an advance of P (R26). -/
def State.advanceLoss (s : State) : State :=
  s.modTimeline fun t => if t.countsLoss then { t with loss := t.loss + 1 } else t

/-- The loss count has reached the loss limit (R26). -/
def State.lossDue (s : State) : Bool := s.timeline.countsLoss && decide (s.timeline.rate.lossLimit ≤ s.timeline.loss)

/-- The reference is lost (R26); the REFERENCE LOST condition is set with the report (R34). -/
def State.takeRefLost (s : State) : State :=
  if s.lossDue then
    let s1 := s.modTimeline fun t => { t with candidate := none, ref := .holdover, regain := false }
    if s.timeline.regain then s1 else (s1.report .refLost s.ring.p 0).raise .referenceLost
  else s

/-! ## The changes of the timeline requests -/

/-- The reference state that a request's mode gives: FREE_RUN in FREE, otherwise SEEKING (R29, R30). -/
def TimeMode.entered : TimeMode → RefState
  | .free => .freeRun
  | .jamOnce => .seeking
  | .follow => .seeking

/-- The candidate, regain pending and the loss count are cleared and a reference state is entered (R29, R30, R32). -/
def Timeline.enter (t : Timeline) (r : RefState) : Timeline :=
  { t with ref := r, candidate := none, regain := false, loss := 0 }

/-- The rate change (R30): the anchor becomes (P, 0), the marks are disarmed without firing, and REFERENCE LOST clears. -/
def State.changeRate (s : State) (rate : Rate) (mode : TimeMode) : State :=
  ((((s.modTimeline fun t =>
      { (t.enter mode.entered) with rate := rate, mode := mode, anchor := { pos := s.ring.p, count := 0 } }).disarm
    .start).disarm .stop).lower .referenceLost)

/-- A change of mode alone (R29 step 5); leaving FOLLOW clears REFERENCE LOST. -/
def State.changeMode (s : State) (mode : TimeMode) : State :=
  let s1 := s.modTimeline fun t => { (t.enter mode.entered) with mode := mode }
  if s.timeline.mode = .follow then s1.lower .referenceLost else s1

/-- A fresh jam (R32); in FOLLOW the REFERENCE LOST condition clears. -/
def State.startJam (s : State) : State :=
  let s1 := s.modTimeline fun t => t.enter .seeking
  if s.timeline.mode = .follow then s1.lower .referenceLost else s1

/-- Timecode set by hand to a frame count at P (R31 step 3). -/
def State.setTimecode (s : State) (c : Nat) : State :=
  let e := s.timeline.errorOf c s.ring.p
  let s1 := s.setAnchor { pos := s.ring.p, count := c }
  let s2 := if withinTolerance s.timeline.tolerance e then s1 else s1.report .tcJump s.ring.p e
  s2.markHandoff (s.timeline.countAt s.ring.p) (s1.timeline.countAt s.ring.p)

end Sys2Proof.Machine
end

