-- ==== Sys2Proof/Machine/TriggerOps.lean ====
section
/-! DEFINITION. The trigger unit: the glitch filters (R104), and what a confirmed edge does (R105 to R107). -/

namespace Sys2Proof.Machine

/-- How many samples of a new level confirm an edge: max(G, 1) (R104). -/
def TrigLine.needed (l : TrigLine) : Nat := max l.filter 1

/-- The direction of an edge to a level, under the polarity in force (R105). -/
def TrigLine.directionTo (l : TrigLine) (level : Bool) : Direction :=
  if level != l.assertedLow then .asserted else .released

/-- The request that a line in a mode hands for an edge (the table of R105). -/
def trigRequest : TrigMode → Direction → Option TrigRequest
  | .off, _ => none
  | .level, .asserted => some .roll
  | .level, .released => some .levelCut
  | .toggle, .asserted => some .toggle
  | .toggle, .released => none
  | .edge, .asserted => some .roll
  | .edge, .released => none

/-- A sample at a new level taken into the filter: a pending edge starts or its counter increases (R104). -/
def TrigLine.longer (l : TrigLine) (p : Nat) : PendingEdge :=
  match l.pending with
  | none => { first := p, counter := 1 }
  | some e => { e with counter := e.counter + 1 }

/-- A pending edge after a sample: it stays pending, or it is confirmed with the request that the settings in force give
it (R104, R105, log entry 12). -/
def TrigLine.confirm (l : TrigLine) (level : Bool) (e : PendingEdge) : TrigLine :=
  if l.needed ≤ e.counter then
    { l with pending := some e
             confirmed := some { level := level, first := e.first, direction := l.directionTo level,
                                 request := trigRequest l.mode (l.directionTo level) } }
  else { l with pending := some e }

/-- One sample of a line, for the position just written (R104). -/
def TrigLine.sample (l : TrigLine) (level : Bool) (p : Nat) : TrigLine :=
  match l.level with
  | none => { l with level := some level }
  | some held => if level = held then { l with pending := none } else l.confirm level (l.longer p)

/-- Both lines take their samples (R104, R105). -/
def Triggers.sample (t : Triggers) (level1 level2 : Bool) (p : Nat) : Triggers :=
  { line1 := t.line1.sample level1 p, line2 := t.line2.sample level2 p }

/-- A confirmed edge updates its line (R105). -/
def TrigLine.settleEdge (l : TrigLine) : TrigLine :=
  match l.confirmed with
  | none => l
  | some c =>
    { l with level := some c.level, pending := none, lastEdge := some (c.first, c.direction),
             edgeCount := (l.edgeCount + 1) % 65536, confirmed := none }

/-- The cause of a line's requests (R105). -/
def lineCause : Line → Cause
  | .one => .trigger1
  | .two => .trigger2

/-- The outcome of a roll as a line keeps it (R107). -/
def RollOutcome.forLine : RollOutcome → LineOutcome
  | .taken id _ => .taken id
  | .alreadyRolling => .alreadyRolling
  | .notArmed => .notArmed

/-- The outcome of a cut as a line keeps it (R107). -/
def CutOutcome.forLine : CutOutcome → LineOutcome
  | .taken id _ => .taken id
  | .notRolling => .notRolling
  | .held => .held

/-- A roll for a line, with the outcome the line keeps. -/
def State.lineRoll (s : State) (n : Line) (pos : Nat) : State × LineOutcome :=
  ((s.rollReq (lineCause n) pos).1, (s.rollReq (lineCause n) pos).2.forLine)

/-- A cut for a line, with the outcome the line keeps. -/
def State.lineCut (s : State) (n : Line) (pos : Nat) (level : Option Line) : State × LineOutcome :=
  ((s.cutReq (lineCause n) pos level).1, (s.cutReq (lineCause n) pos level).2.forLine)

/-- The take controller takes a line's request (R69, R105): in ROLLING a toggle is a cut without the LEVEL mark, and in
STOPPED or TAIL it is a roll. -/
def State.lineRequest (s : State) (n : Line) (q : TrigRequest) (pos : Nat) : State × LineOutcome :=
  match q with
  | .roll => s.lineRoll n pos
  | .levelCut => s.lineCut n pos (some n)
  | .toggle => if s.takes.state = .rolling then s.lineCut n pos none else s.lineRoll n pos

/-- Change one line. -/
def Triggers.modify (t : Triggers) (n : Line) (f : TrigLine → TrigLine) : Triggers :=
  match n with
  | .one => { t with line1 := f t.line1 }
  | .two => { t with line2 := f t.line2 }

/-- A line hands the request of its confirmed edge, and keeps the outcome (R105, R107). -/
def State.handEdge (s : State) (n : Line) (c : Option ConfirmedEdge) : State :=
  match c with
  | none => s
  | some e =>
    match e.request with
    | none => s
    | some q =>
      (s.lineRequest n q e.first).1.modTriggers fun t =>
        t.modify n fun l => { l with lastOutcome := some (s.lineRequest n q e.first).2 }

/-- The edges that the last sample confirmed are acted on: both filters are brought up to date first, then line 1's
request is handed, then line 2's (R105). -/
def State.takeEdges (s : State) : State :=
  ((s.modTriggers fun t => { line1 := t.line1.settleEdge, line2 := t.line2.settleEdge }).handEdge
    .one s.triggers.line1.confirmed).handEdge .two s.triggers.line2.confirmed

end Sys2Proof.Machine
end

