-- ==== Sys2Proof/Machine/AudioOps.lean ====
section
/-! DEFINITION. The audio path: conditioning, dropouts, the level monitor and the meters (R38 to R46), the buses (R49), the
track samples (R51), the audio-link sync (R36, R37), and the audio frame as one event (R35, R58, R59). -/

namespace Sys2Proof.Machine

/-! ## One input (R38 to R44) -/

/-- The conditioned value of a slot (R38, R39). -/
def Channel.conditioned (c : Channel) (w : BitVec 32) : Sample :=
  match slotClass w with
  | .good => conditionSample c.settings (slotSample w)
  | .flagged => conditionSample c.settings (slotSample w)
  | .invalid => if c.holdCount < c.settings.hold then c.lastGood else 0

/-- The output of an input: the conditioned value, or the substitute value (R38 to R40). -/
def Channel.output (c : Channel) (w : BitVec 32) : Sample :=
  if c.settings.subOn then c.settings.subValue else c.conditioned w

/-- The last good sample, the hold counter and the dropout episode after a slot (R39, R41). -/
def Channel.holdStep (c : Channel) (w : BitVec 32) : Channel :=
  match slotClass w with
  | .good => { c with lastGood := conditionSample c.settings (slotSample w), holdCount := 0, dropout := false }
  | .flagged => { c with dropout := true }
  | .invalid =>
    { c with holdCount := if c.holdCount < c.settings.hold then c.holdCount + 1 else c.holdCount, dropout := true }

/-- End a clip episode whose quiet counter has reached 4,800 (R42). -/
def Channel.endClip (c : Channel) : Channel :=
  if c.clip = true ∧ Config.quietLimit ≤ c.quiet then { c with clip := false, quiet := 0 } else c

/-- The clip test of an output (R42). -/
def Channel.clipStep (c : Channel) (x : Sample) : Channel :=
  if c.settings.high ≤ magnitude x then { c with clip := true, quiet := 0 }
  else if c.clip then ({ c with quiet := c.quiet + 1 } : Channel).endClip else c

/-- Silence detection is on (R43). -/
def ChannelSettings.detects (c : ChannelSettings) : Bool := decide (0 < c.low) && decide (0 < c.dwell)

/-- A silent episode is due to start (R43). -/
def Channel.silentDue (c : Channel) : Bool :=
  c.settings.detects && !c.silentFlag && decide (c.settings.dwell ≤ c.silence)

/-- Start a silent episode that is due (R43). -/
def Channel.startSilent (c : Channel) : Channel := if c.silentDue then { c with silentFlag := true } else c

/-- The silence test of an output (R43). -/
def Channel.silenceStep (c : Channel) (x : Sample) : Channel :=
  if c.settings.detects then
    if magnitude x < c.settings.low then ({ c with silence := min (c.silence + 1) 480000 } : Channel).startSilent
    else { c with silence := 0, silentFlag := false }
  else { c with silence := 0, silentFlag := false }

/-- The meter peak after an output (R44). -/
def Channel.meterStep (c : Channel) (x : Sample) : Channel := { c with peak := max c.peak (magnitude x) }

/-- An input channel after it has taken a slot. -/
def Channel.takeSlot (c : Channel) (w : BitVec 32) : Channel :=
  (((c.holdStep w).clipStep (c.output w)).silenceStep (c.output w)).meterStep (c.output w)

/-- An event if a flag has risen. -/
def riseEvent (was now : Bool) (k : EventKind) (source : Nat) (pos : Nat) : List Event :=
  if !was && now then [{ kind := k, source := source, position := pos, error := 0 }] else []

/-- The events of one input in one frame: DROPOUT, then CLIP, then SILENT (R41 to R43, R55). -/
def Channel.newEvents (was now : Channel) (source : Nat) (pos : Nat) : List Event :=
  riseEvent was.dropout now.dropout .dropout source pos ++ riseEvent was.clip now.clip .clip source pos
    ++ riseEvent was.silentFlag now.silentFlag .silent source pos

/-! ## The buses and the tracks (R49, R51) -/

/-- The sum of the sixteen scaled outputs on a bus (R49 steps 1 and 2). -/
def busSum (gains : Vector (BitVec 16) 16) (outputs : Vector Sample 16) : Int :=
  ((List.finRange 16).map fun i => scale outputs[i].toInt gains[i]).sum

/-- The bus sample (R49 step 3). -/
def busSample (sum : Int) : Sample := BitVec.ofInt 24 (saturate24 sum)

/-- End a bus clip episode whose quiet counter has reached 4,800 (R49). -/
def MixBus.endClip (b : MixBus) : MixBus :=
  if b.clip = true ∧ Config.quietLimit ≤ b.quiet then { b with clip := false, quiet := 0 } else b

/-- A bus after a frame with a sum: its clip episode and its peak (R44, R49). -/
def MixBus.takeSum (b : MixBus) (sum : Int) : MixBus :=
  if saturate24 sum ≠ sum then
    { b with clip := true, quiet := 0, peak := max b.peak (magnitude (busSample sum)) }
  else
    ({ b with quiet := if b.clip then b.quiet + 1 else b.quiet
              peak := max b.peak (magnitude (busSample sum)) } : MixBus).endClip

/-- A track's sample from its source code (R51). -/
def trackSample (outputs : Vector Sample 16) (left right : Sample) (source : Nat) : Sample :=
  if h : 1 ≤ source ∧ source ≤ 16 then outputs[source - 1]'(by omega)
  else if source = 17 then left else if source = 18 then right else 0

/-- The sixteen outputs of a frame. -/
def Inputs.outputs (i : Inputs) (slots : Vector (BitVec 32) 16) : Vector Sample 16 :=
  Vector.ofFn fun k : Fin 16 => i.channels[k].output slots[k]

/-- The sum on bus L of a frame. -/
def State.sumL (s : State) (slots : Vector (BitVec 32) 16) : Int := busSum s.router.busL.gains (s.inputs.outputs slots)

/-- The sum on bus R of a frame. -/
def State.sumR (s : State) (slots : Vector (BitVec 32) 16) : Int := busSum s.router.busR.gains (s.inputs.outputs slots)

/-- The twenty-four track samples of a frame (R51). -/
def State.trackSamples (s : State) (slots : Vector (BitVec 32) 16) : Vector Sample 24 :=
  Vector.ofFn fun t : Fin 24 =>
    trackSample (s.inputs.outputs slots) (busSample (s.sumL slots)) (busSample (s.sumR slots)) s.router.sources[t]

/-! ## The frame (R35, R55, R58, R59) -/

/-- The inputs after a frame. -/
def Inputs.takeSlots (i : Inputs) (slots : Vector (BitVec 32) 16) : Inputs :=
  { i with channels := Vector.ofFn fun k : Fin 16 => i.channels[k].takeSlot slots[k] }

/-- The router after a frame: its buses. -/
def State.routerAfter (s : State) (slots : Vector (BitVec 32) 16) : Router :=
  { s.router with busL := s.router.busL.takeSum (s.sumL slots), busR := s.router.busR.takeSum (s.sumR slots) }

/-- The events of a frame, in the order of R55: inputs 1 to 16, bus L, bus R. They carry the position of the frame. -/
def State.frameEvents (s : State) (slots : Vector (BitVec 32) 16) : List Event :=
  ((List.finRange 16).flatMap fun k =>
    s.inputs.channels[k].newEvents (s.inputs.channels[k].takeSlot slots[k]) (k.val + 1) s.ring.p)
  ++ riseEvent s.router.busL.clip (s.routerAfter slots).busL.clip .clip 17 s.ring.p
  ++ riseEvent s.router.busR.clip (s.routerAfter slots).busR.clip .clip 18 s.ring.p

/-- The audio-link sync at a frame (R36, R37). -/
def State.takeSync (s : State) : State :=
  let s1 := s.modInputs fun i => { i with sync := .synced, syncTimer := Timer.zero }
  if s.inputs.sync = .lost then s1.lower .audioLost else s1

/-- The frame in the conditioner and the mixer, with its events handed over (R35, R55). -/
def State.conditionFrame (s : State) (slots : Vector (BitVec 32) 16) : State :=
  runAll (fun e s => s.intake e) (s.frameEvents slots)
    ((s.modInputs fun i => i.takeSlots slots).modRouter fun _ => s.routerAfter slots)

/-- The blocks that take the new position (R59): the trigger filters for the position just written, the loss count, and
the timeline reading for mark firing. -/
def State.takePosition (s : State) (line1 line2 : Bool) (written : Nat) : State :=
  let s1 := (s.modTriggers fun t => t.sample line1 line2 written).advanceLoss
  s1.modTakes fun t => { t with markDue := s1.marksEntered }

/-- The frame itself, as one event (R35, R58). -/
def State.takeAudio (s : State) (slots : Vector (BitVec 32) 16) (line1 line2 : Bool) : State :=
  ((((s.takeSync.conditionFrame slots).writeRing (s.trackSamples slots)).overrun).takePosition line1 line2 s.ring.p)

/-! ## Clip episodes that are still to end (log entry 11) -/

/-- Change one input channel. -/
def Inputs.modChannel (i : Inputs) (k : Fin 16) (f : Channel → Channel) : Inputs :=
  { i with channels := i.channels.set k (f i.channels[k]) }

/-- Change one bus. -/
def Router.modBus (r : Router) (b : Bus) (f : MixBus → MixBus) : Router :=
  match b with
  | .l => { r with busL := f r.busL }
  | .r => { r with busR := f r.busR }

/-- An input's clip episode ends if it is due. -/
def State.takeClipEnd (s : State) (k : Fin 16) : State := s.modInputs fun i => i.modChannel k Channel.endClip

/-- A bus's clip episode ends if it is due. -/
def State.takeBusClipEnd (s : State) (b : Bus) : State := s.modRouter fun r => r.modBus b MixBus.endClip

/-- An input's silent episode starts if it is due, and its SILENT event is handed over at P (R43, log entry 10). -/
def State.takeSilent (s : State) (k : Fin 16) : State :=
  if s.inputs.channels[k].silentDue then
    (s.modInputs fun i => i.modChannel k Channel.startSilent).intake
      { kind := .silent, source := k.val + 1, position := s.ring.p, error := 0 }
  else s

/-- What the last advance of P has made due, in the order of log entry 2. -/
def State.settleAdvance (s : State) : State :=
  s.takeTailEnd.takeLimitCut.takeWindowEnd.takeRefLost.takeMarksFired.takeEdges

/-! ## The sync loss and the meters (R36, R45, R46) -/

/-- The sync is lost, in the order of R36. -/
def State.loseSync (s : State) : State :=
  if s.inputs.sync = .synced then
    (((s.modInputs fun i => { i with sync := .lost, syncTimer := Timer.at Config.syncLimit }).raise .audioLost).intake
      { kind := .audioBreak, source := 0, position := s.ring.p, error := 0 })
  else s

/-- The eighteen meter peaks, inputs 1 to 16 and then buses 17 and 18 (R45). -/
def State.peaks (s : State) : Vector Nat 18 :=
  Vector.ofFn fun k : Fin 18 =>
    if h : k.val < 16 then (s.inputs.channels[k.val]'h).peak
    else if k.val = 16 then s.router.busL.peak else s.router.busR.peak

/-- Clear the eighteen peaks (R45, R46). -/
def State.clearPeaks (s : State) : State :=
  (s.modInputs fun i => { i with channels := i.channels.map fun c => { c with peak := 0 } }).modRouter fun r =>
    { r with busL := { r.busL with peak := 0 }, busR := { r.busR with peak := 0 } }

/-- The expiry of the report period: LVLS is queued, the peaks are cleared and the timer starts the next period (R46). -/
def State.reportLevels (s : State) : State :=
  if s.inputs.reportPeriod = 0 then s
  else
    ((s.notify (.lvls s.ring.p s.peaks)).clearPeaks).modInputs fun i => { i with reportTimer := Timer.zero }

end Sys2Proof.Machine
end

