-- ==== Sys2Proof/Machine/DrainEvents.lean ====
section
/-! DEFINITION. What a drain port brings: completions (R121), HOLD and GO (R123), the link (R124), the stall (R125), and
the forming of the next block (R116 to R118). -/

namespace Sys2Proof.Machine

/-- A completed block counted in its take's section (R121 step 1). -/
def Section.complete (x : Section) (count : Nat) : Section :=
  { x with confirmed := x.formation, delivered := x.delivered + count }

/-- A completed block counted in the drain (R121 step 2). -/
def DrainState.completeLate (x : DrainState) (count : Nat) : DrainState :=
  { x with lateCompletions := bump Config.countTop x.lateCompletions
           lateSamples := min (x.lateSamples + count) 4294967295 }

/-- A completed block is counted in its section: it is not settled and its take's record is in the table (R121 step 1). -/
def State.countsInSection (s : State) (b : Block) : Bool := !b.settled && (s.record? b.header.takeId).isSome

/-- A completion from the port (R121); with no block in flight it is ignored. A block counted in the drain leaves no section
to test: its record is FINAL or gone, and no record is changed. -/
def State.takeCompletion (s : State) (d : Drain) : State :=
  match (s.drain d).inFlight with
  | none => s
  | some b =>
    if s.countsInSection b then
      ((s.updSection b.header.takeId d fun x => x.complete b.header.count).modDrain d fun x =>
        { x with inFlight := none }).settleDone b.header.takeId d
    else s.modDrain d fun x => { x.completeLate b.header.count with inFlight := none }

/-- HOLD from the writer (R123). -/
def DrainState.takeHold (x : DrainState) : DrainState :=
  if x.settings.enabled = true ∧ x.hold = false then
    { x with hold := true, timer := if x.linkUp then Timer.zero else x.timer }
  else x

/-- GO from the writer (R123). -/
def DrainState.takeGo (x : DrainState) : DrainState :=
  if x.settings.enabled = true ∧ x.hold = true then
    { x with hold := false, timer := if x.linkUp then Timer.zero else x.timer }
  else x

/-- The flags and the timer at a link-down (R124): a hold that turns into a link-down is one spell, whose timer goes on.
DESIGN CHOICE: a timer that has already stopped at the hold timeout in that hold is left there, and not started again from 0
(log entry 33). -/
def DrainState.dropLink (x : DrainState) : DrainState :=
  { x with linkUp := false, hold := false, timer := if x.timerRuns then x.timer else Timer.zero }

/-- Link-down on the port (R124): the block in flight is aborted by R122. -/
def State.takeLinkDown (s : State) (d : Drain) : State := (s.modDrain d DrainState.dropLink).abortForLink d

/-- Link-up on the port (R124); on a port whose link is up it changes nothing (log entry 20). -/
def DrainState.takeLinkUp (x : DrainState) : DrainState :=
  if x.linkUp then x else { x with linkUp := true, hold := false, timer := Timer.zero }

/-- The hold/down timer, if it runs, reaches the hold timeout (R125, log entry 4). -/
def State.takeStall (s : State) (d : Drain) : State := if (s.drain d).timerRuns then s.reachStall d else s

/-- A drain forms its next block if R116 and R117 allow one; a closed take with nothing left is tested for DONE (R117). -/
def State.takeForm (s : State) (d : Drain) : State :=
  match s.nextBlock d with
  | some rb => s.sendBlock d rb.1 rb.2
  | none => if (s.drain d).mayForm then s.testExhausted d else s

end Sys2Proof.Machine
end

