-- ==== Sys2Proof/Machine/Resets.lean ====
section
/-! DEFINITION. What each kind of reset leaves in each block: RSET ENGINE (R180 and the blocks' tables), RSET CONFIG (R181
and the blocks' tables) and power-on reset (R182). -/

namespace Sys2Proof.Machine

/-! ## RSET ENGINE -/

/-- The control link interface after RSET ENGINE (R165, R180). -/
def Link.engineReset (l : Link) : Link :=
  { l with consecutive := 0, counts := LinkCounts.zero, notices := [], nextSeq := 0, lostCount := 0, conds := Conds.clear }

/-- An input after RSET ENGINE: its settings alone are kept (R47). -/
def Channel.engineReset (c : Channel) : Channel := { Channel.initial with settings := c.settings }

/-- The input conditioner after RSET ENGINE (R37, R46, R47). The report timer restarts from 0 (R46); R37 says of the sync
timer only "Stopped": DESIGN CHOICE, it stands at 0 (log entry 33). -/
def Inputs.engineReset (i : Inputs) : Inputs :=
  { i with channels := i.channels.map Channel.engineReset, sync := .acquiring, syncTimer := Timer.zero,
           reportTimer := Timer.zero }

/-- A bus after RSET ENGINE: its gains alone are kept (R50). -/
def MixBus.engineReset (b : MixBus) : MixBus := { MixBus.initial with gains := b.gains }

/-- The mixer and router after RSET ENGINE (R50 to R54). -/
def Router.engineReset (r : Router) : Router :=
  { r with busL := r.busL.engineReset, busR := r.busR.engineReset }

/-- The timeline unit after RSET ENGINE (R18). -/
def Timeline.engineReset (t : Timeline) : Timeline :=
  { (t.enter t.mode.entered) with anchor := { pos := 0, count := 0 }, mismatch := 0, invalid := 0 }

/-- The capture ring after power-on reset and after RSET ENGINE: P is 0, and the slots are not cleared (R64). -/
def Ring.reset (r : Ring) : Ring := { r with p := 0 }

/-- The take controller after RSET ENGINE (R66, R95, R98). -/
def TakeCtl.engineReset (t : TakeCtl) : TakeCtl :=
  { TakeCtl.initial with caps := t.caps, nextId := t.nextId }

/-- A trigger line after RSET ENGINE: its settings alone are kept (R103). -/
def TrigLine.engineReset (l : TrigLine) : TrigLine :=
  { TrigLine.initial with mode := l.mode, assertedLow := l.assertedLow, filter := l.filter }

/-- The trigger unit after RSET ENGINE (R103). -/
def Triggers.engineReset (t : Triggers) : Triggers :=
  { line1 := t.line1.engineReset, line2 := t.line2.engineReset }

/-- A drain after RSET ENGINE: its settings and its link-up flag alone are kept (R112, R133). -/
def DrainState.engineReset (x : DrainState) : DrainState :=
  { DrainState.initial x.linkUp with settings := x.settings }

/-- The delivery engine after RSET ENGINE (R133). -/
def Delivery.engineReset (e : Delivery) : Delivery :=
  { list := [], drains := { a := e.drains.a.engineReset, b := e.drains.b.engineReset } }

/-- RSET ENGINE in every block (R179, R180). -/
def State.engineReset (s : State) : State :=
  { s with
    link := s.link.engineReset, inputs := s.inputs.engineReset, router := s.router.engineReset,
    timeline := s.timeline.engineReset, ring := s.ring.reset, takes := s.takes.engineReset,
    triggers := s.triggers.engineReset, delivery := s.delivery.engineReset, notes := s.notes.engineReset,
    binding := Binding.initial }

/-! ## RSET CONFIG -/

/-- Give an input its settings, with the silence rules of R43 applying to the change (R48). -/
def Channel.configure (c : Channel) (x : ChannelSettings) : Channel :=
  { c with settings := x, silence := if x.detects then c.silence else 0,
           silentFlag := x.detects && c.silentFlag }

/-- The input conditioner after RSET CONFIG (R37, R46, R47). With the report period at 0 the report timer stops, at a count no
rule states: DESIGN CHOICE, 0 (log entry 33). -/
def Inputs.configReset (i : Inputs) : Inputs :=
  { i with channels := i.channels.map fun c => c.configure ChannelSettings.initial, reportPeriod := 0,
           reportTimer := Timer.zero }

/-- The mixer and router after RSET CONFIG (R50 to R54). DESIGN CHOICE: the armed mask is empty, as R54 says of RSET CONFIG,
so that a roll taken next is refused with NOT ARMED (R81) until ARMT arms a track; R179's last paragraph says that such a
roll makes a new take outside the delivery list (log entry 38). -/
def Router.configReset (r : Router) : Router :=
  { busL := { r.busL with gains := MixBus.initial.gains }, busR := { r.busR with gains := MixBus.initial.gains },
    sources := initialSources, links := 0, armed := 0 }

/-- The timeline unit after RSET CONFIG at position `p` (R18). -/
def Timeline.configReset (t : Timeline) (p : Nat) : Timeline :=
  { Timeline.initial with anchor := { pos := p, count := 0 }, mismatch := t.mismatch, invalid := t.invalid }

/-- The take controller after RSET CONFIG (R94, R98). -/
def TakeCtl.configReset (t : TakeCtl) : TakeCtl :=
  { t with caps := Captures.initial, startMark := Mark.initial, stopMark := Mark.initial, markDue := none }

/-- A trigger line after RSET CONFIG: its runtime state is kept (R103). DESIGN CHOICE: with it is kept an edge that the last
sample confirmed and that EDGE_CONFIRMED has not yet acted on, and the request that the line's mode gave it at that sample
(R105), although the mode is OFF after the reset (log entry 12). -/
def TrigLine.configReset (l : TrigLine) : TrigLine := { l with mode := .off, assertedLow := false, filter := 96 }

/-- The trigger unit after RSET CONFIG (R103). -/
def Triggers.configReset (t : Triggers) : Triggers :=
  { line1 := t.line1.configReset, line2 := t.line2.configReset }

/-- Disable a drain if it is enabled (R115). -/
def State.disableIfEnabled (s : State) (d : Drain) : State :=
  if (s.drain d).settings.enabled then s.disableDrain d else s

/-- A drain after RSET CONFIG (R112). A block in flight is absent: disabling has aborted it. -/
def DrainState.configReset (x : DrainState) : DrainState :=
  { x with settings := DrainSettings.initial, hold := false, timer := Timer.zero, stalled := false, gapEpisode := false
           inFlight := none }

/-- The delivery engine's part of RSET CONFIG (R133): both drains are disabled by R115 and take their defaults. -/
def State.configDrains (s : State) : State :=
  ((s.disableIfEnabled .a).disableIfEnabled .b).modDelivery fun e =>
    { e with drains := { a := e.drains.a.configReset, b := e.drains.b.configReset } }

/-- The condition flags after RSET CONFIG (R181). -/
def Conds.configReset (c : Conds) : Conds := { c with referenceLost := false, drainStalled := false }

/-- The control link interface after RSET CONFIG (R165, R181). -/
def Link.configReset (l : Link) : Link := { l with consecutive := 0, errorLimit := 1, conds := l.conds.configReset }

/-- RSET CONFIG in every block (R179, R181). -/
def State.configReset (s : State) : State :=
  { s.configDrains with
    link := s.configDrains.link.configReset, inputs := s.inputs.configReset, router := s.router.configReset,
    timeline := s.timeline.configReset s.ring.p, takes := s.configDrains.takes.configReset,
    triggers := s.triggers.configReset, notes := { s.notes with accept := [] } }

/-! ## Power-on reset -/

/-- Power-on reset (R182): every block at its power-on values, the ring's slots not cleared (R64), the link-up flags read from
the ports and the note line at its present level (log entries 8 and 9); the queue of commands and the count of free values
are the model's own. -/
def State.powerOn (s : State) : State :=
  { State.reset with
    pending := s.pending
    ring := s.ring.reset
    delivery := Delivery.initial (s.drain .a).linkUp (s.drain .b).linkUp
    notes := s.notes.powerOn
    freeCount := s.freeCount }

end Sys2Proof.Machine
end

