-- ==== Sys2Proof/Machine/Requests.lean ====
section
/-! DEFINITION. The requests: what a good frame does to the interface (R168 to R171), and for each request its checks, its
effect and its result, by the rule of its owner. -/

namespace Sys2Proof.Machine

/-! ## A good frame (R168 to R171) -/

/-- The outcome of a request: the state, the status and the result of its reply. -/
structure Answer where
  state : State
  status : Status
  result : Result

/-- A request carried out. -/
def okAnswer (s : State) (r : Result) : Answer := { state := s, status := .ok, result := r }

/-- A request refused: nothing changes and the reply carries no result (R171). -/
def refuse (s : State) (k : Status) : Answer := { state := s, status := k, result := .none }

/-- Every good frame is counted, and sets the consecutive error count to 0 (R168). -/
def Link.goodFrame (l : Link) : Link :=
  { l with consecutive := 0
           counts := { l.counts with framesReceived := bump Config.countTop l.counts.framesReceived } }

/-- A good frame discarded for a full reply queue (R169). -/
def Link.overrunDiscard (l : Link) : Link :=
  { l with counts := { l.counts with overrunDiscards := bump Config.countTop l.counts.overrunDiscards } }

/-- The reply queue has room (R169). -/
def Link.replyRoom (l : Link) : Bool := decide (l.replies.length < Config.maxReplies)

/-- A reply is placed at the end of the reply queue (R170, R171). -/
def Answer.place (a : Answer) (tag : BitVec 8) (kind : Text) : State :=
  a.state.modLink fun l =>
    { l with replies := l.replies ++ [{ tag := tag, kind := kind, status := a.status, result := a.result }] }

/-- A good frame is taken: it is counted, the reply room is checked, the request is handled and its reply placed, all in
one event (R168 to R170). -/
def State.serve (s : State) (tag : BitVec 8) (kind : Text) (handle : State → Answer) : State :=
  if s.link.replyRoom then (handle (s.modLink Link.goodFrame)).place tag kind
  else (s.modLink Link.goodFrame).modLink Link.overrunDiscard

/-! ## The interface's own requests (R175 to R181) -/

/-- IDEN (R177). -/
def reqIden (s : State) : Answer := okAnswer s .iden

/-- Enable, link-up, hold and stalled flags of a drain (R176). -/
def DrainState.statFlags (x : DrainState) : Bool × Bool × Bool × Bool :=
  (x.settings.enabled, x.linkUp, x.hold, x.stalled)

/-- What a STAT reply reports (R176). -/
def State.statReport (s : State) : StatReport :=
  { highest := s.link.conds.highest, conds := s.link.conds, lostCount := s.link.lostCount,
    queueLevel := s.link.notices.length, nextSeq := s.link.nextSeq, p := s.ring.p, takeState := s.takes.state,
    openTake := s.openId, list := s.delivery.list,
    drains := { a := (s.drain .a).statFlags, b := (s.drain .b).statFlags }, ref := s.timeline.ref }

/-- STAT (R175, R176). -/
def reqStat (s : State) : Answer := okAnswer s.clearReported (.stat s.statReport)

/-- What a LINK reply reports (R178). -/
def State.linkResult (s : State) : Result :=
  .link s.link.errorLimit s.link.consecutive s.link.conds.linkFault s.link.counts

/-- LINK set (R178). -/
def reqLinkSet (limit : BitVec 8) (s : State) : Answer :=
  match errorLimitOf limit with
  | none => refuse s .range
  | some n =>
    okAnswer (s.modLink fun l => { l with errorLimit := n }) (s.modLink fun l => { l with errorLimit := n }).linkResult

/-- LINK read (R178). -/
def reqLinkRead (s : State) : Answer := okAnswer s s.linkResult

/-- LINK read and clear (R178). -/
def reqLinkReadAndClear (s : State) : Answer :=
  okAnswer (s.modLink fun l => { l with counts := LinkCounts.zero }) s.linkResult

/-- RSET ENGINE (R179, R180). -/
def reqRsetEngine (s : State) : Answer := okAnswer s.engineReset (.rset false 0)

/-- RSET CONFIG (R179, R181). -/
def reqRsetConfig (s : State) : Answer :=
  if s.takes.state ≠ .stopped ∨ s.delivery.list ≠ [] then refuse s .busy
  else okAnswer s.configReset (.rset true s.configReset.ring.p)

/-! ## Inputs, mix and tracks -/

/-- INPT set (R48). -/
def reqInptSet (input : BitVec 8) (fields : InputFields) (s : State) : Answer :=
  if 16 < input.toNat then refuse s .range
  else
    match channelSettingsOf fields with
    | none => refuse s .range
    | some x =>
      okAnswer
        (s.modInputs fun i =>
          match inputIndex input with
          | some k => i.modChannel k fun c => c.configure x
          | none => { i with channels := i.channels.map fun c => c.configure x })
        (.inptSet x)

/-- INPT read (R48). -/
def reqInptRead (input : BitVec 8) (s : State) : Answer :=
  match inputIndex input with
  | none => refuse s .range
  | some k => okAnswer s (.inptRead s.inputs.channels[k])

/-- One bus. -/
def Router.bus (r : Router) : Bus → MixBus
  | .l => r.busL
  | .r => r.busR

/-- A gain stored for one input, or for all sixteen (R50). -/
def MixBus.setGain (b : MixBus) (input : Option (Fin 16)) (gain : BitVec 16) : MixBus :=
  match input with
  | some k => { b with gains := b.gains.set k gain }
  | none => { b with gains := Vector.replicate 16 gain }

/-- MIXG (R50). -/
def reqMixg (bus input : BitVec 8) (gain : BitVec 16) (s : State) : Answer :=
  match busOf bus with
  | none => refuse s .range
  | some b =>
    if 16 < input.toNat then refuse s .range
    else
      okAnswer (s.modRouter fun r => r.modBus b fun x => x.setGain (inputIndex input) gain)
        (.mixg ((s.router.bus b).setGain (inputIndex input) gain).gains)

/-- What a TRAK reply reports (R53). -/
def Router.trakResult (r : Router) : Result := .trak r.sources r.links r.armed

/-- A track lies in the track mask of the open take (R53). -/
def State.trackBusy (s : State) (t : Fin 24) : Bool :=
  match s.openRecord? with
  | some r => r.mask.getLsbD t.val
  | none => false

/-- The track after a track: track 24 is followed by track 1 (R52). -/
def nextTrack (t : Fin 24) : Fin 24 := t + 1

/-- The track before a track. -/
def prevTrack (t : Fin 24) : Fin 24 := t - 1

/-- A set of tracks closed over a set of links: the partner of every linked track it holds is added (R54). -/
def closeMask (links mask : TrackSet) : TrackSet :=
  mask ||| ((mask &&& links).rotateLeft 1) ||| (links &&& mask.rotateRight 1)

/-- A track belongs to a link: link `t`, or the link of the track before it (R52). -/
def isLinked (links : TrackSet) (t : Fin 24) : Bool := links.getLsbD t.val || links.getLsbD (prevTrack t).val

/-- The bit of a track, or of a link. -/
def trackBit (t : Fin 24) : TrackSet := 1#24 <<< t.val

/-- Making link `t` when neither member belongs to a link (R52). -/
def Router.makeLink (r : Router) (t : Fin 24) : Router :=
  { r with links := r.links ||| trackBit t
           armed := if r.armed.getLsbD t.val || r.armed.getLsbD (nextTrack t).val then
               closeMask (r.links ||| trackBit t) r.armed
             else r.armed }

/-- Breaking the link that a track belongs to (R52). -/
def Router.breakLink (r : Router) (t : Fin 24) : Router :=
  if r.links.getLsbD t.val then { r with links := r.links &&& ~~~(trackBit t) }
  else { r with links := r.links &&& ~~~(trackBit (prevTrack t)) }

/-- TRAK SOURCE (R53). -/
def reqTrakSource (track source : BitVec 8) (s : State) : Answer :=
  match trackIndex track with
  | none => refuse s .range
  | some t =>
    if 18 < source.toNat then refuse s .range
    else if s.trackBusy t then refuse s .busy
    else
      okAnswer (s.modRouter fun r => { r with sources := r.sources.set t source.toNat })
        (s.modRouter fun r => { r with sources := r.sources.set t source.toNat }).router.trakResult

/-- TRAK LINK (R52, R53). -/
def reqTrakLink (track : BitVec 8) (s : State) : Answer :=
  match trackIndex track with
  | none => refuse s .range
  | some t =>
    if s.trackBusy t then refuse s .busy
    else if s.router.links.getLsbD t.val then okAnswer s s.router.trakResult
    else if isLinked s.router.links t || isLinked s.router.links (nextTrack t) then refuse s .linked
    else okAnswer (s.modRouter fun r => r.makeLink t) (s.router.makeLink t).trakResult

/-- TRAK UNLINK (R52, R53). -/
def reqTrakUnlink (track : BitVec 8) (s : State) : Answer :=
  match trackIndex track with
  | none => refuse s .range
  | some t =>
    if s.trackBusy t then refuse s .busy
    else okAnswer (s.modRouter fun r => r.breakLink t) (s.router.breakLink t).trakResult

/-- TRAK READ (R53). -/
def reqTrakRead (track : BitVec 8) (s : State) : Answer :=
  match trackIndex track with
  | none => refuse s .range
  | some _ => okAnswer s s.router.trakResult

/-- ARMT (R54). -/
def reqArmt (mask : BitVec 24) (s : State) : Answer :=
  okAnswer (s.modRouter fun r => { r with armed := closeMask r.links mask }) (.armt (closeMask s.router.links mask))

/-- METR read (R45). -/
def reqMetrRead (s : State) : Answer := okAnswer s.clearPeaks (.metrRead s.peaks s.ring.p)

/-- METR period (R45). A period that is not 0 restarts the report timer from 0 (R45); with the period 0 the timer stops, at a
count no rule states: DESIGN CHOICE, 0 (log entry 33). -/
def reqMetrPeriod (period : BitVec 16) (s : State) : Answer :=
  okAnswer
    (s.modInputs fun i => { i with reportPeriod := reportPeriodOf period.toNat, reportTimer := Timer.zero })
    (.metrPeriod (reportPeriodOf period.toNat))

/-! ## The timeline unit -/

/-- The rate, the mode and the anchor of a TLMD that is taken (R29 steps 4 to 6). -/
def State.applyTlmd (s : State) (rate : Rate) (mode : TimeMode) : State :=
  if rate ≠ s.timeline.rate then s.changeRate rate mode
  else if mode ≠ s.timeline.mode then s.changeMode mode
  else s

/-- A TLMD that is taken: the tolerance first (R29 step 3). -/
def State.takeTlmd (s : State) (rate : Rate) (mode : TimeMode) (tolerance : Nat) : State :=
  (s.modTimeline fun t => { t with tolerance := tolerance }).applyTlmd rate mode

/-- TLMD (R29). -/
def reqTlmd (rate mode : BitVec 8) (tolerance : BitVec 16) (s : State) : Answer :=
  match rateOf rate, timeModeOf mode with
  | some r, some m =>
    if r ≠ s.timeline.rate ∧ s.takes.state ≠ .stopped then refuse s .busy
    else
      okAnswer (s.takeTlmd r m (clamp 0 480 tolerance.toNat))
        (.tlmd r m (clamp 0 480 tolerance.toNat) (s.takeTlmd r m (clamp 0 480 tolerance.toNat)).timeline.ref)
  | _, _ => refuse s .range

/-- TCST (R31). -/
def reqTcst (label : Label) (s : State) : Answer :=
  if validLabel s.timeline.rate label = false then refuse s .label
  else if s.timeline.mode ≠ .free then refuse s .state
  else
    okAnswer (s.setTimecode (labelCount s.timeline.rate label))
      (.tcst (labelCount s.timeline.rate label)
        { pos := s.ring.p, count := labelCount s.timeline.rate label })

/-- JAMS (R32). -/
def reqJams (s : State) : Answer :=
  if s.timeline.mode = .free then refuse s .state else okAnswer s.startJam (.jams s.startJam.timeline.ref)

/-- TCQR (R33). -/
def reqTcqr (s : State) : Answer := okAnswer s (.tcqr (s.timeline.readingAt s.ring.p) s.timeline)

/-! ## Takes, rolls, cuts and marks -/

/-- CAPS set (R68); the maximum length is tested at once (R85). -/
def reqCapsSet (fields : CaptureFields) (s : State) : Answer :=
  okAnswer (s.modTakes fun t => { t with caps := capturesOf fields }).takeLimitCut (.caps (capturesOf fields))

/-- CAPS read (R68). -/
def reqCapsRead (s : State) : Answer := okAnswer s (.caps s.takes.caps)

/-- A section of a record (R93). -/
def TakeRecord.sectionOf (r : TakeRecord) (n : Nat) : TakeSection :=
  if n = 0 then .header r.header
  else if n = 1 then .names r.slate.names
  else if n = 2 then .comments 2 (r.slate.comments.take 4)
  else if n = 3 then .comments 3 ((r.slate.comments.drop 4).take 4)
  else if n = 4 then .events 4 (r.events.take 16)
  else if n = 5 then .events 5 ((r.events.drop 16).take 16)
  else .delivery r.start r.truncated r.sections

/-- TAKE (R93). -/
def reqTake (id : BitVec 16) (sectionNo : BitVec 8) (s : State) : Answer :=
  if 6 < sectionNo.toNat then refuse s .range
  else
    match s.record? id.toNat with
    | none => refuse s .noTake
    | some r => okAnswer s (.take r.id r.state s.ring.p (r.sectionOf sectionNo.toNat))

/-- The answer of a ROLL by its outcome (R96). -/
def rollAnswer (before : State) (out : State × RollOutcome) : Answer :=
  match out.2 with
  | .taken id start => okAnswer out.1 (.rollTaken id start before.ring.p)
  | .alreadyRolling =>
    okAnswer out.1 (.rollAlready before.openId (match before.openRecord? with | some r => r.roll | none => 0))
  | .notArmed => refuse out.1 .notArmed

/-- ROLL (R96). -/
def reqRoll (s : State) : Answer := rollAnswer s (s.rollReq .command s.ring.p)

/-- The end target of a cut take, or its end when it has closed (R97). -/
def State.cutTarget (s : State) (id : Nat) : Nat :=
  match s.record? id with
  | some r => match r.endTarget with
    | some e => e
    | none => r.endPos.getD 0
  | none => 0

/-- The answer of a CUT by its outcome (R97). -/
def cutAnswer (before : State) (out : State × CutOutcome) : Answer :=
  match out.2 with
  | .taken id cut => okAnswer out.1 (.cutTaken id cut (out.1.cutTarget id) (decide (out.1.takes.state = .stopped)))
  | .notRolling => okAnswer out.1 (.cutNot before.takes.state before.openId)
  | .held => okAnswer out.1 (.cutNot before.takes.state before.openId)

/-- CUT (R97). -/
def reqCut (s : State) : Answer := cutAnswer s (s.cutReq .command s.ring.p none)

/-- One mark as a MARK reply reports it (R99). -/
def State.markReport (s : State) (m : MarkName) : MarkReport :=
  { armed := (s.mark m).armed, count := (s.mark m).count, label := labelOf s.timeline.rate (s.mark m).count,
    distance := if (s.mark m).armed then
        some (dist s.timeline.rate (s.timeline.countAt s.ring.p) (s.mark m).count)
      else none }

/-- What a MARK reply reports (R99). -/
def State.markResult (s : State) : Result := .mark (s.markReport .start) (s.markReport .stop)

/-- Arm a mark at a frame count (R99). -/
def State.armMark (s : State) (m : MarkName) (count : Nat) : State :=
  s.modMark m fun _ => { armed := true, count := count }

/-- MARK set (R99). -/
def reqMarkSet (mark : BitVec 8) (label : Label) (s : State) : Answer :=
  match markOf mark with
  | none => refuse s .range
  | some m =>
    if validLabel s.timeline.rate label = false then refuse s .label
    else
      okAnswer (s.armMark m (labelCount s.timeline.rate label))
        (s.armMark m (labelCount s.timeline.rate label)).markResult

/-- MARK clear (R99). -/
def reqMarkClear (mark : BitVec 8) (s : State) : Answer :=
  match markOf mark with
  | none => refuse s .range
  | some m => okAnswer (s.disarm m) (s.disarm m).markResult

/-- MARK read (R99). -/
def reqMarkRead (mark : BitVec 8) (s : State) : Answer :=
  match markOf mark with
  | none => refuse s .range
  | some _ => okAnswer s s.markResult

/-! ## Trigger lines and drains -/

/-- The settings of a trigger line (R108). -/
def TrigLine.configure (l : TrigLine) (mode : TrigMode) (assertedLow : Bool) (filter : Nat) : TrigLine :=
  { l with mode := mode, assertedLow := assertedLow, filter := filter }

/-- TRIG set (R108). -/
def reqTrigSet (line mode polarity : BitVec 8) (filter : BitVec 16) (s : State) : Answer :=
  match lineOf line, trigModeOf mode, flagOf polarity with
  | some n, some m, some low =>
    okAnswer (s.modTriggers fun t => t.modify n fun l => l.configure m low (clamp 0 4800 filter.toNat))
      (.trig ((s.triggers.get n).configure m low (clamp 0 4800 filter.toNat)))
  | _, _, _ => refuse s .range

/-- TRIG read (R108). -/
def reqTrigRead (line : BitVec 8) (s : State) : Answer :=
  match lineOf line with
  | none => refuse s .range
  | some n => okAnswer s (.trig (s.triggers.get n))

/-- What a DRAN reply reports (R113). DESIGN CHOICE: it carries no P, for R113 lists none, although R132 has the cart
controller compare the P that each reply carries for queries of a section and a drain (log entry 37). -/
def State.dranResult (s : State) (d : Drain) : Result := .dran (s.drain d) ((s.currentTake d).getD 0)

/-- A change of word size, byte order or block length while a take is PENDING or ACTIVE on the drain (R113 step 4). -/
def State.dranBusy (s : State) (d : Drain) (x : DrainSettings) : Bool :=
  (decide (x.wordSize ≠ (s.drain d).settings.wordSize) || decide (x.highFirst ≠ (s.drain d).settings.highFirst)
    || decide (x.blockLength ≠ (s.drain d).settings.blockLength)) && (s.currentTake d).isSome

/-- The change of enable of a DRAN set (R113 to R115). -/
def State.changeEnable (s : State) (d : Drain) (enabled : Bool) : State :=
  if enabled = (s.drain d).settings.enabled then s else if enabled then s.enableDrain d else s.disableDrain d

/-- The running timer already stands at or above the hold timeout: the stall of R125 is reached at once (R113). No rule gives
the timer's count after that: DESIGN CHOICE, it stands at the new timeout, also where it had already stopped at the old one
with the stall reached (log entry 33). -/
def State.testTimeout (s : State) (d : Drain) : State :=
  if (s.drain d).timerRuns = true ∧ (s.drain d).timerLimit ≤ (s.drain d).timer.count then s.reachStall d else s

/-- The settings of a DRAN set that is taken (R113). -/
def State.setDrain (s : State) (d : Drain) (x : DrainSettings) : State :=
  ((s.modDrain d fun y => { y with settings := { x with enabled := y.settings.enabled } }).changeEnable
    d x.enabled).testTimeout d

/-- DRAN set (R113). -/
def reqDranSet (drain : BitVec 8) (fields : DrainFields) (s : State) : Answer :=
  match drainOf drain, drainSettingsOf fields with
  | some d, some x =>
    if s.dranBusy d x then refuse s .busy else okAnswer (s.setDrain d x) ((s.setDrain d x).dranResult d)
  | _, _ => refuse s .range

/-- DRAN read (R113). -/
def reqDranRead (drain : BitVec 8) (s : State) : Answer :=
  match drainOf drain with
  | none => refuse s .range
  | some d => okAnswer s (s.dranResult d)

/-! ## Notes -/

/-- The stations of an NLIN set, each once, in the order of its first place (R137). -/
def stationList (fields : List Nat) : List Nat :=
  fields.foldl (fun acc x => if acc.contains x then acc else acc ++ [x]) []

/-- The first station-count fields (R137). -/
def namedStations (count : BitVec 8) (stations : Vector (BitVec 8) 8) : List Nat :=
  (stations.toList.take count.toNat).map fun b => b.toNat

/-- NLIN set (R137). -/
def reqNlinSet (count : BitVec 8) (stations : Vector (BitVec 8) 8) (s : State) : Answer :=
  if 8 < count.toNat ∨ (namedStations count stations).all (fun n => decide (1 ≤ n) && decide (n ≤ 30)) = false then
    refuse s .range
  else
    okAnswer (s.modNotes fun x => { x with accept := stationList (namedStations count stations) })
      (.nlin { s.notes with accept := stationList (namedStations count stations) })

/-- NLIN read (R137). -/
def reqNlinRead (s : State) : Answer := okAnswer s (.nlin s.notes)

/-- NLIN read and clear (R137). -/
def reqNlinReadAndClear (s : State) : Answer :=
  okAnswer (s.modNotes fun x => { x with counts := NoteCounts.zero }) (.nlin s.notes)

/-- NOTE (R146, R162). A text that no frame can carry is answered BAD_LENGTH (R169, log entry 31). -/
def reqNote (text : Text) (s : State) : Answer :=
  if Config.maxPayload < text.length then refuse s .badLength
  else
    okAnswer (s.bindNote (requestNote text s.ring.p)).1
      (.note (s.bindNote (requestNote text s.ring.p)).2 s.ring.p (requestNote text s.ring.p).long)

/-- A section of the pending slate (R163). -/
def State.slatSection (s : State) (n : Nat) : SlatSection :=
  if n = 0 then
    .header s.binding.scene s.binding.number s.binding.wild s.binding.comments.length s.binding.commentsLost
      s.takes.lastSlate
  else if n = 1 then .names s.binding.names
  else if n = 2 then .comments 2 (s.binding.comments.take 4)
  else .comments 3 ((s.binding.comments.drop 4).take 4)

/-- SLAT (R163). -/
def reqSlat (sectionNo : BitVec 8) (s : State) : Answer :=
  if 3 < sectionNo.toNat then refuse s .range else okAnswer s (.slat s.ring.p (s.slatSection sectionNo.toNat))

/-! ## Frames that name no request or do not fit (R169) -/

/-- A kind word that names no request (R169). -/
def reqBadKind (s : State) : Answer := refuse s .badKind

/-- A payload of another length than its kind's (R169). -/
def reqBadLength (s : State) : Answer := refuse s .badLength

/-- A field outside its set (R171). -/
def reqRange (s : State) : Answer := refuse s .range

end Sys2Proof.Machine
end

