-- ==== Sys2Proof/Machine/ControlLink.lean ====
section
/-! DEFINITION. The control line: receiving bytes (R166), frame errors and the link fault (R167, R168), dispatch of a good
frame (R169), and transmission (R172). -/

namespace Sys2Proof.Machine

/-! ## Dispatch (R169) -/

/-- The payload length of a request kind fits (R169, R183). -/
def ReqKind.fits (k : ReqKind) (n : Nat) : Bool :=
  match k with
  | .iden => decide (n = 0) | .stat => decide (n = 0) | .link => decide (n = 2) | .rset => decide (n = 1)
  | .inpt => decide (n = 23) | .mixg => decide (n = 4) | .trak => decide (n = 3) | .armt => decide (n = 3)
  | .metr => decide (n = 3) | .tlmd => decide (n = 4) | .tcst => decide (n = 4) | .jams => decide (n = 0)
  | .tcqr => decide (n = 0) | .caps => decide (n = 11) | .take => decide (n = 3) | .roll => decide (n = 0)
  | .cut => decide (n = 0) | .mark => decide (n = 6) | .trig => decide (n = 6) | .dran => decide (n = 9)
  | .nlin => decide (n = 10) | .note => decide (n ≤ 240) | .slat => decide (n = 1)

/-- The setting fields of an INPT payload (R48, R183). -/
def inputFieldsAt (p : Text) : InputFields :=
  { gain := u16At p 2, polarity := byteAt p 4, hold := u16At p 5, high := u32At p 7, low := u32At p 11,
    dwell := u32At p 15, substitute := byteAt p 19, value := u24At p 20 }

/-- The setting fields of a DRAN payload (R113, R183). -/
def drainFieldsAt (p : Text) : DrainFields :=
  { enable := byteAt p 2, wordSize := byteAt p 3, byteOrder := byteAt p 4, blockLength := u16At p 5,
    holdTimeout := u16At p 7 }

/-- The five settings of a CAPS payload (R68, R183). -/
def captureFieldsAt (p : Text) : CaptureFields :=
  { preRoll := u16At p 1, postRoll := u16At p 3, maxLength := u16At p 5, window := u16At p 7, grace := u16At p 9 }

/-- The eight station fields of an NLIN payload (R137, R183). -/
def stationsAt (p : Text) : Vector (BitVec 8) 8 := Vector.ofFn fun i : Fin 8 => byteAt p (2 + i.val)

/-- A request by its action code: set, read, or refused with RANGE. -/
def setOrRead (action : BitVec 8) (set read : State → Answer) : State → Answer :=
  if action = 0 then set else if action = 1 then read else reqRange

/-- A request by an action code of three. -/
def byThree (action : BitVec 8) (first second third : State → Answer) : State → Answer :=
  if action = 0 then first else if action = 1 then second else if action = 2 then third else reqRange

/-- The TRAK actions (R53). -/
def trakAction (p : Text) : State → Answer :=
  if byteAt p 1 = 0 then reqTrakSource (byteAt p 0) (byteAt p 2)
  else if byteAt p 1 = 1 then reqTrakLink (byteAt p 0)
  else if byteAt p 1 = 2 then reqTrakUnlink (byteAt p 0)
  else if byteAt p 1 = 3 then reqTrakRead (byteAt p 0)
  else reqRange

/-- A request handed to its owner, its payload's length having been checked (R169 step 4). -/
def ownerRequest (k : ReqKind) (p : Text) : State → Answer :=
  match k with
  | .iden => reqIden
  | .stat => reqStat
  | .link => byThree (byteAt p 0) (reqLinkSet (byteAt p 1)) reqLinkRead reqLinkReadAndClear
  | .rset => setOrRead (byteAt p 0) reqRsetEngine reqRsetConfig
  | .inpt => setOrRead (byteAt p 0) (reqInptSet (byteAt p 1) (inputFieldsAt p)) (reqInptRead (byteAt p 1))
  | .mixg => reqMixg (byteAt p 0) (byteAt p 1) (u16At p 2)
  | .trak => trakAction p
  | .armt => reqArmt (u24At p 0)
  | .metr => setOrRead (byteAt p 0) reqMetrRead (reqMetrPeriod (u16At p 1))
  | .tlmd => reqTlmd (byteAt p 0) (byteAt p 1) (u16At p 2)
  | .tcst => reqTcst (labelAt p 0)
  | .jams => reqJams
  | .tcqr => reqTcqr
  | .caps => setOrRead (byteAt p 0) (reqCapsSet (captureFieldsAt p)) reqCapsRead
  | .take => reqTake (u16At p 0) (byteAt p 2)
  | .roll => reqRoll
  | .cut => reqCut
  | .mark =>
    byThree (byteAt p 1) (reqMarkSet (byteAt p 0) (labelAt p 2)) (reqMarkClear (byteAt p 0)) (reqMarkRead (byteAt p 0))
  | .trig =>
    setOrRead (byteAt p 1) (reqTrigSet (byteAt p 0) (byteAt p 2) (byteAt p 3) (u16At p 4)) (reqTrigRead (byteAt p 0))
  | .dran => setOrRead (byteAt p 1) (reqDranSet (byteAt p 0) (drainFieldsAt p)) (reqDranRead (byteAt p 0))
  | .nlin => byThree (byteAt p 0) (reqNlinSet (byteAt p 1) (stationsAt p)) reqNlinRead reqNlinReadAndClear
  | .note => reqNote p
  | .slat => reqSlat (byteAt p 0)

/-- A kind word and a payload: BAD_KIND, then BAD_LENGTH, then the owner (R169 steps 2 to 4). -/
def frameRequest (kind payload : Text) : State → Answer :=
  match ReqKind.ofWord kind with
  | none => reqBadKind
  | some k => if ReqKind.fits k payload.length then ownerRequest k payload else reqBadLength

/-! ## Receiving (R166 to R168) -/

/-- The receiver returns to HUNT, and its silence timer stops (R166), at a count no rule states: DESIGN CHOICE, 0 (log entry
33). -/
def Link.hunt (l : Link) : Link := { l with rx := .hunt, silenceTimer := Timer.zero }

/-- The link count of a frame error (R167). -/
def LinkCounts.frameError (c : LinkCounts) : FrameError → LinkCounts
  | .length => { c with lengthErrors := bump Config.countTop c.lengthErrors }
  | .byte => { c with byteErrors := bump Config.countTop c.byteErrors }
  | .crc => { c with crcErrors := bump Config.countTop c.crcErrors }

/-- A frame error discards the frame and is counted; when the consecutive error count reaches the error limit, LINK FAULT
is set and LFLT is queued (R167, R168). -/
def State.frameError (s : State) (e : FrameError) : State :=
  let n := bump 255 s.link.consecutive
  let s1 := s.modLink fun l => { l.hunt with consecutive := n, counts := l.counts.frameError e }
  if n = s.link.errorLimit ∧ s.link.consecutive ≠ n then
    (s1.raise .linkFault).notify (.lflt n s.link.errorLimit e)
  else s1

/-- A byte whose stop bit is low (R166). -/
def State.byteError (s : State) : State :=
  if s.link.rx = .hunt then s.modLink fun l => { l with counts := l.counts.frameError .byte }
  else s.frameError .byte

/-- The receiver moves to another place of the frame; the byte restarts the silence timer (R166). -/
def State.rxTo (s : State) (r : RxState) : State := s.modLink fun l => { l with rx := r, silenceTimer := Timer.zero }

/-- A complete frame: its CRC is checked, low byte and high byte (R166, R167). -/
def State.frameComplete (s : State) (len : BitVec 8) (kind : Text) (tag : BitVec 8) (payload : Text)
    (low high : BitVec 8) : State :=
  if crc (len :: (kind ++ tag :: payload)) = high ++ low then
    (s.modLink Link.hunt).serve tag kind (frameRequest kind payload)
  else s.frameError .crc

/-- A byte of the control line whose stop bit is high, in each receive state (R166). -/
def State.goodByte (s : State) (v : BitVec 8) : State :=
  match s.link.rx with
  | .hunt =>
    if v = 0xA7 then s.rxTo .length
    else s.modLink fun l =>
      { l with counts := { l.counts with bytesSkipped := bump Config.countTop l.counts.bytesSkipped } }
  | .length => if v.toNat ≤ Config.maxPayload then s.rxTo (.kind v []) else s.frameError .length
  | .kind len got =>
    if got.length + 1 < 4 then s.rxTo (.kind len (got ++ [v])) else s.rxTo (.tag len (got ++ [v]))
  | .tag len kind => if len = 0 then s.rxTo (.crc len kind v [] none) else s.rxTo (.payload len kind v [])
  | .payload len kind tag got =>
    if got.length + 1 < len.toNat then s.rxTo (.payload len kind tag (got ++ [v]))
    else s.rxTo (.crc len kind tag (got ++ [v]) none)
  | .crc len kind tag payload none => s.rxTo (.crc len kind tag payload (some v))
  | .crc len kind tag payload (some low) => s.frameComplete len kind tag payload low v

/-- A byte of the control line (R166). -/
def State.controlByte (s : State) (v : BitVec 8) (stopHigh : Bool) : State :=
  if stopHigh then s.goodByte v else s.byteError

/-- The silence timer passes 200 byte times: a partial frame is discarded (R166). -/
def State.silenceDiscard (s : State) : State :=
  if s.link.rx = .hunt then s
  else
    s.modLink fun l =>
      { l.hunt with
        counts := { l.counts with silenceDiscards := bump Config.countTop l.counts.silenceDiscards } }

/-! ## Transmission (R172) -/

/-- A frame that starts to go out. -/
def startFrame (o : Outgoing) : TxFrame := { frame := o, bytes := o.frame }

/-- A frame is going out: the last byte of the frame in transmission has not gone (R172). -/
def Link.sending (l : Link) : Bool :=
  match l.tx with
  | some f => decide (l.txTimer.count < f.bytes.length)
  | none => false

/-- The next frame: the oldest reply, else the oldest notice, else nothing becomes the frame in transmission (R172). -/
def Link.pick (l : Link) : Link :=
  match l.replies, l.notices with
  | r :: rest, _ => { l with replies := rest, tx := some (startFrame (.reply r)), txTimer := Timer.zero }
  | [], n :: rest => { l with notices := rest, tx := some (startFrame (.notice n)), txTimer := Timer.zero }
  | [], [] => { l with tx := none, txTimer := Timer.zero }

/-- The transmitter picks the next frame when the line is free, and does not break off a frame once begun (R172). -/
def Link.transmit (l : Link) : Link := if l.sending then l else l.pick

end Sys2Proof.Machine
end

