-- ==== Sys2Proof/Machine/Events.lean ====
section
/-! DEFINITION. The meanings of the commands that are events: the reset pin, the audio path, the timeline, the roll and cut
path, delivery, the note line and the control line. Each answers a next state. -/

namespace Sys2Proof.Machine

/-- How a command of the 2416 answers: it always completes. -/
abbrev Done := Host.Outcome State Fault Refusal

/-- POWER_ON_RESET (R182). -/
def execPowerOnReset (s : State) : Done := .next s.powerOn

/-- AUDIO_FRAME (R58): what the last advance made due is settled first (log entry 2). -/
def execAudioFrame (slots : Vector (BitVec 32) 16) (line1 line2 : Bool) (s : State) : Done :=
  .next (s.settleAdvance.takeAudio slots line1 line2)

/-- EARLY_FRAME_SYNC (R186): the words received are discarded, and no audio frame is taken (log entry 29). -/
def execEarlyFrameSync (s : State) : Done := .next s

/-- CLIP_EPISODE_END (R42, log entry 11). -/
def execClipEpisodeEnd (input : Fin 16) (s : State) : Done := .next (s.takeClipEnd input)

/-- BUS_CLIP_EPISODE_END (R49, log entry 11). -/
def execBusClipEpisodeEnd (bus : Bus) (s : State) : Done := .next (s.takeBusClipEnd bus)

/-- SILENT (R43). -/
def execSilent (input : Fin 16) (s : State) : Done := .next (s.takeSilent input)

/-- AUDIO_SYNC_LOSS (R36). -/
def execAudioSyncLoss (s : State) : Done := .next s.loseSync

/-- LVLS_REPORT (R46). -/
def execLvlsReport (s : State) : Done := .next s.reportLevels

/-- FRAME_ARRIVAL (R21). -/
def execFrameArrival (label : Label) (drop : Bool) (arrival : BitVec 48) (s : State) : Done :=
  .next (s.takeFrame label drop arrival.toNat)

/-- REF_LOST (R26). -/
def execRefLost (s : State) : Done := .next s.takeRefLost

/-- EDGE_CONFIRMED (R105). -/
def execEdgeConfirmed (s : State) : Done := .next s.takeEdges

/-- MARK_FIRED (R100). -/
def execMarkFired (s : State) : Done := .next s.takeMarksFired

/-- TAIL_END (R86). -/
def execTailEnd (s : State) : Done := .next s.takeTailEnd

/-- LIMIT_CUT (R85). -/
def execLimitCut (s : State) : Done := .next s.takeLimitCut

/-- WINDOW_END (R91). -/
def execWindowEnd (s : State) : Done := .next s.takeWindowEnd

/-- FORM_BLOCK (R116 to R118). -/
def execFormBlock (drain : Drain) (s : State) : Done := .next (s.takeForm drain)

/-- COMPLETION (R121). -/
def execCompletion (drain : Drain) (s : State) : Done := .next (s.takeCompletion drain)

/-- HOLD (R123). -/
def execHold (drain : Drain) (s : State) : Done := .next (s.modDrain drain DrainState.takeHold)

/-- GO (R123). -/
def execGo (drain : Drain) (s : State) : Done := .next (s.modDrain drain DrainState.takeGo)

/-- LINK_DOWN (R124). -/
def execLinkDown (drain : Drain) (s : State) : Done := .next (s.takeLinkDown drain)

/-- LINK_UP (R124). -/
def execLinkUp (drain : Drain) (s : State) : Done := .next (s.modDrain drain DrainState.takeLinkUp)

/-- STALLED (R125). -/
def execStalled (drain : Drain) (s : State) : Done := .next (s.takeStall drain)

/-- CHARACTER (R134). -/
def execCharacter (bits : BitVec 11) (s : State) : Done := .next (s.modNotes fun x => x.character bits s.ring.p)

/-- START_BIT_EDGE (R142). -/
def execStartBitEdge (s : State) : Done := .next (s.modNotes NoteRx.startEdge)

/-- IDLE_TIMEOUT (R142). -/
def execIdleTimeout (s : State) : Done := .next (s.modNotes NoteRx.timeout)

/-- BREAK (R143). -/
def execLineBreak (s : State) : Done := .next (s.modNotes NoteRx.enterBreak)

/-- BREAK_END (R143, R147). -/
def execBreakEnd (s : State) : Done := .next (s.modNotes NoteRx.goesHigh)

/-- BIND_NOTE (R149). -/
def execBindNote (s : State) : Done := .next s.takeNextNote

/-- CONTROL_BYTE (R166). -/
def execControlByte (value : BitVec 8) (stopHigh : Bool) (s : State) : Done := .next (s.controlByte value stopHigh)

/-- SILENCE_DISCARD (R166). -/
def execSilenceDiscard (s : State) : Done := .next s.silenceDiscard

/-- BAD_KIND (R169). A kind word that names a request, or has not four bytes, is no such frame (log entry 31). -/
def execBadKind (tag : BitVec 8) (kind : List (BitVec 8)) (s : State) : Done :=
  .next (if kind.length = 4 ∧ ReqKind.ofWord kind = none then s.serve tag kind reqBadKind else s)

/-- TRANSMIT_FRAME (R172). -/
def execTransmitFrame (s : State) : Done := .next (s.modLink Link.transmit)

end Sys2Proof.Machine
end

