-- ==== Sys2Proof/Machine/RequestCommands.lean ====
section
/-! DEFINITION. The meanings of the request commands: each is a whole good frame of its request, with its tag and its
fields, taken as R168 to R171 give, and handled by its owner (log entry 15). Each answers a next state. -/

namespace Sys2Proof.Machine

/-- IDEN (R177). -/
def execIden (tag : BitVec 8) (s : State) : Done :=
  .next (s.serve tag ReqKind.iden.word reqIden)

/-- STAT (R175, R176). -/
def execStat (tag : BitVec 8) (s : State) : Done :=
  .next (s.serve tag ReqKind.stat.word reqStat)

/-- LINK set (R178). -/
def execLinkSet (tag : BitVec 8) (limit : BitVec 8) (s : State) : Done :=
  .next (s.serve tag ReqKind.link.word (reqLinkSet limit))

/-- LINK read (R178). -/
def execLinkRead (tag : BitVec 8) (s : State) : Done :=
  .next (s.serve tag ReqKind.link.word reqLinkRead)

/-- LINK read and clear (R178). -/
def execLinkReadAndClear (tag : BitVec 8) (s : State) : Done :=
  .next (s.serve tag ReqKind.link.word reqLinkReadAndClear)

/-- RSET ENGINE (R179, R180). -/
def execRsetEngine (tag : BitVec 8) (s : State) : Done :=
  .next (s.serve tag ReqKind.rset.word reqRsetEngine)

/-- RSET CONFIG (R179, R181). -/
def execRsetConfig (tag : BitVec 8) (s : State) : Done :=
  .next (s.serve tag ReqKind.rset.word reqRsetConfig)

/-- INPT set (R48). -/
def execInptSet (tag : BitVec 8) (input : BitVec 8) (fields : InputFields) (s : State) : Done :=
  .next (s.serve tag ReqKind.inpt.word (reqInptSet input fields))

/-- INPT read (R48). -/
def execInptRead (tag : BitVec 8) (input : BitVec 8) (s : State) : Done :=
  .next (s.serve tag ReqKind.inpt.word (reqInptRead input))

/-- MIXG (R50). -/
def execMixg (tag : BitVec 8) (bus input : BitVec 8) (gain : BitVec 16) (s : State) : Done :=
  .next (s.serve tag ReqKind.mixg.word (reqMixg bus input gain))

/-- TRAK SOURCE (R53). -/
def execTrakSource (tag : BitVec 8) (track source : BitVec 8) (s : State) : Done :=
  .next (s.serve tag ReqKind.trak.word (reqTrakSource track source))

/-- TRAK LINK (R52, R53). -/
def execTrakLink (tag : BitVec 8) (track : BitVec 8) (s : State) : Done :=
  .next (s.serve tag ReqKind.trak.word (reqTrakLink track))

/-- TRAK UNLINK (R52, R53). -/
def execTrakUnlink (tag : BitVec 8) (track : BitVec 8) (s : State) : Done :=
  .next (s.serve tag ReqKind.trak.word (reqTrakUnlink track))

/-- TRAK READ (R53). -/
def execTrakRead (tag : BitVec 8) (track : BitVec 8) (s : State) : Done :=
  .next (s.serve tag ReqKind.trak.word (reqTrakRead track))

/-- ARMT (R54). -/
def execArmt (tag : BitVec 8) (mask : BitVec 24) (s : State) : Done :=
  .next (s.serve tag ReqKind.armt.word (reqArmt mask))

/-- METR read (R45). -/
def execMetrRead (tag : BitVec 8) (s : State) : Done :=
  .next (s.serve tag ReqKind.metr.word reqMetrRead)

/-- METR period (R45). -/
def execMetrPeriod (tag : BitVec 8) (period : BitVec 16) (s : State) : Done :=
  .next (s.serve tag ReqKind.metr.word (reqMetrPeriod period))

/-- TLMD (R29). -/
def execTlmd (tag : BitVec 8) (rate mode : BitVec 8) (tolerance : BitVec 16) (s : State) : Done :=
  .next (s.serve tag ReqKind.tlmd.word (reqTlmd rate mode tolerance))

/-- TCST (R31). -/
def execTcst (tag : BitVec 8) (label : Label) (s : State) : Done :=
  .next (s.serve tag ReqKind.tcst.word (reqTcst label))

/-- JAMS (R32). -/
def execJams (tag : BitVec 8) (s : State) : Done :=
  .next (s.serve tag ReqKind.jams.word reqJams)

/-- TCQR (R33). -/
def execTcqr (tag : BitVec 8) (s : State) : Done :=
  .next (s.serve tag ReqKind.tcqr.word reqTcqr)

/-- CAPS set (R68). -/
def execCapsSet (tag : BitVec 8) (fields : CaptureFields) (s : State) : Done :=
  .next (s.serve tag ReqKind.caps.word (reqCapsSet fields))

/-- CAPS read (R68). -/
def execCapsRead (tag : BitVec 8) (s : State) : Done :=
  .next (s.serve tag ReqKind.caps.word reqCapsRead)

/-- TAKE (R93). -/
def execTake (tag : BitVec 8) (id : BitVec 16) (sectionNo : BitVec 8) (s : State) : Done :=
  .next (s.serve tag ReqKind.take.word (reqTake id sectionNo))

/-- ROLL (R96). -/
def execRoll (tag : BitVec 8) (s : State) : Done :=
  .next (s.serve tag ReqKind.roll.word reqRoll)

/-- CUT (R97). -/
def execCut (tag : BitVec 8) (s : State) : Done :=
  .next (s.serve tag ReqKind.cut.word reqCut)

/-- MARK set (R99). -/
def execMarkSet (tag : BitVec 8) (mark : BitVec 8) (label : Label) (s : State) : Done :=
  .next (s.serve tag ReqKind.mark.word (reqMarkSet mark label))

/-- MARK clear (R99). -/
def execMarkClear (tag : BitVec 8) (mark : BitVec 8) (s : State) : Done :=
  .next (s.serve tag ReqKind.mark.word (reqMarkClear mark))

/-- MARK read (R99). -/
def execMarkRead (tag : BitVec 8) (mark : BitVec 8) (s : State) : Done :=
  .next (s.serve tag ReqKind.mark.word (reqMarkRead mark))

/-- TRIG set (R108). -/
def execTrigSet (tag : BitVec 8) (line mode polarity : BitVec 8) (filter : BitVec 16) (s : State) : Done :=
  .next (s.serve tag ReqKind.trig.word (reqTrigSet line mode polarity filter))

/-- TRIG read (R108). -/
def execTrigRead (tag : BitVec 8) (line : BitVec 8) (s : State) : Done :=
  .next (s.serve tag ReqKind.trig.word (reqTrigRead line))

/-- DRAN set (R113). -/
def execDranSet (tag : BitVec 8) (drain : BitVec 8) (fields : DrainFields) (s : State) : Done :=
  .next (s.serve tag ReqKind.dran.word (reqDranSet drain fields))

/-- DRAN read (R113). -/
def execDranRead (tag : BitVec 8) (drain : BitVec 8) (s : State) : Done :=
  .next (s.serve tag ReqKind.dran.word (reqDranRead drain))

/-- NLIN set (R137). -/
def execNlinSet (tag : BitVec 8) (count : BitVec 8) (stations : Vector (BitVec 8) 8) (s : State) : Done :=
  .next (s.serve tag ReqKind.nlin.word (reqNlinSet count stations))

/-- NLIN read (R137). -/
def execNlinRead (tag : BitVec 8) (s : State) : Done :=
  .next (s.serve tag ReqKind.nlin.word reqNlinRead)

/-- NLIN read and clear (R137). -/
def execNlinReadAndClear (tag : BitVec 8) (s : State) : Done :=
  .next (s.serve tag ReqKind.nlin.word reqNlinReadAndClear)

/-- NOTE (R146). -/
def execNote (tag : BitVec 8) (text : List (BitVec 8)) (s : State) : Done :=
  .next (s.serve tag ReqKind.note.word (reqNote text))

/-- SLAT (R163). -/
def execSlat (tag : BitVec 8) (sectionNo : BitVec 8) (s : State) : Done :=
  .next (s.serve tag ReqKind.slat.word (reqSlat sectionNo))

end Sys2Proof.Machine
end

