-- ==== Sys2Proof/Machine/Dispatch.lean ====
section
/-! DEFINITION. One arm per command, each a direct call of its meaning. -/

namespace Sys2Proof.Machine

/-- A command's effect on everything but the queue. -/
def exec (i : Instr) (s : State) : Host.Outcome State Fault Refusal :=
  match i with
  | .powerOnReset => Sys2Proof.Machine.execPowerOnReset s
  | .audioFrame slots line1 line2 => Sys2Proof.Machine.execAudioFrame slots line1 line2 s
  | .earlyFrameSync => Sys2Proof.Machine.execEarlyFrameSync s
  | .clipEpisodeEnd input => Sys2Proof.Machine.execClipEpisodeEnd input s
  | .busClipEpisodeEnd bus => Sys2Proof.Machine.execBusClipEpisodeEnd bus s
  | .silent input => Sys2Proof.Machine.execSilent input s
  | .audioSyncLoss => Sys2Proof.Machine.execAudioSyncLoss s
  | .lvlsReport => Sys2Proof.Machine.execLvlsReport s
  | .frameArrival label drop arrival => Sys2Proof.Machine.execFrameArrival label drop arrival s
  | .refLost => Sys2Proof.Machine.execRefLost s
  | .edgeConfirmed => Sys2Proof.Machine.execEdgeConfirmed s
  | .markFired => Sys2Proof.Machine.execMarkFired s
  | .tailEnd => Sys2Proof.Machine.execTailEnd s
  | .limitCut => Sys2Proof.Machine.execLimitCut s
  | .windowEnd => Sys2Proof.Machine.execWindowEnd s
  | .formBlock drain => Sys2Proof.Machine.execFormBlock drain s
  | .completion drain => Sys2Proof.Machine.execCompletion drain s
  | .hold drain => Sys2Proof.Machine.execHold drain s
  | .go drain => Sys2Proof.Machine.execGo drain s
  | .linkDown drain => Sys2Proof.Machine.execLinkDown drain s
  | .linkUp drain => Sys2Proof.Machine.execLinkUp drain s
  | .stalled drain => Sys2Proof.Machine.execStalled drain s
  | .character bits => Sys2Proof.Machine.execCharacter bits s
  | .idleTimeout => Sys2Proof.Machine.execIdleTimeout s
  | .lineBreak => Sys2Proof.Machine.execLineBreak s
  | .breakEnd => Sys2Proof.Machine.execBreakEnd s
  | .bindNote => Sys2Proof.Machine.execBindNote s
  | .controlByte value stopHigh => Sys2Proof.Machine.execControlByte value stopHigh s
  | .silenceDiscard => Sys2Proof.Machine.execSilenceDiscard s
  | .badKind tag kind => Sys2Proof.Machine.execBadKind tag kind s
  | .transmitFrame => Sys2Proof.Machine.execTransmitFrame s
  | .iden tag => Sys2Proof.Machine.execIden tag s
  | .stat tag => Sys2Proof.Machine.execStat tag s
  | .linkSet tag limit => Sys2Proof.Machine.execLinkSet tag limit s
  | .linkRead tag => Sys2Proof.Machine.execLinkRead tag s
  | .linkReadAndClear tag => Sys2Proof.Machine.execLinkReadAndClear tag s
  | .rsetEngine tag => Sys2Proof.Machine.execRsetEngine tag s
  | .rsetConfig tag => Sys2Proof.Machine.execRsetConfig tag s
  | .inptSet tag input fields => Sys2Proof.Machine.execInptSet tag input fields s
  | .inptRead tag input => Sys2Proof.Machine.execInptRead tag input s
  | .mixg tag bus input gain => Sys2Proof.Machine.execMixg tag bus input gain s
  | .trakSource tag track source => Sys2Proof.Machine.execTrakSource tag track source s
  | .trakLink tag track => Sys2Proof.Machine.execTrakLink tag track s
  | .trakUnlink tag track => Sys2Proof.Machine.execTrakUnlink tag track s
  | .trakRead tag track => Sys2Proof.Machine.execTrakRead tag track s
  | .armt tag mask => Sys2Proof.Machine.execArmt tag mask s
  | .metrRead tag => Sys2Proof.Machine.execMetrRead tag s
  | .metrPeriod tag period => Sys2Proof.Machine.execMetrPeriod tag period s
  | .tlmd tag rate mode tolerance => Sys2Proof.Machine.execTlmd tag rate mode tolerance s
  | .tcst tag label => Sys2Proof.Machine.execTcst tag label s
  | .jams tag => Sys2Proof.Machine.execJams tag s
  | .tcqr tag => Sys2Proof.Machine.execTcqr tag s
  | .capsSet tag fields => Sys2Proof.Machine.execCapsSet tag fields s
  | .capsRead tag => Sys2Proof.Machine.execCapsRead tag s
  | .take tag id sectionNo => Sys2Proof.Machine.execTake tag id sectionNo s
  | .roll tag => Sys2Proof.Machine.execRoll tag s
  | .cut tag => Sys2Proof.Machine.execCut tag s
  | .markSet tag mark label => Sys2Proof.Machine.execMarkSet tag mark label s
  | .markClear tag mark => Sys2Proof.Machine.execMarkClear tag mark s
  | .markRead tag mark => Sys2Proof.Machine.execMarkRead tag mark s
  | .trigSet tag line mode polarity filter => Sys2Proof.Machine.execTrigSet tag line mode polarity filter s
  | .trigRead tag line => Sys2Proof.Machine.execTrigRead tag line s
  | .dranSet tag drain fields => Sys2Proof.Machine.execDranSet tag drain fields s
  | .dranRead tag drain => Sys2Proof.Machine.execDranRead tag drain s
  | .nlinSet tag count stations => Sys2Proof.Machine.execNlinSet tag count stations s
  | .nlinRead tag => Sys2Proof.Machine.execNlinRead tag s
  | .nlinReadAndClear tag => Sys2Proof.Machine.execNlinReadAndClear tag s
  | .note tag text => Sys2Proof.Machine.execNote tag text s
  | .slat tag sectionNo => Sys2Proof.Machine.execSlat tag sectionNo s
  | .startBitEdge => Sys2Proof.Machine.execStartBitEdge s

end Sys2Proof.Machine
end

