-- ==== Sys2Proof/Machine/Due.lean ====
section
/-! DEFINITION. What the module does by itself while no command waits (log entry 3): the first internal step that is due,
and otherwise one tick of the module timer. -/

namespace Sys2Proof.Machine

/-! ## What is due -/

/-- A command where its condition holds. -/
def dueIf (c : Bool) (i : Instr) : List Instr := if c then [i] else []

/-- An input's clip episode has run out (R42). -/
def Channel.clipOver (c : Channel) : Bool := c.clip && decide (Config.quietLimit ≤ c.quiet)

/-- A bus's clip episode has run out (R49). -/
def MixBus.clipOver (b : MixBus) : Bool := b.clip && decide (Config.quietLimit ≤ b.quiet)

/-- An edge is confirmed and not yet acted on (R105). -/
def State.edgeDue (s : State) : Bool := s.triggers.line1.confirmed.isSome || s.triggers.line2.confirmed.isSome

/-- The work of the last advance of P that is still to be done, in the order of log entry 2. -/
def State.advanceCommands (s : State) : List Instr :=
  ((List.finRange 16).flatMap fun k => dueIf s.inputs.channels[k].clipOver (.clipEpisodeEnd k))
  ++ dueIf s.router.busL.clipOver (.busClipEpisodeEnd .l) ++ dueIf s.router.busR.clipOver (.busClipEpisodeEnd .r)
  ++ dueIf s.tailDue.isSome .tailEnd ++ dueIf s.limitDue.isSome .limitCut ++ dueIf (!s.finalDue.isEmpty) .windowEnd
  ++ dueIf s.lossDue .refLost ++ dueIf s.takes.markDue.isSome .markFired ++ dueIf s.edgeDue .edgeConfirmed

/-- The transmitter has a frame to pick, or a frame that has gone out to put away (R172). -/
def Link.lineFree (l : Link) : Bool :=
  !l.sending && (l.tx.isSome || !l.replies.isEmpty || !l.notices.isEmpty)

/-- A running hold/down timer has reached the hold timeout of a drain that is not stalled (R125). -/
def DrainState.stallDue (x : DrainState) : Bool := x.timerRuns && !x.stalled && decide (x.timerLimit ≤ x.timer.count)

/-- The sync timer runs in SYNCED (R36). -/
def Inputs.syncDue (i : Inputs) : Bool := decide (i.sync = .synced) && decide (Config.syncLimit ≤ i.syncTimer.count)

/-- The report period has expired (R46). -/
def Inputs.reportDue (i : Inputs) : Bool :=
  decide (i.reportPeriod ≠ 0) && decide (i.reportPeriod ≤ i.reportTimer.count)

/-- The silence timer has passed 200 byte times inside a frame (R166). -/
def Link.silenceDue (l : Link) : Bool := decide (l.rx ≠ .hunt) && decide (Config.silenceLimit ≤ l.silenceTimer.count)

/-- The hand-offs and the timer expiries that are due. -/
def State.otherCommands (s : State) : List Instr :=
  dueIf (!s.notes.completed.isEmpty) .bindNote
  ++ dueIf (s.nextBlock .a).isSome (.formBlock .a) ++ dueIf (s.nextBlock .b).isSome (.formBlock .b)
  ++ dueIf s.link.lineFree .transmitFrame
  ++ dueIf s.inputs.syncDue .audioSyncLoss
  ++ dueIf (s.drain .a).stallDue (.stalled .a) ++ dueIf (s.drain .b).stallDue (.stalled .b)
  ++ dueIf s.inputs.reportDue .lvlsReport
  ++ dueIf (s.notes.idleRuns && decide (Config.idleLimit ≤ s.notes.idleTimer.count)) .idleTimeout
  ++ dueIf s.link.silenceDue .silenceDiscard

/-- The first internal step that is due, if any. -/
def State.dueCommand (s : State) : Option Instr := (s.advanceCommands ++ s.otherCommands).head?

/-! ## One tick of the module timer -/

/-- A timer that runs, one tick on. -/
def Timer.tickIf (runs : Bool) (unit limit : Nat) (t : Timer) : Timer := if runs then t.advance unit limit else t

/-- The input conditioner's timers (R36, R46). -/
def Inputs.tick (i : Inputs) : Inputs :=
  { i with syncTimer := i.syncTimer.tickIf (decide (i.sync = .synced)) Config.ticksPerSample Config.syncLimit
           reportTimer := i.reportTimer.tickIf (decide (i.reportPeriod ≠ 0)) Config.ticksPerMs i.reportPeriod }

/-- A drain's hold/down timer (R125). A timer that has stopped at the hold timeout and then sees a DRAN set raise the timeout
counts on to the new one: DESIGN CHOICE, no rule says whether it does (log entry 33). -/
def DrainState.tick (x : DrainState) : DrainState :=
  { x with timer := x.timer.tickIf x.timerRuns Config.ticksPerMs x.timerLimit }

/-- The note receiver's idle timer (R142). -/
def NoteRx.tick (x : NoteRx) : NoteRx :=
  { x with idleTimer := x.idleTimer.tickIf x.idleRuns Config.ticksPerBit Config.idleLimit }

/-- The control link interface's timers (R166, R172). -/
def Link.tick (l : Link) : Link :=
  { l with silenceTimer := l.silenceTimer.tickIf (decide (l.rx ≠ .hunt)) Config.ticksPerByte Config.silenceLimit
           txTimer := match l.tx with
             | some f => l.txTimer.advance Config.ticksPerByte f.bytes.length
             | none => l.txTimer }

/-- One tick of the module timer, 1/4,800,000 s (log entry 3). -/
def State.tick (s : State) : State :=
  { s with
    link := s.link.tick, inputs := s.inputs.tick, notes := s.notes.tick,
    delivery := { s.delivery with drains := { a := (s.drain .a).tick, b := (s.drain .b).tick } } }

end Sys2Proof.Machine
end

