-- ==== Sys2Proof/Machine/RequestFrames.lean ====
section
/-! DEFINITION. The control frame of each request command: its kind, its tag and its payload, laid out by R183. A field that
a read does not examine is sent as 0. -/

namespace Sys2Proof.Machine

/-- A U8, Code or other one-byte field. -/
def f8 (x : BitVec 8) : List Byte := [x]
/-- A U16 field, low byte first. -/
def f16 (x : BitVec 16) : List Byte := [x.extractLsb' 0 8, x.extractLsb' 8 8]
/-- A Mask or S24 field, low byte first. -/
def f24 (x : BitVec 24) : List Byte := [x.extractLsb' 0 8, x.extractLsb' 8 8, x.extractLsb' 16 8]
/-- A U32 field, low byte first. -/
def f32 (x : BitVec 32) : List Byte :=
  [x.extractLsb' 0 8, x.extractLsb' 8 8, x.extractLsb' 16 8, x.extractLsb' 24 8]
/-- A Label field. -/
def fLabel (l : Label) : List Byte := [l.hours, l.minutes, l.seconds, l.frames]
/-- Fields sent as 0. -/
def zeros (n : Nat) : List Byte := List.replicate n 0

/-- The setting fields of an INPT frame (R48). -/
def inputFieldBytes (f : InputFields) : List Byte :=
  f16 f.gain ++ f8 f.polarity ++ f16 f.hold ++ f32 f.high ++ f32 f.low ++ f32 f.dwell ++ f8 f.substitute ++ f24 f.value

/-- The setting fields of a DRAN frame (R113). -/
def drainFieldBytes (f : DrainFields) : List Byte :=
  f8 f.enable ++ f8 f.wordSize ++ f8 f.byteOrder ++ f16 f.blockLength ++ f16 f.holdTimeout

/-- The setting fields of a CAPS frame (R68). -/
def captureFieldBytes (f : CaptureFields) : List Byte :=
  f16 f.preRoll ++ f16 f.postRoll ++ f16 f.maxLength ++ f16 f.window ++ f16 f.grace

/-- The kind, the tag and the payload of a request command's frame (R183). A command that is no request has none. -/
def requestFrame : Instr → Option (ReqKind × BitVec 8 × List Byte)
  | .powerOnReset => none
  | .audioFrame _ _ _ => none
  | .earlyFrameSync => none
  | .clipEpisodeEnd _ => none
  | .busClipEpisodeEnd _ => none
  | .silent _ => none
  | .audioSyncLoss => none
  | .lvlsReport => none
  | .frameArrival _ _ _ => none
  | .refLost => none
  | .edgeConfirmed => none
  | .markFired => none
  | .tailEnd => none
  | .limitCut => none
  | .windowEnd => none
  | .formBlock _ => none
  | .completion _ => none
  | .hold _ => none
  | .go _ => none
  | .linkDown _ => none
  | .linkUp _ => none
  | .stalled _ => none
  | .character _ => none
  | .idleTimeout => none
  | .lineBreak => none
  | .breakEnd => none
  | .bindNote => none
  | .controlByte _ _ => none
  | .silenceDiscard => none
  | .badKind _ _ => none
  | .transmitFrame => none
  | .startBitEdge => none
  | .iden tag => some (.iden, tag, [])
  | .stat tag => some (.stat, tag, [])
  | .linkSet tag limit => some (.link, tag, f8 0 ++ f8 limit)
  | .linkRead tag => some (.link, tag, f8 1 ++ zeros 1)
  | .linkReadAndClear tag => some (.link, tag, f8 2 ++ zeros 1)
  | .rsetEngine tag => some (.rset, tag, f8 0)
  | .rsetConfig tag => some (.rset, tag, f8 1)
  | .inptSet tag input fields => some (.inpt, tag, f8 0 ++ f8 input ++ inputFieldBytes fields)
  | .inptRead tag input => some (.inpt, tag, f8 1 ++ f8 input ++ zeros 21)
  | .mixg tag bus input gain => some (.mixg, tag, f8 bus ++ f8 input ++ f16 gain)
  | .trakSource tag track source => some (.trak, tag, f8 track ++ f8 0 ++ f8 source)
  | .trakLink tag track => some (.trak, tag, f8 track ++ f8 1 ++ zeros 1)
  | .trakUnlink tag track => some (.trak, tag, f8 track ++ f8 2 ++ zeros 1)
  | .trakRead tag track => some (.trak, tag, f8 track ++ f8 3 ++ zeros 1)
  | .armt tag mask => some (.armt, tag, f24 mask)
  | .metrRead tag => some (.metr, tag, f8 0 ++ zeros 2)
  | .metrPeriod tag period => some (.metr, tag, f8 1 ++ f16 period)
  | .tlmd tag rate mode tolerance => some (.tlmd, tag, f8 rate ++ f8 mode ++ f16 tolerance)
  | .tcst tag label => some (.tcst, tag, fLabel label)
  | .jams tag => some (.jams, tag, [])
  | .tcqr tag => some (.tcqr, tag, [])
  | .capsSet tag fields => some (.caps, tag, f8 0 ++ captureFieldBytes fields)
  | .capsRead tag => some (.caps, tag, f8 1 ++ zeros 10)
  | .take tag id sectionNo => some (.take, tag, f16 id ++ f8 sectionNo)
  | .roll tag => some (.roll, tag, [])
  | .cut tag => some (.cut, tag, [])
  | .markSet tag mark label => some (.mark, tag, f8 mark ++ f8 0 ++ fLabel label)
  | .markClear tag mark => some (.mark, tag, f8 mark ++ f8 1 ++ zeros 4)
  | .markRead tag mark => some (.mark, tag, f8 mark ++ f8 2 ++ zeros 4)
  | .trigSet tag line mode polarity filter =>
    some (.trig, tag, f8 line ++ f8 0 ++ f8 mode ++ f8 polarity ++ f16 filter)
  | .trigRead tag line => some (.trig, tag, f8 line ++ f8 1 ++ zeros 4)
  | .dranSet tag drain fields => some (.dran, tag, f8 drain ++ f8 0 ++ drainFieldBytes fields)
  | .dranRead tag drain => some (.dran, tag, f8 drain ++ f8 1 ++ zeros 7)
  | .nlinSet tag count stations => some (.nlin, tag, f8 0 ++ f8 count ++ stations.toList)
  | .nlinRead tag => some (.nlin, tag, f8 1 ++ zeros 9)
  | .nlinReadAndClear tag => some (.nlin, tag, f8 2 ++ zeros 9)
  | .note tag text => some (.note, tag, text)
  | .slat tag sectionNo => some (.slat, tag, f8 sectionNo)

end Sys2Proof.Machine
end

