-- ==== Sys2Proof/Safety.lean ====
section
/-! DEFINITION. What counts as a legal state of the 2416, block by block, and the words in which the statements speak: the
answered link, bytes fed one by one, clamped settings. -/

namespace Sys2Proof.Machine

/-! ## The words of the statements -/

/-- The reply queue has room for one more reply (R169). -/
abbrev HasRoom (s : State) : Prop := s.link.replies.length < 8

/-- The notice queue has room for one more notice (R173). -/
abbrev NoticeRoom (s : State) : Prop := s.link.notices.length < 32

/-- The control link interface after a good frame that was answered: the consecutive error count is 0, the frame is
counted, and one reply joins the queue (R168 to R171). -/
def answered (l : Link) (tag : BitVec 8) (kind : ReqKind) (status : Status) (result : Result) : Link :=
  { l with
    consecutive := 0
    counts := { l.counts with
      framesReceived := if l.counts.framesReceived < 65535 then l.counts.framesReceived + 1
        else l.counts.framesReceived }
    replies := l.replies ++ [{ tag := tag, kind := kind.word, status := status, result := result }] }

/-- The control link interface after a good frame discarded for a full reply queue (R169). -/
def discarded (l : Link) : Link :=
  { l with
    consecutive := 0
    counts := { l.counts with
      framesReceived := if l.counts.framesReceived < 65535 then l.counts.framesReceived + 1
        else l.counts.framesReceived
      overrunDiscards := if l.counts.overrunDiscards < 65535 then l.counts.overrunDiscards + 1
        else l.counts.overrunDiscards } }

/-- The control link interface with one more notice, which takes the next sequence (R173). -/
def noticed (l : Link) (n : Notice) : Link :=
  { l with notices := l.notices ++ [{ seq := l.nextSeq, notice := n }], nextSeq := (l.nextSeq + 1) % 65536 }

/-- The machine after a request that changes nothing but the reply it queues. -/
def replied (s : State) (tag : BitVec 8) (kind : ReqKind) (status : Status) (result : Result) : State :=
  { s with link := answered s.link tag kind status result }

/-- Bytes of the control line taken one after another, each with a high stop bit. -/
def feedBytes : List Byte → State → Host.Outcome State Fault Refusal
  | [], s => .next s
  | b :: rest, s =>
    match exec (.controlByte b true) s with
    | .next t => feedBytes rest t
    | .fault f => .fault f
    | .refused r => .refused r

/-- The start of a take rolled at `r` under a pre-roll and an oldest retained position: max(r - pre-roll, O) (R60). -/
def startOf (r preRoll oldest : Nat) : Nat := max (r - preRoll) oldest

/-- The control link interface after a good frame, before its reply is placed: the consecutive error count is 0 and the
frame is counted (R168). -/
def heard (l : Link) : Link :=
  { l with
    consecutive := 0
    counts := { l.counts with
      framesReceived := if l.counts.framesReceived < 65535 then l.counts.framesReceived + 1
        else l.counts.framesReceived } }

/-- One reply placed at the end of the reply queue (R170, R171). -/
def State.withReply (s : State) (tag : BitVec 8) (kind : ReqKind) (status : Status) (result : Result) : State :=
  { s with link := { s.link with
    replies := s.link.replies ++ [{ tag := tag, kind := kind.word, status := status, result := result }] } }

/-- A record with one more event, or with the event counted lost where the list holds 32 (R73, R88). -/
def withEvent (r : TakeRecord) (e : Event) : TakeRecord :=
  if r.events.length < 32 then { r with events := r.events ++ [e] }
  else { r with eventsLost := if r.eventsLost < 255 then r.eventsLost + 1 else r.eventsLost }

/-- An input or a bus feeds a take: a track of its mask takes the source itself, or a bus on which the input has a gain other
than 0 (R55). -/
abbrev FeedsTake (rt : Router) (mask : TrackSet) (source : Nat) : Prop :=
  ∃ j : Fin 24, mask.getLsbD j.val = true ∧ (rt.sources[j] = source ∨ ∃ k : Fin 16, source = k.val + 1
    ∧ ((rt.sources[j] = 17 ∧ rt.busL.gains[k] ≠ 0) ∨ (rt.sources[j] = 18 ∧ rt.busR.gains[k] ≠ 0)))

/-- The end that a close asking for `e` gives a take: raised over the formation cursor of a section that is not OFF (R87). -/
def TakeRecord.endRaised (r : TakeRecord) (e : Nat) : Nat :=
  max (if r.sections.a.state = .off then e else max e r.sections.a.formation)
    (if r.sections.b.state = .off then e else r.sections.b.formation)

/-- The kind letters S, T, K, C, N, F, W, M (R150). -/
def kindLetters : Text := [0x53, 0x54, 0x4B, 0x43, 0x4E, 0x46, 0x57, 0x4D]

/-- The value of decimal digits. -/
def digitsValue (digits : Text) : Nat := digits.foldl (fun n b => 10 * n + (b.toNat - 48)) 0

/-- A run of `low` to `high` decimal digits. -/
abbrev DigitRun (low high : Nat) (t : Text) : Prop :=
  low ≤ t.length ∧ t.length ≤ high ∧ ∀ b ∈ t, 48 ≤ b.toNat ∧ b.toNat ≤ 57

/-- What follows the kind letter spells a target, or none, and a body: no target, a space being skipped; or "#", 1 to 5 digits
of value 1 to 65,535, and a space or the end of the text (R150). -/
def SpellsTargetAndBody (rest : Text) (target : Option Nat) (body : Text) : Prop :=
  (target = none ∧ (rest = 0x20 :: body ∨ (rest = body ∧ rest.head? ≠ some 0x20 ∧ rest.head? ≠ some 0x23)))
  ∨ ∃ digits, DigitRun 1 5 digits ∧ 1 ≤ digitsValue digits ∧ digitsValue digits ≤ 65535
      ∧ target = some (digitsValue digits)
      ∧ (rest = 0x23 :: (digits ++ 0x20 :: body) ∨ (rest = 0x23 :: digits ∧ body = []))

/-- A body is a take number: 1 to 3 digits of value 1 to 999 (R151). -/
abbrev SpellsTakeNumber (body : Text) : Prop := DigitRun 1 3 body ∧ 1 ≤ digitsValue body ∧ digitsValue body ≤ 999

/-- A body names a track 01 to 24, then "=", then the name (R151). -/
def SpellsTrackName (body : Text) (track : Fin 24) (name : Text) : Prop :=
  ∃ digits, DigitRun 2 2 digits ∧ digitsValue digits = track.val + 1 ∧ body = digits ++ 0x3D :: name

/-- A frame is consistent with an earlier one: its count is the next, and it arrives a frame later within the tolerance
(R22). -/
abbrev FollowsFrame (t : Timeline) (first : Anchor) (c arrival : Nat) : Prop :=
  c = (first.count + 1) % t.rate.day
    ∧ ((t.rate.num / t.rate.den : Nat) : Int) - (t.tolerance : Int) ≤ (arrival : Int) - first.pos
    ∧ (arrival : Int) - first.pos ≤ ((t.rate.num + t.rate.den - 1) / t.rate.den : Nat) + (t.tolerance : Int)

/-- The error of a frame or of a TCST lies outside -T to +T (R22). -/
abbrev OutsideTolerance (t : Timeline) (e : Int) : Prop := e < -(t.tolerance : Int) ∨ (t.tolerance : Int) < e

/-- A DRAN set that R113 does not turn away: no take is PENDING or ACTIVE on the drain, or the word size, the byte order and
the block length stay. -/
abbrev DranFree (s : State) (d : Drain) (x : DrainSettings) : Prop :=
  s.currentTake d = none ∨ (x.wordSize = (s.drain d).settings.wordSize ∧ x.highFirst = (s.drain d).settings.highFirst
    ∧ x.blockLength = (s.drain d).settings.blockLength)

/-- A notice is the DRNE GAP of a drain (R131). -/
def isGapOf (d : Drain) : Notice → Bool
  | .drne x .gap _ _ _ _ _ => x == d
  | _ => false

/-- The other drain. -/
def otherDrain : Drain → Drain
  | .a => .b
  | .b => .a

/-- A section whose drain moves on to its take: PENDING becomes ACTIVE (R111). -/
def Section.movedOn (x : Section) (current : Prop) [Decidable current] : Section :=
  { x with state := if x.state = .pending ∧ current then .active else x.state }

/-- A record that nothing changes but the drains moving on, each to the take that is its current take in `t` (R111). -/
def TakeRecord.movedOn (p : TakeRecord) (t : State) : TakeRecord :=
  { p with sections := { a := p.sections.a.movedOn (t.currentTake .a = some p.id)
                         b := p.sections.b.movedOn (t.currentTake .b = some p.id) } }

/-- The records of the takes other than `id` where a sweep of the delivery list is all that reaches them: they keep all but
their state and their sections, and a take that is still to be delivered or is not listed keeps these too, but for a drain
moving on to it (R111). A listed take with no section left leaves the list and is tested for FINAL (R91, R109). -/
def OthersMovedOn (s t : State) (id : Nat) : Prop :=
  ∀ p, p.id ≠ id → s.record? p.id = some p →
    ∃ q, t.record? p.id = some q ∧ q = { p with state := q.state, sections := q.sections }
      ∧ (p.live = true ∨ p.id ∉ s.delivery.list → q = p.movedOn t)

/-- The delivery list after a sweep: the takes with a section in PENDING or ACTIVE stay, and every other leaves (R109). -/
def ListSwept (s t : State) : Prop :=
  ∀ id, id ∈ t.delivery.list ↔ id ∈ s.delivery.list ∧ ∃ q, t.record? id = some q ∧ q.live = true

/-! ## Legal states -/

/-- The links and the armed mask (R52, R54): a track belongs to one link at most, and the mask holds both members of a
link or neither; source codes lie from 0 to 18 (R51). -/
structure RoutingLegal (r : Router) : Prop where
  oneLink : ∀ t : Fin 24, r.links.getLsbD t.val = true → r.links.getLsbD (t + 1).val = false
  closed : ∀ t : Fin 24, r.links.getLsbD t.val = true → r.armed.getLsbD t.val = r.armed.getLsbD (t + 1).val
  sources : ∀ t : Fin 24, r.sources[t] ≤ 18

/-- The modes and the reference states (R5, R18, R19). -/
structure TimelineLegal (t : Timeline) : Prop where
  free : t.mode = .free → t.ref = .freeRun
  follow : t.mode = .follow → t.ref ≠ .freeRun
  tracking : t.ref = .locked ∨ t.ref = .verifying ∨ t.ref = .holdover → t.mode = .follow
  candidate : t.candidate.isSome = true → t.ref = .seeking ∨ t.ref = .verifying
  regain : t.regain = true → t.ref = .verifying
  anchor : t.anchor.count < t.rate.day
  tolerance : t.tolerance ≤ 480

/-- An input channel's settings and runtime state lie in their ranges (R39, R42 to R44, R47). -/
structure ChannelInRange (c : Channel) : Prop where
  hold : c.settings.hold ≤ 480
  high : 1 ≤ c.settings.high ∧ c.settings.high ≤ 8388608
  low : c.settings.low ≤ 8388607
  dwell : c.settings.dwell ≤ 480000
  holdCount : c.holdCount ≤ 480
  quiet : c.quiet ≤ 4800
  silence : c.silence ≤ 480000
  peak : c.peak ≤ 8388608

/-- Every input channel in range. -/
def InputsInRange (i : Inputs) : Prop := ∀ k : Fin 16, ChannelInRange i.channels[k]

/-- Every collection holds at most its capacity (R72, R73, R109, R110, R135, R148, R165). -/
structure WithinCapacity (s : State) : Prop where
  replies : s.link.replies.length ≤ 8
  notices : s.link.notices.length ≤ 32
  list : s.delivery.list.length ≤ 4
  accept : s.notes.accept.length ≤ 8
  buffer : s.notes.buffer.length ≤ 64
  pendingComments : s.binding.comments.length ≤ 8
  comments : ∀ r ∈ s.takes.table, r.slate.comments.length ≤ 8
  events : ∀ r ∈ s.takes.table, r.events.length ≤ 32
  gaps : ∀ r ∈ s.takes.table, r.sections.a.gaps.length ≤ 8 ∧ r.sections.b.gaps.length ≤ 8

/-- At most one take is open, and none in STOPPED (R66). -/
structure OneOpenTake (t : TakeCtl) : Prop where
  atMostOne : (t.table.filter fun r => r.state == .opened).length ≤ 1
  stopped : t.state = .stopped → ∀ r ∈ t.table, r.state ≠ .opened

/-- The next take id lies in its range (R75). -/
abbrev NextIdInRange (t : TakeCtl) : Prop := 1 ≤ t.nextId ∧ t.nextId ≤ 65535

/-- The take table holds at most 16 records, no two with one id (R76), and the delivery list holds takes of the table, each
once (R109). -/
structure TableLegal (s : State) : Prop where
  capacity : s.takes.table.length ≤ 16
  ids : (s.takes.table.map fun r => r.id).Nodup
  list : s.delivery.list.Nodup
  listed : ∀ id ∈ s.delivery.list, id ∈ s.takes.table.map fun r => r.id

/-- The next three take ids are held by no record: R75 says that a record leaves the table long before the count comes round
to its id, and no rule enforces it (log entry 34). One step rolls three takes at most: for the start mark and for each of
the two trigger lines. -/
abbrev NextIdsFree (t : TakeCtl) : Prop :=
  ∀ r ∈ t.table, r.id ≠ t.nextId ∧ r.id ≠ followingId t.nextId ∧ r.id ≠ followingId (followingId t.nextId)

/-- The count of a take's block in flight on a drain, 0 with none; a settled block is no longer the record's (R130). -/
def DrainState.flightOf (x : DrainState) (id : Nat) : Nat :=
  match x.inFlight with
  | some b => if b.header.takeId = id ∧ b.settled = false then b.header.count else 0
  | none => 0

/-- The positions of a record stand in order at position count `p`: start, roll, cut, end and P, each where it is present
(R70); an end target lies no earlier than its cut (R83), and a window end no earlier than the end (R87). -/
structure PositionsInOrder (p : Nat) (r : TakeRecord) : Prop where
  start : r.start ≤ r.roll ∧ r.roll ≤ r.start + 480000
  roll : r.roll ≤ p
  cut : ∀ c, r.cut = some c → r.roll ≤ c ∧ c ≤ p
  cause : r.cutCause.isSome = r.cut.isSome
  target : ∀ e, r.endTarget = some e → ∃ c, r.cut = some c ∧ c ≤ e
  opened : r.state = .opened → r.endPos = none
  closed : r.state ≠ .opened → r.endTarget = none
    ∧ ∃ c e w, r.cut = some c ∧ r.endPos = some e ∧ r.windowEnd = some w ∧ c ≤ e ∧ e ≤ p ∧ e ≤ w

/-- A delivery section accounts for every sample period of its take at position count `p`, with `flight` of them in the
drain's block in flight. The confirmed cursor is start plus delivered plus gap total (R110). In PENDING and ACTIVE the
cursors are apart by the count in flight, and the formation cursor reaches P at most, or the end of a closed take (R111). In
DONE and ABANDONED what was delivered, lost, abandoned and is still in flight makes up the take, once it has an end (R110,
R117). -/
structure SectionAccounted (p : Nat) (r : TakeRecord) (x : Section) (flight : Nat) : Prop where
  confirmed : x.state ≠ .off → x.confirmed = r.start + x.delivered + x.gapTotal
  reach : x.state ≠ .off → x.formation ≤ r.endPos.getD p
  live : x.live = true → x.formation = x.confirmed + flight ∧ x.abandoned = 0 ∧ x.owing = false
  done : x.state = .done → r.state ≠ .opened ∧ x.abandoned = 0 ∧ flight = 0
  abandoned : x.state = .abandoned → r.state ≠ .final → x.formation = x.confirmed + flight
  owing : x.state = .abandoned → r.state = .opened → x.owing = true ∧ x.abandoned = 0 ∧ flight = 0
  whole : x.state = .done ∨ x.state = .abandoned → ∀ e, r.endPos = some e →
    r.start + (x.delivered + x.gapTotal + x.abandoned + flight) = e
  final : r.state = .final → x.live = false ∧ flight = 0

/-- A drain's unsettled block in flight belongs to a record that is not FINAL (R130), whose section for the drain is PENDING
or ACTIVE, or was abandoned by truncation (R129). In PENDING and ACTIVE it ends at the formation cursor, unless pushes have
moved that past it, up to O at most (R126). -/
def BlockAccounted (s : State) (d : Drain) : Prop :=
  ∀ b, (s.drain d).inFlight = some b → (s.drain d).settings.enabled = true
    ∧ (b.settled = false → ∃ r, s.record? b.header.takeId = some r ∧ r.state ≠ .final
        ∧ ((r.sections.get d).live = true ∨ (r.sections.get d).state = .abandoned)
        ∧ ((r.sections.get d).live = true → b.first + b.header.count ≤ (r.sections.get d).formation
            ∧ (b.first + b.header.count = (r.sections.get d).formation ∨ (r.sections.get d).formation ≤ s.oldest)))

/-- A trigger line's edges are at most one glitch filter old, which is 4,800 sample periods at most (R103, R104): a pending
edge began its counter before P, and a confirmed one waits for EDGE_CONFIRMED alone (log entry 12). -/
structure EdgesRecent (p : Nat) (l : TrigLine) : Prop where
  filter : l.filter ≤ 4800
  unset : l.level = none → l.pending = none
  pending : ∀ e, l.pending = some e → e.first + e.counter = p ∧ e.counter ≤ 4800
    ∧ (l.confirmed = none → e.counter < 4800)
  confirmed : ∀ c, l.confirmed = some c → c.first < p ∧ p ≤ c.first + 4800

/-- The take records are in order and account for their audio: the positions of every record (R70), the delivery sections
and the blocks in flight (R110, R111). With it stand what keeps it: takes still to be delivered are in the list (R109), a
FINAL one is not (R91), a take in TAIL has its cut (R83), the pre-roll lies in its range (R67), a mark that is due is due at
P (log entry 13), and the trigger edges are recent. -/
structure TakesAccounted (s : State) : Prop where
  positions : ∀ r ∈ s.takes.table, PositionsInOrder s.ring.p r
  sections : ∀ r ∈ s.takes.table, ∀ d,
    SectionAccounted s.ring.p r (r.sections.get d) ((s.drain d).flightOf r.id)
  blocks : ∀ d, BlockAccounted s d
  listed : ∀ r ∈ s.takes.table, r.live = true → r.id ∈ s.delivery.list
  left : ∀ r ∈ s.takes.table, r.state = .final → r.id ∉ s.delivery.list
  tail : s.takes.state = .tail → ∀ r ∈ s.takes.table, r.state = .opened → r.cut.isSome = true
  preRoll : s.takes.caps.preRoll ≤ 480000
  markDue : ∀ due, s.takes.markDue = some due → due.pos = s.ring.p
  edges : ∀ n, EdgesRecent s.ring.p (s.triggers.get n)

/-- The conditions that last as long as their cause agree with it (R34, R36, R125, R174, R175). -/
structure ConditionsAgree (s : State) : Prop where
  audio : s.link.conds.audioLost = true ↔ s.inputs.sync = .lost
  reference : s.link.conds.referenceLost = true ↔
    s.timeline.ref = .holdover ∨ (s.timeline.ref = .verifying ∧ s.timeline.regain = true)
  stalled : s.link.conds.drainStalled = true ↔ (s.drain .a).stalled = true ∨ (s.drain .b).stalled = true

/-- Positions are 48 bits wide (R1). -/
def PositionInRange (s : State) : Prop := s.ring.p < 281474976710656

/-- A legal state: every part above but the table's, and the capture ring's store in canonical form. -/
structure Legal (s : State) : Prop where
  position : PositionInRange s
  ring : s.ring.wf = true
  routing : RoutingLegal s.router
  timeline : TimelineLegal s.timeline
  inputs : InputsInRange s.inputs
  capacity : WithinCapacity s
  takes : OneOpenTake s.takes
  nextId : NextIdInRange s.takes
  conditions : ConditionsAgree s

/-- A safe run: it stops nowhere, and every state it reaches is legal. -/
def Safe (s : State) : Prop := ∀ k : Nat, ∃ t, Host.Core.run
  { State := State, Fault := Fault, Refusal := Refusal, step := step, reset := State.reset } k s = .next t ∧ Legal t

end Sys2Proof.Machine
end

