-- ==== Sys2Proof/WellFormed.lean ====
section
/-! DEFINITION. Which terms of `Instr` are commands that a line of the 2416 can carry. Field values that a request's own
rule refuses or clamps are well formed: the refusal is the request's meaning. -/

namespace Sys2Proof

/-- A note line character begins with a low start bit (R134, R186). -/
def startsLow (bits : BitVec 11) : Bool := !bits.getLsbD 0

/-- A control frame's payload holds at most 240 bytes (R166). -/
def fitsPayload (text : List (BitVec 8)) : Bool := text.length ≤ 240

/-- A kind word of four bytes that names no request (R169). -/
def namesNoRequest (kind : List (BitVec 8)) : Bool :=
  kind.length == 4 && (ReqKind.ofWord kind).isNone

/-- The well-formed commands. -/
def Instr.wf : Instr → Bool
  | .powerOnReset => true
  | .audioFrame _ _ _ => true
  | .earlyFrameSync => true
  | .clipEpisodeEnd _ => true
  | .busClipEpisodeEnd _ => true
  | .silent _ => true
  | .audioSyncLoss => true
  | .lvlsReport => true
  | .frameArrival _ _ _ => true
  | .refLost => true
  | .edgeConfirmed => true
  | .markFired => true
  | .tailEnd => true
  | .limitCut => true
  | .windowEnd => true
  | .formBlock _ => true
  | .completion _ => true
  | .hold _ => true
  | .go _ => true
  | .linkDown _ => true
  | .linkUp _ => true
  | .stalled _ => true
  | .character bits => startsLow bits
  | .idleTimeout => true
  | .lineBreak => true
  | .breakEnd => true
  | .bindNote => true
  | .controlByte _ _ => true
  | .silenceDiscard => true
  | .badKind _ kind => namesNoRequest kind
  | .transmitFrame => true
  | .iden _ => true
  | .stat _ => true
  | .linkSet _ _ => true
  | .linkRead _ => true
  | .linkReadAndClear _ => true
  | .rsetEngine _ => true
  | .rsetConfig _ => true
  | .inptSet _ _ _ => true
  | .inptRead _ _ => true
  | .mixg _ _ _ _ => true
  | .trakSource _ _ _ => true
  | .trakLink _ _ => true
  | .trakUnlink _ _ => true
  | .trakRead _ _ => true
  | .armt _ _ => true
  | .metrRead _ => true
  | .metrPeriod _ _ => true
  | .tlmd _ _ _ _ => true
  | .tcst _ _ => true
  | .jams _ => true
  | .tcqr _ => true
  | .capsSet _ _ => true
  | .capsRead _ => true
  | .take _ _ _ => true
  | .roll _ => true
  | .cut _ => true
  | .markSet _ _ _ => true
  | .markClear _ _ => true
  | .markRead _ _ => true
  | .trigSet _ _ _ _ _ => true
  | .trigRead _ _ => true
  | .dranSet _ _ _ => true
  | .dranRead _ _ => true
  | .nlinSet _ _ _ => true
  | .nlinRead _ => true
  | .nlinReadAndClear _ => true
  | .note _ text => fitsPayload text
  | .slat _ _ => true
  | .startBitEdge => true

end Sys2Proof
end

