-- ==== Sys2Proof/Certificates/Slice0/Obligations.lean ====
section
/-! DEFINITION. The statements for the provers. Each names the rules it rests on; OBLIGATIONS.json gives its tier, its basis
and its words. -/

open Sys2Proof Sys2Proof.Machine

/-! ## The step and the resets -/

/-- A step takes the command at the front of the queue, with the queue's rest. -/
def Obligations.StepTakesTheFrontCommand : Prop :=
  ∀ (c : Instr) (rest : List Instr) (s : State),
    step { s with pending := c :: rest } = exec c { s with pending := rest }

/-- With no command waiting, a step runs the first internal step that is due, and with none due a tick passes, which changes
timers alone: both are the model's choice, and so are the tick of 1/4,800,000 s and the order of what is due (log entry 3).
That the silence timer passes 200 byte times at 201 is read from R166's words (log entry 24). A tick advances each timer
that runs and leaves the others: the sync timer in SYNCED, up to 4 sample periods (R36); the report timer while the report
period is not 0, up to that period in milliseconds (R46); the silence timer inside a frame, up to 201 byte times (R166, log
entry 24); the idle timer in OPEN while no character arrives and the line is high, up to 44 bit times (R142); the hold/down
timer of an enabled drain that is held or down, up to its hold timeout (R125); and the model's own timer of the frame in
transmission. What is due is the first of these whose condition holds: the end of a clip episode at a quiet counter of 4,800
(R42, R49); a take in TAIL at its end target (R86), the maximum length (R85), a window end (R91), the loss limit (R26), a
mark whose count was entered (R100), a confirmed edge (R105); a completed note (R145), a block that can be formed (R116), a
frame to send or to put away (R172); and the timers: the sync timer at 4 (R36), a hold/down timer at the hold timeout
(R125), the report timer at the period (R46), the idle timer at 44 (R142), the silence timer past 200 (R166, log entry 24).
-/
def Obligations.IdleStepRunsWhatIsDueOrTicks : Prop :=
  (∀ (s : State) (ended : List (Bool × Instr)) (due : Drain → Bool × Instr),
    ended = (List.finRange 16).map (fun k : Fin 16 =>
      (decide (s.inputs.channels[k].clip = true ∧ 4800 ≤ s.inputs.channels[k].quiet), .clipEpisodeEnd k)) →
    (∀ d, due d = (decide ((s.drain d).settings.enabled = true ∧ ((s.drain d).hold = true ∨ (s.drain d).linkUp = false)
      ∧ (s.drain d).stalled = false ∧ (s.drain d).settings.holdTimeout * 1000 ≤ (s.drain d).timer.count), .stalled d)) →
    s.dueCommand = ((ended ++ [
        (decide (s.router.busL.clip = true ∧ 4800 ≤ s.router.busL.quiet), .busClipEpisodeEnd .l),
        (decide (s.router.busR.clip = true ∧ 4800 ≤ s.router.busR.quiet), .busClipEpisodeEnd .r),
        (decide (s.takes.state = .tail) && s.openRecord?.any (fun r => r.endTarget.any fun e => decide (e ≤ s.ring.p)),
          .tailEnd),
        (decide (s.takes.state = .rolling ∧ s.takes.caps.maxLength ≠ 0)
          && s.openRecord?.any (fun r => decide (r.roll + s.takes.caps.maxLength ≤ s.ring.p)), .limitCut),
        (s.takes.table.any fun r => decide (r.state = .closed ∧ r.id ∉ s.delivery.list)
          && r.windowEnd.any fun w => decide (w ≤ s.ring.p), .windowEnd),
        (decide ((s.timeline.ref = .locked ∨ s.timeline.ref = .verifying)
          ∧ 2 * ((s.timeline.rate.num + s.timeline.rate.den - 1) / s.timeline.rate.den) ≤ s.timeline.loss), .refLost),
        (s.takes.markDue.isSome, .markFired),
        (s.triggers.line1.confirmed.isSome || s.triggers.line2.confirmed.isSome, .edgeConfirmed),
        (decide (s.notes.completed ≠ []), .bindNote),
        ((s.nextBlock .a).isSome, .formBlock .a), ((s.nextBlock .b).isSome, .formBlock .b),
        (s.link.tx.all (fun f => decide (f.bytes.length ≤ s.link.txTimer.count))
          && (s.link.tx.isSome || decide (s.link.replies ≠ [] ∨ s.link.notices ≠ [])), .transmitFrame),
        (decide (s.inputs.sync = .synced ∧ 4 ≤ s.inputs.syncTimer.count), .audioSyncLoss), due .a, due .b,
        (decide (s.inputs.reportPeriod ≠ 0 ∧ s.inputs.reportPeriod ≤ s.inputs.reportTimer.count), .lvlsReport),
        (decide (s.notes.line = .opened ∧ s.notes.receiving = false ∧ s.notes.lineHigh = true
          ∧ 44 ≤ s.notes.idleTimer.count), .idleTimeout),
        (decide (s.link.rx ≠ .hunt ∧ 200 < s.link.silenceTimer.count), .silenceDiscard)]).find? fun c => c.1).map
      fun c => c.2)
  ∧ ∀ (s : State) (ticked : Bool → Nat → Nat → Timer → Timer), s.pending = [] →
    (∀ runs unit limit x, ticked runs unit limit x = if runs = true ∧ x.count < limit then
        (if x.frac + 1 < unit then { x with frac := x.frac + 1 } else { count := x.count + 1, frac := 0 })
      else x) →
    (∀ c, s.dueCommand = some c → step s = exec c s)
    ∧ (s.dueCommand = none → ∃ t, step s = .next t
        ∧ t = { s with
            link := { s.link with silenceTimer := t.link.silenceTimer, txTimer := t.link.txTimer }
            inputs := { s.inputs with syncTimer := t.inputs.syncTimer, reportTimer := t.inputs.reportTimer }
            notes := { s.notes with idleTimer := t.notes.idleTimer }
            delivery := { s.delivery with drains :=
              { a := { s.delivery.drains.a with timer := t.delivery.drains.a.timer }
                b := { s.delivery.drains.b with timer := t.delivery.drains.b.timer } } } }
        ∧ t.inputs.syncTimer = ticked (decide (s.inputs.sync = .synced)) 100 4 s.inputs.syncTimer
        ∧ t.inputs.reportTimer =
            ticked (decide (s.inputs.reportPeriod ≠ 0)) 4800 s.inputs.reportPeriod s.inputs.reportTimer
        ∧ t.link.silenceTimer = ticked (decide (s.link.rx ≠ .hunt)) 48 201 s.link.silenceTimer
        ∧ t.notes.idleTimer = ticked (decide (s.notes.line = .opened ∧ s.notes.receiving = false ∧ s.notes.lineHigh = true))
            125 44 s.notes.idleTimer
        ∧ (∀ d : Drain, (t.drain d).timer = ticked (decide ((s.drain d).settings.enabled = true
              ∧ ((s.drain d).hold = true ∨ (s.drain d).linkUp = false)))
            4800 ((s.drain d).settings.holdTimeout * 1000) (s.drain d).timer)
        ∧ (∀ f, s.link.tx = some f → t.link.txTimer = ticked true 48 f.bytes.length s.link.txTimer))

/-- What power-on reset leaves (R1, R4, R18, R36, R47, R50 to R54, R66, R67, R75, R92, R98, R103, R109, R112, R135, R148,
R165). The field `confirmed` is the model's own (log entry 12), and so is `completed` (log entry 14). -/
def Obligations.ResetHoldsThePowerOnValues : Prop :=
  State.reset.ring.p = 0
  ∧ State.reset.takes.state = .stopped ∧ State.reset.takes.table = [] ∧ State.reset.takes.nextId = 1
  ∧ State.reset.takes.lastSlate = none
  ∧ State.reset.takes.caps = { preRoll := 96000, postRoll := 48000, maxLength := 0, window := 1440000, grace := 720000 }
  ∧ State.reset.takes.startMark = { armed := false, count := 0 }
  ∧ State.reset.takes.stopMark = { armed := false, count := 0 }
  ∧ State.reset.timeline =
      { rate := .r24, mode := .free, tolerance := 24, anchor := { pos := 0, count := 0 }, ref := .freeRun,
        candidate := none, regain := false, loss := 0, mismatch := 0, invalid := 0 }
  ∧ State.reset.inputs.sync = .acquiring ∧ State.reset.inputs.reportPeriod = 0
  ∧ (∀ k : Fin 16, State.reset.inputs.channels[k] =
      { settings :=
          { gain := 16384, inverted := false, hold := 48, high := 8388607, low := 0, dwell := 0, subOn := false,
            subValue := 0 },
        lastGood := 0, holdCount := 0, dropout := false, clip := false, quiet := 0, silence := 0, silentFlag := false,
        peak := 0 })
  ∧ (∀ k : Fin 16, State.reset.router.busL.gains[k] = 0 ∧ State.reset.router.busR.gains[k] = 0)
  ∧ (∀ b : Bus, (State.reset.router.bus b).clip = false ∧ (State.reset.router.bus b).quiet = 0
      ∧ (State.reset.router.bus b).peak = 0)
  ∧ (∀ t : Fin 24, State.reset.router.sources[t] = if t.val < 18 then t.val + 1 else 0)
  ∧ State.reset.router.links = 0 ∧ State.reset.router.armed = 0
  ∧ (∀ n : Line, State.reset.triggers.get n =
      { mode := .off, assertedLow := false, filter := 96, level := none, pending := none, lastEdge := none,
        edgeCount := 0, lastOutcome := none, confirmed := none })
  ∧ State.reset.delivery.list = []
  ∧ (∀ d : Drain, (State.reset.drain d).settings =
        { enabled := false, wordSize := .w24, highFirst := false, blockLength := 2048, holdTimeout := 8 }
      ∧ (State.reset.drain d).hold = false ∧ (State.reset.drain d).timer.count = 0
      ∧ (State.reset.drain d).stalled = false
      ∧ (State.reset.drain d).gapEpisode = false ∧ (State.reset.drain d).inFlight = none
      ∧ (State.reset.drain d).lateCompletions = 0 ∧ (State.reset.drain d).lateSamples = 0)
  ∧ State.reset.notes.accept = [] ∧ State.reset.notes.line = .idle ∧ State.reset.notes.station = none
  ∧ State.reset.notes.buffer = [] ∧ State.reset.notes.long = false ∧ State.reset.notes.idleTimer.count = 0
  ∧ State.reset.notes.completed = [] ∧ State.reset.notes.counts = NoteCounts.zero
  ∧ (∀ t : Fin 24, State.reset.binding.names[t] = none)
  ∧ State.reset.binding.scene = none ∧ State.reset.binding.number = none ∧ State.reset.binding.wild = false
  ∧ State.reset.binding.comments = [] ∧ State.reset.binding.commentsLost = 0
  ∧ State.reset.link.rx = .hunt ∧ State.reset.link.errorLimit = 1 ∧ State.reset.link.consecutive = 0
  ∧ State.reset.link.counts = LinkCounts.zero ∧ State.reset.link.replies = [] ∧ State.reset.link.notices = []
  ∧ State.reset.link.nextSeq = 0 ∧ State.reset.link.lostCount = 0 ∧ State.reset.link.conds = Conds.clear
  ∧ State.reset.link.tx = none

/-- POWER_ON_RESET gives every block its power-on values (R182), the ring's slots not being cleared (R64); the link-up flags
come from the ports (R112), and a note line that is low holds the receiver until it goes high (R147). The model's choices:
the counts of the stopped timers are 0 (log entry 33), the line keeps its level and is low while the bits of a character
arrive, so that no character begun before the reset is taken (log entry 9), the notes that are complete and not yet bound
are dropped (log entry 14), and the waiting commands and the counter of free values, which are the model's own fields, stay
(log entry 5). -/
def Obligations.PowerOnResetRestoresReset : Prop :=
  ∀ s : State, exec .powerOnReset s = .next { State.reset with
    pending := s.pending
    ring := { s.ring with p := 0 }
    delivery := { list := [], drains :=
      { a := { State.reset.delivery.drains.a with linkUp := s.delivery.drains.a.linkUp }
        b := { State.reset.delivery.drains.b with linkUp := s.delivery.drains.b.linkUp } } }
    notes := { State.reset.notes with lineHigh := s.notes.lineHigh && !s.notes.receiving
                                      waitHigh := !(s.notes.lineHigh && !s.notes.receiving) }
    freeCount := s.freeCount }

/-- RSET ENGINE keeps the settings, the reply queue, the next take id and the frame in transmission, and resets the runtime
state of every block (R180, and the tables of R37, R46, R47, R50, R64, R66, R103, R112, R135, R148, R165). The
model's own fields `confirmed` and `markDue` are cleared (log entries 12 and 13). A character whose bits are arriving is not
interrupted (R135), and a line that is low is waited for (R147); the notes already completed stay, and the line keeps its
level, which are the model's choices (log entries 14 and 9). The report timer restarts from 0 (R46) and the idle timer is 0
(R135); the sync timer is stopped (R37), and that it stands at 0 is the model's choice (log entry 33). -/
def Obligations.RsetEngineResetsTheRuntimeState : Prop :=
  ∀ (s : State) (tag : BitVec 8), HasRoom s → ∃ t, exec (.rsetEngine tag) s = .next t
    ∧ t.link = { s.link with
        consecutive := 0, counts := LinkCounts.zero, notices := [], nextSeq := 0, lostCount := 0, conds := Conds.clear
        replies := s.link.replies
          ++ [{ tag := tag, kind := ReqKind.rset.word, status := .ok, result := .rset false 0 }] }
    ∧ t.ring = { s.ring with p := 0 }
    ∧ t.takes = { State.reset.takes with caps := s.takes.caps, nextId := s.takes.nextId }
    ∧ t.router.sources = s.router.sources ∧ t.router.links = s.router.links ∧ t.router.armed = s.router.armed
    ∧ t.router.busL = { State.reset.router.busL with gains := s.router.busL.gains }
    ∧ t.router.busR = { State.reset.router.busR with gains := s.router.busR.gains }
    ∧ (∀ k : Fin 16, t.inputs.channels[k] =
        { Channel.initial with settings := s.inputs.channels[k].settings })
    ∧ t.inputs.sync = .acquiring ∧ t.inputs.reportPeriod = s.inputs.reportPeriod
    ∧ t.inputs.syncTimer = { count := 0, frac := 0 } ∧ t.inputs.reportTimer = { count := 0, frac := 0 }
    ∧ t.timeline = { s.timeline with
        anchor := { pos := 0, count := 0 }, ref := if s.timeline.mode = .free then .freeRun else .seeking
        candidate := none, regain := false, loss := 0, mismatch := 0, invalid := 0 }
    ∧ (∀ n : Line, t.triggers.get n = { TrigLine.initial with
        mode := (s.triggers.get n).mode, assertedLow := (s.triggers.get n).assertedLow
        filter := (s.triggers.get n).filter })
    ∧ t.delivery.list = []
    ∧ (∀ d : Drain, t.drain d = { DrainState.initial (s.drain d).linkUp with settings := (s.drain d).settings })
    ∧ t.notes.accept = s.notes.accept ∧ t.notes.line = .idle ∧ t.notes.counts = NoteCounts.zero
    ∧ t.notes.station = none ∧ t.notes.buffer = [] ∧ t.notes.long = false ∧ t.notes.receiving = s.notes.receiving
    ∧ t.notes.idleTimer = { count := 0, frac := 0 }
    ∧ t.notes.lineHigh = s.notes.lineHigh ∧ t.notes.completed = s.notes.completed
    ∧ (s.notes.receiving = true ∨ s.notes.lineHigh = true → t.notes.waitHigh = false)
    ∧ (s.notes.receiving = false → s.notes.lineHigh = false → t.notes.waitHigh = true)
    ∧ t.binding = State.reset.binding ∧ t.pending = s.pending ∧ t.freeCount = s.freeCount

/-- RSET CONFIG is refused with BUSY unless the take state is STOPPED and the delivery list is empty; otherwise the settings
return to their defaults (R94, R179, R181, and the tables of R47, R50 to R54, R67, R103, R112, R135). Every record is kept
(R94), but that the disabling of a drain aborts its block in flight, and the block's count joins the abandoned count of the
truncated take it belongs to (R115, R133); that the sequence returns to the block's is read from R122 (log entry 18). A
trigger line keeps its runtime state (R103), and with it, by the model's choice, an edge that waits in the model's own field
`confirmed` with the request that the old mode gave it (log entry 12). The armed mask becomes empty (R54), which the model
follows where R179's last paragraph speaks of a roll that makes a take after the reset (log entry 38). The notices, their
sequences and lost count, the reply queue, the link counts, but for the frame itself, and the other conditions are kept
(R181). -/
def Obligations.RsetConfigRestoresTheDefaults : Prop :=
  ∀ (s : State) (tag : BitVec 8), HasRoom s →
    (s.takes.state ≠ .stopped ∨ s.delivery.list ≠ [] →
      exec (.rsetConfig tag) s = .next (replied s tag .rset .busy .none))
    ∧ (s.takes.state = .stopped → s.delivery.list = [] → ∃ t, exec (.rsetConfig tag) s = .next t
        ∧ t.link = { heard s.link with
            errorLimit := 1, conds := { s.link.conds with referenceLost := false, drainStalled := false }
            replies := s.link.replies
              ++ [{ tag := tag, kind := ReqKind.rset.word, status := .ok, result := .rset true s.ring.p }] }
        ∧ t.ring = s.ring ∧ t.takes.caps = State.reset.takes.caps ∧ t.takes.nextId = s.takes.nextId
        ∧ t.takes.lastSlate = s.takes.lastSlate ∧ t.takes.state = .stopped
        ∧ (∀ back : Drain → Nat → Section → Section,
            (∀ d id x, back d id x = match (s.drain d).inFlight with
              | some b =>
                if (s.drain d).settings.enabled = true ∧ b.settled = false ∧ b.header.takeId = id then
                  { x with formation := x.confirmed, nextSeq := b.header.seq
                           abandoned := if x.state = .abandoned then x.abandoned + b.header.count else x.abandoned }
                else x
              | none => x) →
            t.takes.table = s.takes.table.map fun r =>
              { r with sections := { a := back .a r.id r.sections.a, b := back .b r.id r.sections.b } })
        ∧ t.takes.startMark = { armed := false, count := 0 } ∧ t.takes.stopMark = { armed := false, count := 0 }
        ∧ (∀ k : Fin 16, t.inputs.channels[k] = { s.inputs.channels[k] with
            settings := ChannelSettings.initial, silence := 0, silentFlag := false })
        ∧ t.inputs.sync = s.inputs.sync ∧ t.inputs.reportPeriod = 0
        ∧ t.router = { s.router with
            busL := { s.router.busL with gains := Vector.replicate 16 0 }
            busR := { s.router.busR with gains := Vector.replicate 16 0 }
            sources := State.reset.router.sources, links := 0, armed := 0 }
        ∧ t.timeline = { State.reset.timeline with
            anchor := { pos := s.ring.p, count := 0 }, mismatch := s.timeline.mismatch, invalid := s.timeline.invalid }
        ∧ (∀ n : Line, t.triggers.get n = { s.triggers.get n with mode := .off, assertedLow := false, filter := 96 })
        ∧ (∀ d : Drain, (t.drain d).settings = DrainSettings.initial ∧ (t.drain d).linkUp = (s.drain d).linkUp
            ∧ (t.drain d).hold = false ∧ (t.drain d).stalled = false ∧ (t.drain d).gapEpisode = false
            ∧ (t.drain d).inFlight = none ∧ (t.drain d).timer.count = 0
            ∧ (t.drain d).lateCompletions = (s.drain d).lateCompletions
            ∧ (t.drain d).lateSamples = (s.drain d).lateSamples)
        ∧ t.notes = { s.notes with accept := [] } ∧ t.binding = s.binding ∧ t.pending = s.pending)

/-! ## The audio path -/

/-- A good or flagged slot is conditioned by polarity, gain and saturation (R38), and a good slot's value becomes the last
good sample; an invalid slot gives the last good sample while the hold counter is below the hold, and 0 after that (R39);
the substitute value takes the place of both (R40). The track samples of a frame come from the sources in force: silence, an
input's output, or a bus sample (R51), and a bus sample is the clamped sum of the sixteen scaled outputs (R49). -/
def Obligations.SamplesAreConditionedAndRouted : Prop :=
  (∀ (c : Channel) (w : BitVec 32),
       (c.settings.subOn = true → c.output w = c.settings.subValue)
       ∧ (w.getLsbD 7 = false → c.settings.subOn = false →
           (c.holdCount < c.settings.hold → c.output w = c.lastGood)
           ∧ (c.settings.hold ≤ c.holdCount → c.output w = 0)))
  ∧ (∀ (c : Channel) (w : BitVec 32), w.getLsbD 7 = true →
       let x : Int := (w.extractLsb' 8 24).toInt
       let x1 : Int := if c.settings.inverted = true then (if x = -8388608 then 8388607 else -x) else x
       let x2 : Int := (x1 * (c.settings.gain.toNat : Int) + 8192) / 16384
       let x3 : Int := max (-8388608) (min 8388607 x2)
       (c.settings.subOn = false → (c.output w).toInt = x3)
       ∧ (c.settings.subOn = true → c.output w = c.settings.subValue)
       ∧ (w.getLsbD 6 = false → (c.takeSlot w).lastGood.toInt = x3))
  ∧ (∀ (s : State) (slots : Vector (BitVec 32) 16) (t : Fin 24),
         (s.router.sources[t] = 0 → (s.trackSamples slots)[t] = 0)
         ∧ (∀ k : Fin 16, s.router.sources[t] = k.val + 1 →
             (s.trackSamples slots)[t] = s.inputs.channels[k].output slots[k])
         ∧ (s.router.sources[t] = 17 → ((s.trackSamples slots)[t]).toInt =
             max (-8388608) (min 8388607 (((List.finRange 16).map fun k =>
               ((s.inputs.channels[k].output slots[k]).toInt * (s.router.busL.gains[k].toNat : Int) + 8192) / 16384).sum)))
         ∧ (s.router.sources[t] = 18 → ((s.trackSamples slots)[t]).toInt =
             max (-8388608) (min 8388607 (((List.finRange 16).map fun k =>
               ((s.inputs.channels[k].output slots[k]).toInt * (s.router.busR.gains[k].toNat : Int) + 8192) / 16384).sum))))

/-- An audio frame writes the track samples in the slot of P and moves P on by one; every other slot keeps its samples (R57,
R58). It makes the sync SYNCED with the timer at 0, and clears AUDIO LOST from LOST (R36, R37); the trigger lines take
their samples for the position written (R104). With what the last advance made due settled first (log entry 2), the loss count
rises by one in LOCKED and VERIFYING and stays in the other states (R26). Where the new P is a frame boundary, the armed marks
whose count it enters are recorded at the new P, to fire by MARK_FIRED (R100); the field that records them, `markDue`, is the
model's own (log entry 13). -/
def Obligations.AudioFrameWritesTheSlotOfP : Prop :=
  ∀ (s : State) (slots : Vector (BitVec 32) 16) (l1 l2 : Bool), s.ring.p + 1 < 281474976710656 → s.ring.wf = true →
    ∃ t, exec (.audioFrame slots l1 l2) s = .next t
      ∧ t.ring.p = s.ring.p + 1
      ∧ (∀ slot : Nat, readSlot t.ring.cells slot =
          if slot = s.ring.p % 2097152 then s.trackSamples slots else readSlot s.ring.cells slot)
      ∧ t.inputs.sync = .synced ∧ t.inputs.syncTimer.count = 0
      ∧ (s.inputs.sync = .lost → t.link.conds.audioLost = false)
      ∧ (s.triggers.line1.confirmed = none → s.triggers.line2.confirmed = none → t.triggers =
          { line1 := s.triggers.line1.sample l1 s.ring.p, line2 := s.triggers.line2.sample l2 s.ring.p })
      ∧ t.pending = s.pending ∧ t.notes = s.notes ∧ t.freeCount = s.freeCount
      ∧ ∀ (u : State) (c : Nat) (entered : MarkName → Bool), u = s.settleAdvance →
          c = t.timeline.countAt (s.ring.p + 1) →
          (∀ m, entered m = decide ((u.mark m).armed = true ∧ (u.mark m).count = c)) →
          t.timeline = { u.timeline with loss :=
            if u.timeline.ref = .locked ∨ u.timeline.ref = .verifying then u.timeline.loss + 1 else u.timeline.loss }
          ∧ (∀ m, t.mark m = u.mark m)
          ∧ t.takes.markDue =
            if t.timeline.phaseAt (s.ring.p + 1) = 0 ∧ (entered .start = true ∨ entered .stop = true) then
              some { count := c, pos := s.ring.p + 1, start := entered .start, stop := entered .stop }
            else none

/-- What an audio frame leaves in each input channel: the last good sample, which a good slot sets to its sample under
polarity, gain and saturation (R38, R39), the hold counter, the dropout episode and the peak, by the slot's class (R39, R41,
R44), and the clip and the silent episode with their counters, by the magnitude of the
output (R42, R43); the settings are kept. Each bus takes its peak and its clip episode from its sum (R44, R49). -/
def Obligations.AudioFrameUpdatesEveryInput : Prop :=
  ∀ (s : State) (slots : Vector (BitVec 32) 16) (l1 l2 : Bool), ∃ t, exec (.audioFrame slots l1 l2) s = .next t
    ∧ (∀ sum : Int, sum = ((List.finRange 16).map fun k =>
          ((s.inputs.channels[k].output slots[k]).toInt * (s.router.busL.gains[k].toNat : Int) + 8192) / 16384).sum →
        t.router.busL = { s.router.busL with
          peak := max s.router.busL.peak (max (-8388608) (min 8388607 sum)).natAbs
          clip := decide (sum < -8388608 ∨ 8388607 < sum)
            || (s.router.busL.clip && decide (s.router.busL.quiet + 1 < 4800))
          quiet := if sum < -8388608 ∨ 8388607 < sum ∨ (s.router.busL.clip = true ∧ 4800 ≤ s.router.busL.quiet + 1)
            then 0 else if s.router.busL.clip = true then s.router.busL.quiet + 1 else s.router.busL.quiet })
    ∧ (∀ sum : Int, sum = ((List.finRange 16).map fun k =>
          ((s.inputs.channels[k].output slots[k]).toInt * (s.router.busR.gains[k].toNat : Int) + 8192) / 16384).sum →
        t.router.busR = { s.router.busR with
          peak := max s.router.busR.peak (max (-8388608) (min 8388607 sum)).natAbs
          clip := decide (sum < -8388608 ∨ 8388607 < sum)
            || (s.router.busR.clip && decide (s.router.busR.quiet + 1 < 4800))
          quiet := if sum < -8388608 ∨ 8388607 < sum ∨ (s.router.busR.clip = true ∧ 4800 ≤ s.router.busR.quiet + 1)
            then 0 else if s.router.busR.clip = true then s.router.busR.quiet + 1 else s.router.busR.quiet })
    ∧ ∀ k : Fin 16, t.inputs.channels[k].settings = s.inputs.channels[k].settings
      ∧ t.inputs.channels[k].peak =
          max s.inputs.channels[k].peak (s.inputs.channels[k].output slots[k]).toInt.natAbs
      ∧ (slots[k].getLsbD 7 = true → slots[k].getLsbD 6 = false →
          t.inputs.channels[k].holdCount = 0 ∧ t.inputs.channels[k].dropout = false
          ∧ ∀ x y : Int, x = (slots[k].extractLsb' 8 24).toInt →
              y = (if s.inputs.channels[k].settings.inverted = true then (if x = -8388608 then 8388607 else -x) else x) →
              (t.inputs.channels[k].lastGood).toInt = max (-8388608) (min 8388607
                ((y * (s.inputs.channels[k].settings.gain.toNat : Int) + 8192) / 16384)))
      ∧ (slots[k].getLsbD 7 = true → slots[k].getLsbD 6 = true →
          t.inputs.channels[k].lastGood = s.inputs.channels[k].lastGood
          ∧ t.inputs.channels[k].holdCount = s.inputs.channels[k].holdCount ∧ t.inputs.channels[k].dropout = true)
      ∧ (slots[k].getLsbD 7 = false →
          t.inputs.channels[k].lastGood = s.inputs.channels[k].lastGood
          ∧ t.inputs.channels[k].holdCount = (if s.inputs.channels[k].holdCount < s.inputs.channels[k].settings.hold
              then s.inputs.channels[k].holdCount + 1 else s.inputs.channels[k].holdCount)
          ∧ t.inputs.channels[k].dropout = true)
      ∧ (∀ m : Nat, m = (s.inputs.channels[k].output slots[k]).toInt.natAbs →
          (s.inputs.channels[k].settings.high ≤ m →
            t.inputs.channels[k].clip = true ∧ t.inputs.channels[k].quiet = 0)
          ∧ (m < s.inputs.channels[k].settings.high → s.inputs.channels[k].clip = false →
            t.inputs.channels[k].clip = false ∧ t.inputs.channels[k].quiet = s.inputs.channels[k].quiet)
          ∧ (m < s.inputs.channels[k].settings.high → s.inputs.channels[k].clip = true →
            s.inputs.channels[k].quiet + 1 < 4800 →
            t.inputs.channels[k].clip = true ∧ t.inputs.channels[k].quiet = s.inputs.channels[k].quiet + 1)
          ∧ (m < s.inputs.channels[k].settings.high → s.inputs.channels[k].clip = true →
            s.inputs.channels[k].quiet + 1 = 4800 →
            t.inputs.channels[k].clip = false ∧ t.inputs.channels[k].quiet = 0)
          ∧ (s.inputs.channels[k].settings.low = 0 ∨ s.inputs.channels[k].settings.dwell = 0
              ∨ s.inputs.channels[k].settings.low ≤ m →
            t.inputs.channels[k].silence = 0 ∧ t.inputs.channels[k].silentFlag = false)
          ∧ (0 < s.inputs.channels[k].settings.dwell → m < s.inputs.channels[k].settings.low →
            t.inputs.channels[k].silence = min (s.inputs.channels[k].silence + 1) 480000
            ∧ t.inputs.channels[k].silentFlag = (s.inputs.channels[k].silentFlag
              || decide (s.inputs.channels[k].settings.dwell ≤ t.inputs.channels[k].silence))))

/-- The events that an audio frame raises reach the open take. The episodes that begin with the frame raise DROPOUT, CLIP and
SILENT for inputs 1 to 16 in turn, then CLIP for bus L and for bus R, at the position of the frame (R41 to R43, R49, R55).
Those whose source feeds the take are entered in its event list in that order, and counted lost once the list holds 32
(R55, R73, R88); no other record's events change. The open take is that of the state in which what the last advance made due
has been settled, which is the model's choice (log entry 2). -/
def Obligations.AudioFrameEventsReachTheOpenTake : Prop :=
  ∀ (s u : State) (slots : Vector (BitVec 32) 16) (l1 l2 : Bool), u = s.settleAdvance →
    ∃ t, exec (.audioFrame slots l1 l2) s = .next t
      ∧ (∀ (r : TakeRecord) (began : EventKind → Nat → Bool → Bool → List Event) (raised fed : List Event),
          u.openRecord? = some r → u.record? r.id = some r → r.events.length ≤ 32 → r.eventsLost ≤ 255 →
          (∀ kind source was now, began kind source was now =
            if was = false ∧ now = true then
              [{ kind := kind, source := source, position := s.ring.p, error := 0 }]
            else []) →
          raised = ((List.finRange 16).flatMap fun k =>
              began .dropout (k.val + 1) s.inputs.channels[k].dropout t.inputs.channels[k].dropout
              ++ began .clip (k.val + 1) s.inputs.channels[k].clip t.inputs.channels[k].clip
              ++ began .silent (k.val + 1) s.inputs.channels[k].silentFlag t.inputs.channels[k].silentFlag)
            ++ began .clip 17 s.router.busL.clip t.router.busL.clip
            ++ began .clip 18 s.router.busR.clip t.router.busR.clip →
          fed = raised.filter (fun e => decide (FeedsTake s.router r.mask e.source)) →
          ∃ q, t.record? r.id = some q ∧ q.events = (r.events ++ fed).take 32
            ∧ q.eventsLost = min 255 (r.eventsLost + (r.events.length + fed.length - 32)))
      ∧ (∀ id r, u.record? id = some r → (∀ o, u.openRecord? = some o → o.id ≠ id) →
          ∃ q, t.record? id = some q ∧ q.events = r.events ∧ q.eventsLost = r.eventsLost)

/-- After every audio frame the formation cursor of every section in PENDING or ACTIVE of a take in the delivery list is at
least O, or stands at or past the end of its closed take (R58 step 4, R126). -/
def Obligations.AudioFrameLeavesCursorsRetained : Prop :=
  ∀ (s : State) (slots : Vector (BitVec 32) 16) (l1 l2 : Bool) (t : State),
    exec (.audioFrame slots l1 l2) s = .next t →
    ∀ id ∈ t.delivery.list, ∀ r, t.record? id = some r → ∀ d : Drain, (r.sections.get d).live = true →
      t.ring.p - 2097152 ≤ (r.sections.get d).formation
      ∨ ∃ e, r.endPos = some e ∧ e ≤ (r.sections.get d).formation

/-- A trigger line takes one sample (R104): an unset level is set, an equal level drops the pending edge, and a new level
starts or lengthens it; at max(G, 1) samples the edge is confirmed (R104). Its direction follows the polarity (R103), and
the mode and the direction give its request: LEVEL a roll at an assertion and a cut at a release, TOGGLE and EDGE a toggle
and a roll at an assertion (R105). The model's choice (log entry 12): the confirmed edge is held with its first position and
the mode's request in the model's own field `confirmed`, and the level and the pending edge are brought up to date only when
EDGE_CONFIRMED acts on it. -/
def Obligations.TriggerSampleFiltersTheLevel : Prop :=
  ∀ (l : TrigLine) (level : Bool) (p : Nat),
    (l.level = none → l.sample level p = { l with level := some level })
    ∧ (l.level = some level → l.sample level p = { l with pending := none })
    ∧ (l.level = some (!level) → ∀ e : PendingEdge,
        e = (match l.pending with
          | none => { first := p, counter := 1 }
          | some e => { first := e.first, counter := e.counter + 1 }) →
        (e.counter < max l.filter 1 → l.sample level p = { l with pending := some e })
        ∧ (max l.filter 1 ≤ e.counter → l.sample level p = { l with
            pending := some e
            confirmed := some
              { level := level, first := e.first
                direction := if level = !l.assertedLow then .asserted else .released
                request := match l.mode with
                  | .off => none
                  | .level => if level = !l.assertedLow then some .roll else some .levelCut
                  | .toggle => if level = !l.assertedLow then some .toggle else none
                  | .edge => if level = !l.assertedLow then some .roll else none } }))

/-- The audio steps that stand alone. An early frame sync changes nothing that the model holds (the model's choice, log
entry 29). A clip episode whose quiet counter is at 4,800 ends without an event, on an input (R42) and on a bus (R49); the
rows change nothing where no episode is at its end, which is the model's choice (log entry 11). SILENT and AUDIO_SYNC_LOSS
with no take open: the silent episode flag is set (R43); in SYNCED the sync becomes LOST and AUDIO LOST is set (R36); the
event reaches no take (R55). An event of the sync loss is entered in the open take: AUDIO BREAK at P, source 0 (R36, R55,
R88); a full list counts it lost instead (R73). The event of SILENT is entered in the open take if the input feeds it, and
reaches no record otherwise (R43, R55, R88). The model's choices: SILENT as a row acts at P, and changes nothing where no
silent episode is to start (log entry 10); AUDIO_SYNC_LOSS is taken at any count of the sync timer and leaves it at 4 (log
entry 4); in a sync state other than SYNCED it changes nothing (log entry 1). -/
def Obligations.AudioRowsTakeEffect : Prop :=
  (∀ s : State, exec .earlyFrameSync s = .next s
       ∧ (s.inputs.sync ≠ .synced → exec .audioSyncLoss s = .next s)
       ∧ (∀ k : Fin 16, s.inputs.channels[k].clip = true → s.inputs.channels[k].quiet = 4800 →
           exec (.clipEpisodeEnd k) s = .next { s with inputs := { s.inputs with
             channels := s.inputs.channels.set k { s.inputs.channels[k] with clip := false, quiet := 0 } } })
       ∧ (∀ k : Fin 16, s.inputs.channels[k].clip = false ∨ s.inputs.channels[k].quiet < 4800 →
           exec (.clipEpisodeEnd k) s = .next s)
       ∧ (s.router.busL.clip = false ∨ s.router.busL.quiet < 4800 → exec (.busClipEpisodeEnd .l) s = .next s)
       ∧ (s.router.busR.clip = false ∨ s.router.busR.quiet < 4800 → exec (.busClipEpisodeEnd .r) s = .next s)
       ∧ (s.router.busL.clip = true → s.router.busL.quiet = 4800 → exec (.busClipEpisodeEnd .l) s =
           .next { s with router := { s.router with busL := { s.router.busL with clip := false, quiet := 0 } } })
       ∧ (s.router.busR.clip = true → s.router.busR.quiet = 4800 → exec (.busClipEpisodeEnd .r) s =
           .next { s with router := { s.router with busR := { s.router.busR with clip := false, quiet := 0 } } }))
  ∧ (∀ s : State, (∀ r ∈ s.takes.table, r.state ≠ .opened) →
       (∀ k : Fin 16, 0 < s.inputs.channels[k].settings.low → 0 < s.inputs.channels[k].settings.dwell →
         s.inputs.channels[k].settings.dwell ≤ s.inputs.channels[k].silence → s.inputs.channels[k].silentFlag = false →
         exec (.silent k) s = .next { s with inputs := { s.inputs with
           channels := s.inputs.channels.set k { s.inputs.channels[k] with silentFlag := true } } })
       ∧ (s.inputs.sync = .synced → exec .audioSyncLoss s = .next { s with
           inputs := { s.inputs with sync := .lost, syncTimer := { count := 4, frac := 0 } }
           link := { s.link with conds := { s.link.conds with audioLost := true } } }))
  ∧ (∀ (s : State) (r : TakeRecord), s.inputs.sync = .synced → s.openRecord? = some r → s.record? r.id = some r →
         ∃ t, exec .audioSyncLoss s = .next t
           ∧ t.record? r.id = some (if r.events.length < 32 then
               { r with events := r.events ++ [{ kind := .audioBreak, source := 0, position := s.ring.p, error := 0 }] }
             else { r with eventsLost := if r.eventsLost < 255 then r.eventsLost + 1 else r.eventsLost })
           ∧ (∀ id, id ≠ r.id → t.record? id = s.record? id)
           ∧ t = { s with
               inputs := { s.inputs with sync := .lost, syncTimer := { count := 4, frac := 0 } }
               link := { s.link with conds := { s.link.conds with audioLost := true } }
               takes := { s.takes with table := t.takes.table } })
  ∧ (∀ (s : State) (k : Fin 16) (c : Channel), c = s.inputs.channels[k] →
       (c.settings.low = 0 ∨ c.settings.dwell = 0 ∨ c.silence < c.settings.dwell ∨ c.silentFlag = true →
         exec (.silent k) s = .next s)
       ∧ (∀ r : TakeRecord, 0 < c.settings.low → 0 < c.settings.dwell → c.settings.dwell ≤ c.silence →
           c.silentFlag = false → s.openRecord? = some r → s.record? r.id = some r →
           ∃ t, exec (.silent k) s = .next t
             ∧ t.inputs = { s.inputs with channels := s.inputs.channels.set k { c with silentFlag := true } }
             ∧ (FeedsTake s.router r.mask (k.val + 1) → t.record? r.id = some (withEvent r
                 { kind := .silent, source := k.val + 1, position := s.ring.p, error := 0 })
               ∧ ∀ id, id ≠ r.id → t.record? id = s.record? id)
             ∧ (¬FeedsTake s.router r.mask (k.val + 1) → t.takes = s.takes)
             ∧ t = { s with inputs := t.inputs, takes := { s.takes with table := t.takes.table } }))

/-- LVLS_REPORT queues the eighteen peaks with P, clears them and restarts the report timer (R46); it is taken at any count of
that timer (the model's choice, log entry 4), and with reporting off it changes nothing (the model's choice, log entry 1).
METR read reports the eighteen peaks with P and clears them; METR period stores
the clamped period and restarts the report timer from 0 (R45); with the period 0 the stopped timer stands at 0, which is the
model's choice (log entry 33). -/
def Obligations.LevelReportsAndMeterReadsClearPeaks : Prop :=
  (∀ s : State,
       (s.inputs.reportPeriod = 0 → exec .lvlsReport s = .next s)
       ∧ (s.inputs.reportPeriod ≠ 0 → NoticeRoom s → ∃ peaks : Vector Nat 18,
           (∀ k : Fin 16, peaks[k.val] = s.inputs.channels[k].peak)
           ∧ peaks[16] = s.router.busL.peak ∧ peaks[17] = s.router.busR.peak
           ∧ exec .lvlsReport s = .next { s with
               link := noticed s.link (.lvls s.ring.p peaks)
               inputs := { s.inputs with
                 channels := s.inputs.channels.map fun c => { c with peak := 0 }
                 reportTimer := { count := 0, frac := 0 } }
               router := { s.router with
                 busL := { s.router.busL with peak := 0 }, busR := { s.router.busR with peak := 0 } } }))
  ∧ (∀ (s : State) (tag : BitVec 8), HasRoom s →
         (∃ peaks : Vector Nat 18, (∀ k : Fin 16, peaks[k.val] = s.inputs.channels[k].peak)
           ∧ peaks[16] = s.router.busL.peak ∧ peaks[17] = s.router.busR.peak
           ∧ exec (.metrRead tag) s = .next { s with
               link := answered s.link tag .metr .ok (.metrRead peaks s.ring.p)
               inputs := { s.inputs with channels := s.inputs.channels.map fun c => { c with peak := 0 } }
               router := { s.router with
                 busL := { s.router.busL with peak := 0 }, busR := { s.router.busR with peak := 0 } } })
         ∧ (∀ (period : BitVec 16) (n : Nat), n = (if period = 0 then 0 else max 50 (min period.toNat 1000)) →
           exec (.metrPeriod tag period) s = .next { s with
             link := answered s.link tag .metr .ok (.metrPeriod n)
             inputs := { s.inputs with reportPeriod := n, reportTimer := { count := 0, frac := 0 } } }))

/-! ## Requests in general -/

/-- Every request taken is answered with exactly one reply, placed at the end of the reply queue with the request's tag and
kind word, and sets the consecutive error count to 0 (R168 to R171). A request that finds 8 replies waiting is discarded
unanswered: it is counted as received and as an overrun discard, and nothing else changes (R169); so is any good frame,
whatever its kind word and its payload. A good frame whose kind word names no request is answered BAD_KIND, and one of a
known kind whose payload is not of its kind's length BAD_LENGTH, and nothing else changes (R169, R171, R183); no payload
that a frame can carry is too long for NOTE. That a request row is a whole frame is the model's choice (log entry 15). -/
def Obligations.RequestsAreAnsweredOnceOrDiscarded : Prop :=
  (∀ (i : Instr) (kind : ReqKind) (tag : BitVec 8) (payload : List Byte) (s : State), HasRoom s →
       requestFrame i = some (kind, tag, payload) →
       ∃ t, exec i s = .next t ∧ t.link.consecutive = 0
         ∧ ∃ (status : Status) (result : Result), t.link.replies = s.link.replies
             ++ [{ tag := tag, kind := kind.word, status := status, result := result }])
  ∧ (∀ (i : Instr) (kind : ReqKind) (tag : BitVec 8) (payload : List Byte) (s : State), s.link.replies.length = 8 →
         requestFrame i = some (kind, tag, payload) → exec i s = .next { s with link := discarded s.link })
  ∧ (∀ (s : State) (tag : BitVec 8) (kind : Text), HasRoom s → kind.length = 4 → (∀ k : ReqKind, k.word ≠ kind) →
         exec (.badKind tag kind) s = .next { s with link := { s.link with
           consecutive := 0
           counts := { s.link.counts with framesReceived :=
             if s.link.counts.framesReceived < 65535 then s.link.counts.framesReceived + 1
               else s.link.counts.framesReceived }
           replies := s.link.replies ++ [{ tag := tag, kind := kind, status := .badKind, result := .none }] } })
  ∧ (∀ (s : State) (tag : BitVec 8) (kind : ReqKind) (payload : List Byte) (size : Nat), HasRoom s → s.link.rx = .hunt →
         s.link.silenceTimer = { count := 0, frac := 0 } →
         (kind, size) ∈ [(ReqKind.iden, 0), (.stat, 0), (.link, 2), (.rset, 1), (.inpt, 23), (.mixg, 4), (.trak, 3),
           (.armt, 3), (.metr, 3), (.tlmd, 4), (.tcst, 4), (.jams, 0), (.tcqr, 0), (.caps, 11), (.take, 3), (.roll, 0),
           (.cut, 0), (.mark, 6), (.trig, 6), (.dran, 9), (.nlin, 10), (.slat, 1)] →
         payload.length ≤ 240 → payload.length ≠ size →
         feedBytes (frameBytes kind.word tag payload) s = .next (replied s tag kind .badLength .none))
  ∧ (∀ (s : State) (tag : BitVec 8) (kind : Text) (payload : List Byte), s.link.replies.length = 8 → s.link.rx = .hunt →
         s.link.silenceTimer = { count := 0, frac := 0 } → kind.length = 4 → payload.length ≤ 240 →
         feedBytes (frameBytes kind tag payload) s = .next { s with link := discarded s.link })

/-- The bytes of a request's frame, taken one by one from HUNT, do what the request command does (R166, R169, R170, R183): a
request row stands for its whole frame, which is the model's choice (log entry 15). A frame whose kind word names no request
does what BAD_KIND does, whatever its payload. -/
def Obligations.FrameBytesDoWhatTheRequestDoes : Prop :=
  (∀ (i : Instr) (kind : ReqKind) (tag : BitVec 8) (payload : List Byte) (s : State), i.wf = true →
    requestFrame i = some (kind, tag, payload) → s.link.rx = .hunt → s.link.silenceTimer = { count := 0, frac := 0 } →
    feedBytes (frameBytes kind.word tag payload) s = exec i s)
  ∧ (∀ (kind : Text) (tag : BitVec 8) (payload : List Byte) (s : State), kind.length = 4 →
    (∀ k : ReqKind, k.word ≠ kind) → payload.length ≤ 240 → s.link.rx = .hunt →
    s.link.silenceTimer = { count := 0, frac := 0 } →
    feedBytes (frameBytes kind tag payload) s = exec (.badKind tag kind) s)

/-- The requests that read: each reports the state it names and changes nothing but the reply (R33, R48, R53, R68, R93, R99,
R108, R113, R137, R163, R177, R178). A MARK read reports both marks, whichever is asked for, each with its label and, while
it is armed, its distance from the count of P. SLAT and TAKE carry P and the section asked for: four comments or sixteen
events to a section, in list order. What a DRAN reply reports, without P, is the model's choice (log entry 37). -/
def Obligations.ReadRequestsReportAndChangeNothing : Prop :=
  ∀ (s : State) (tag : BitVec 8), HasRoom s →
    exec (.iden tag) s = .next (replied s tag .iden .ok .iden)
    ∧ exec (.linkRead tag) s = .next (replied s tag .link .ok
        (.link s.link.errorLimit 0 s.link.conds.linkFault (answered s.link tag .link .ok .none).counts))
    ∧ exec (.tcqr tag) s = .next (replied s tag .tcqr .ok (.tcqr (s.timeline.readingAt s.ring.p) s.timeline))
    ∧ exec (.capsRead tag) s = .next (replied s tag .caps .ok (.caps s.takes.caps))
    ∧ exec (.nlinRead tag) s = .next (replied s tag .nlin .ok (.nlin s.notes))
    ∧ (∀ k : Fin 16, exec (.inptRead tag (BitVec.ofNat 8 (k.val + 1))) s =
        .next (replied s tag .inpt .ok (.inptRead s.inputs.channels[k])))
    ∧ (∀ k : Fin 24, exec (.trakRead tag (BitVec.ofNat 8 (k.val + 1))) s =
        .next (replied s tag .trak .ok (.trak s.router.sources s.router.links s.router.armed)))
    ∧ exec (.trigRead tag 1) s = .next (replied s tag .trig .ok (.trig s.triggers.line1))
    ∧ exec (.trigRead tag 2) s = .next (replied s tag .trig .ok (.trig s.triggers.line2))
    ∧ exec (.dranRead tag 0) s = .next (replied s tag .dran .ok
        (.dran s.delivery.drains.a ((s.currentTake .a).getD 0)))
    ∧ exec (.dranRead tag 1) s = .next (replied s tag .dran .ok
        (.dran s.delivery.drains.b ((s.currentTake .b).getD 0)))
    ∧ (∀ (n : BitVec 8) (report : MarkName → MarkReport), n = 0 ∨ n = 1 →
        (∀ m, report m = { armed := (s.mark m).armed, count := (s.mark m).count
                           label := labelOf s.timeline.rate (s.mark m).count
                           distance := if (s.mark m).armed = true then
                               some (dist s.timeline.rate (s.timeline.countAt s.ring.p) (s.mark m).count) else none }) →
        exec (.markRead tag n) s = .next (replied s tag .mark .ok (.mark (report .start) (report .stop))))
    ∧ (∀ (n : BitVec 8) (x : SlatSection), (n, x) ∈ [
          (0#8, .header s.binding.scene s.binding.number s.binding.wild s.binding.comments.length s.binding.commentsLost
            s.takes.lastSlate),
          (1#8, .names s.binding.names), (2#8, .comments 2 (s.binding.comments.take 4)),
          (3#8, .comments 3 ((s.binding.comments.drop 4).take 4))] →
        exec (.slat tag n) s = .next (replied s tag .slat .ok (.slat s.ring.p x)))
    ∧ (∀ (id : BitVec 16) (n : BitVec 8) (r : TakeRecord) (x : TakeSection), s.record? id.toNat = some r →
        (n, x) ∈ [
          (0#8, .header {
            start := r.start, roll := r.roll, rollCause := r.rollCause, cut := r.cut, cutCause := r.cutCause
            endTarget := r.endTarget, endPos := r.endPos, windowEnd := r.windowEnd, reading := r.reading, mask := r.mask
            tailShortened := r.tailShortened, limited := r.limited, earlyFinal := r.earlyFinal, truncated := r.truncated
            circle := r.slate.circle, noGood := r.slate.noGood, falseTake := r.slate.falseTake, wild := r.slate.wild
            scene := r.slate.scene, number := r.slate.number, numbering := r.slate.numbering, prior := r.slate.prior
            commentCount := r.slate.comments.length, commentsLost := r.slate.commentsLost
            eventCount := r.events.length, eventsLost := r.eventsLost }),
          (1#8, .names r.slate.names), (2#8, .comments 2 (r.slate.comments.take 4)),
          (3#8, .comments 3 ((r.slate.comments.drop 4).take 4)), (4#8, .events 4 (r.events.take 16)),
          (5#8, .events 5 ((r.events.drop 16).take 16)), (6#8, .delivery r.start r.truncated r.sections)] →
        exec (.take tag id n) s = .next (replied s tag .take .ok (.take id.toNat r.state s.ring.p x)))

/-- A field that names a thing outside its set refuses the request with RANGE, and a take id that no record holds with
NO_TAKE; nothing else changes (R29, R48, R50, R53, R93, R99, R108, R113, R137, R163, R171, R178). So does a frame of the right
length whose action or scope code lies outside the set of its kind, whatever else it carries (R45, R48, R53, R68, R99, R108,
R113, R137, R178, R179). -/
def Obligations.NamesOutsideTheirSetAreRefused : Prop :=
  ∀ (s : State) (tag : BitVec 8), HasRoom s →
    (∀ n : BitVec 8, n = 0 ∨ 16 < n.toNat → exec (.inptRead tag n) s = .next (replied s tag .inpt .range .none))
    ∧ (∀ (n : BitVec 8) f, 16 < n.toNat ∨ 1 < f.polarity.toNat ∨ 1 < f.substitute.toNat →
        exec (.inptSet tag n f) s = .next (replied s tag .inpt .range .none))
    ∧ (∀ (b n : BitVec 8) g, (b ≠ 17 ∧ b ≠ 18) ∨ 16 < n.toNat →
        exec (.mixg tag b n g) s = .next (replied s tag .mixg .range .none))
    ∧ (∀ n src : BitVec 8, n = 0 ∨ 24 < n.toNat ∨ 18 < src.toNat →
        exec (.trakSource tag n src) s = .next (replied s tag .trak .range .none))
    ∧ (∀ n : BitVec 8, n = 0 ∨ 24 < n.toNat →
        exec (.trakLink tag n) s = .next (replied s tag .trak .range .none)
        ∧ exec (.trakUnlink tag n) s = .next (replied s tag .trak .range .none)
        ∧ exec (.trakRead tag n) s = .next (replied s tag .trak .range .none))
    ∧ (∀ (id : BitVec 16) (n : BitVec 8), 6 < n.toNat →
        exec (.take tag id n) s = .next (replied s tag .take .range .none))
    ∧ (∀ (id : BitVec 16) (n : BitVec 8), n.toNat ≤ 6 → s.record? id.toNat = none →
        exec (.take tag id n) s = .next (replied s tag .take .noTake .none))
    ∧ (∀ (m : BitVec 8) l, 1 < m.toNat → exec (.markSet tag m l) s = .next (replied s tag .mark .range .none)
        ∧ exec (.markClear tag m) s = .next (replied s tag .mark .range .none)
        ∧ exec (.markRead tag m) s = .next (replied s tag .mark .range .none))
    ∧ (∀ (n m p : BitVec 8) f, (n ≠ 1 ∧ n ≠ 2) ∨ 3 < m.toNat ∨ 1 < p.toNat →
        exec (.trigSet tag n m p f) s = .next (replied s tag .trig .range .none))
    ∧ (∀ n : BitVec 8, n ≠ 1 ∧ n ≠ 2 → exec (.trigRead tag n) s = .next (replied s tag .trig .range .none))
    ∧ (∀ (rc mc : BitVec 8) tol, 5 < rc.toNat ∨ 2 < mc.toNat →
        exec (.tlmd tag rc mc tol) s = .next (replied s tag .tlmd .range .none))
    ∧ (∀ (n : BitVec 8) f, 1 < n.toNat ∨ 1 < f.enable.toNat ∨ (f.wordSize ≠ 16 ∧ f.wordSize ≠ 24)
        ∨ 1 < f.byteOrder.toNat → exec (.dranSet tag n f) s = .next (replied s tag .dran .range .none))
    ∧ (∀ n : BitVec 8, 1 < n.toNat → exec (.dranRead tag n) s = .next (replied s tag .dran .range .none))
    ∧ (∀ (n : BitVec 8) v, 8 < n.toNat → exec (.nlinSet tag n v) s = .next (replied s tag .nlin .range .none))
    ∧ (∀ n : BitVec 8, 3 < n.toNat → exec (.slat tag n) s = .next (replied s tag .slat .range .none))
    ∧ (∀ n : BitVec 8, 3 < n.toNat → exec (.linkSet tag n) s = .next (replied s tag .link .range .none))
    ∧ (∀ (kind : ReqKind) (size place top : Nat) (payload : List Byte) (code : BitVec 8),
        (kind, size, place, top) ∈ [(ReqKind.link, 2, 0, 2), (.rset, 1, 0, 1), (.inpt, 23, 0, 1), (.trak, 3, 1, 3),
          (.metr, 3, 0, 1), (.caps, 11, 0, 1), (.mark, 6, 1, 2), (.trig, 6, 1, 1), (.dran, 9, 1, 1), (.nlin, 10, 0, 2)] →
        payload.length = size → payload[place]? = some code → top < code.toNat →
        s.link.rx = .hunt → s.link.silenceTimer = { count := 0, frac := 0 } →
        feedBytes (frameBytes kind.word tag payload) s = .next (replied s tag kind .range .none))

/-! ## The interface's own requests -/

/-- STAT reports the flags and the lost count as they stand, then clears LINK FAULT, DELIVERY GAP, NOTICES LOST and the
lost count (R175, R176). LINK set stores the error limit of a limit code 0 to 3, and LINK read and clear reports the
counts and then sets them to 0 (R178). -/
def Obligations.StatusAndLinkRequestsReportThenClear : Prop :=
  (∀ (s : State) (tag : BitVec 8), HasRoom s → ∃ rep : StatReport,
       exec (.stat tag) s = .next { s with link := { answered s.link tag .stat .ok (.stat rep) with
           lostCount := 0
           conds := { s.link.conds with linkFault := false, deliveryGap := false, noticesLost := false } } }
       ∧ rep.conds = s.link.conds ∧ rep.lostCount = s.link.lostCount ∧ rep.queueLevel = s.link.notices.length
       ∧ rep.nextSeq = s.link.nextSeq ∧ rep.p = s.ring.p ∧ rep.takeState = s.takes.state ∧ rep.openTake = s.openId
       ∧ rep.list = s.delivery.list ∧ rep.ref = s.timeline.ref
       ∧ (∀ d : Drain, rep.drains.get d = ((s.drain d).settings.enabled, (s.drain d).linkUp, (s.drain d).hold,
           (s.drain d).stalled))
       ∧ rep.highest = (if s.link.conds.linkFault = true then some .linkFault
           else if s.link.conds.deliveryGap = true then some .deliveryGap
           else if s.link.conds.audioLost = true then some .audioLost
           else if s.link.conds.referenceLost = true then some .referenceLost
           else if s.link.conds.noticesLost = true then some .noticesLost
           else if s.link.conds.drainStalled = true then some .drainStalled else none))
  ∧ (∀ (s : State) (tag : BitVec 8), HasRoom s →
         (∀ (code : Fin 4) (limit : Nat), limit = 2 ^ code.val → exec (.linkSet tag (BitVec.ofNat 8 code.val)) s =
           .next { s with link := { answered s.link tag .link .ok
               (.link limit 0 s.link.conds.linkFault (answered s.link tag .link .ok .none).counts) with
             errorLimit := limit } })
         ∧ exec (.linkReadAndClear tag) s = .next { s with link := { answered s.link tag .link .ok
               (.link s.link.errorLimit 0 s.link.conds.linkFault (answered s.link tag .link .ok .none).counts) with
             counts := LinkCounts.zero } })

/-! ## Inputs, mix and tracks -/

/-- INPT set stores the eight settings, the lengths and limits clamped, for one input or for all sixteen; a change that
turns silence detection off clears the silence counter and the silent episode (R43, R48). MIXG stores the gain of one
input, or of all inputs, on one bus, and reports the sixteen gains (R50). -/
def Obligations.InputAndBusSettingsAreStored : Prop :=
  (∀ (s : State) (tag n : BitVec 8) (f : InputFields) (inverted subOn : Bool) (x : ChannelSettings), HasRoom s →
       n.toNat ≤ 16 → f.polarity = (if inverted = true then 1 else 0) → f.substitute = (if subOn = true then 1 else 0) →
       x = { gain := f.gain, inverted := inverted, hold := min f.hold.toNat 480
             high := max 1 (min f.high.toNat 8388608), low := min f.low.toNat 8388607
             dwell := min f.dwell.toNat 480000, subOn := subOn, subValue := f.value } →
       ∃ t, exec (.inptSet tag n f) s = .next t
         ∧ t = { s with link := answered s.link tag .inpt .ok (.inptSet x), inputs := t.inputs }
         ∧ t.inputs = { s.inputs with channels := t.inputs.channels }
         ∧ ∀ k : Fin 16, t.inputs.channels[k] =
             (if n = 0 ∨ n.toNat = k.val + 1 then
               { s.inputs.channels[k] with
                 settings := x
                 silence := if 0 < x.low ∧ 0 < x.dwell then s.inputs.channels[k].silence else 0
                 silentFlag := if 0 < x.low ∧ 0 < x.dwell then s.inputs.channels[k].silentFlag else false }
             else s.inputs.channels[k]))
  ∧ (∀ (s : State) (tag n : BitVec 8) (g : BitVec 16) (b : Bus), HasRoom s → n.toNat ≤ 16 →
         ∃ (t : State) (gains : Vector (BitVec 16) 16),
           exec (.mixg tag (match b with | .l => 17 | .r => 18) n g) s = .next t
           ∧ (∀ k : Fin 16, gains[k] = if n = 0 ∨ n.toNat = k.val + 1 then g else (s.router.bus b).gains[k])
           ∧ t = { s with
               link := answered s.link tag .mixg .ok (.mixg gains)
               router := match b with
                 | .l => { s.router with busL := { s.router.busL with gains := gains } }
                 | .r => { s.router with busR := { s.router.busR with gains := gains } } })

/-- TRAK SOURCE sets one track's source. TRAK LINK makes link t, closing the armed mask over it and leaving every other track
of a closed mask as it was, or is refused with LINKED where a member belongs to another link, or changes nothing where
the link is held already; TRAK UNLINK breaks the link the track belongs to (R52, R53). All three are refused with BUSY for
a track in the open take's mask (R53). ARMT sets the armed mask to the requested mask closed over the links: a track is
armed when the request holds it or its partner (R54). -/
def Obligations.TracksAreRoutedLinkedAndArmed : Prop :=
  (∀ (s : State) (tag src : BitVec 8) (k : Fin 24), HasRoom s → src.toNat ≤ 18 →
       (∀ r, s.openRecord? = some r → r.mask.getLsbD k.val = true →
         exec (.trakSource tag (BitVec.ofNat 8 (k.val + 1)) src) s = .next (replied s tag .trak .busy .none))
       ∧ ((∀ r, s.openRecord? = some r → r.mask.getLsbD k.val = false) →
         exec (.trakSource tag (BitVec.ofNat 8 (k.val + 1)) src) s = .next { s with
           link := answered s.link tag .trak .ok
             (.trak (s.router.sources.set k src.toNat) s.router.links s.router.armed)
           router := { s.router with sources := s.router.sources.set k src.toNat } }))
  ∧ (∀ (s : State) (tag : BitVec 8) (k : Fin 24) (r : TakeRecord), HasRoom s → s.openRecord? = some r →
       r.mask.getLsbD k.val = true →
       exec (.trakLink tag (BitVec.ofNat 8 (k.val + 1))) s = .next (replied s tag .trak .busy .none)
       ∧ exec (.trakUnlink tag (BitVec.ofNat 8 (k.val + 1))) s = .next (replied s tag .trak .busy .none))
  ∧ (∀ (s : State) (tag : BitVec 8) (k : Fin 24), HasRoom s →
         (∀ r, s.openRecord? = some r → r.mask.getLsbD k.val = false) →
         (s.router.links.getLsbD k.val = true → exec (.trakLink tag (BitVec.ofNat 8 (k.val + 1))) s =
           .next (replied s tag .trak .ok (.trak s.router.sources s.router.links s.router.armed)))
         ∧ (s.router.links.getLsbD k.val = false →
             (s.router.links.getLsbD (k - 1).val = true ∨ s.router.links.getLsbD (k + 1).val = true) →
             exec (.trakLink tag (BitVec.ofNat 8 (k.val + 1))) s = .next (replied s tag .trak .linked .none))
         ∧ (s.router.links.getLsbD k.val = false → s.router.links.getLsbD (k - 1).val = false →
             s.router.links.getLsbD (k + 1).val = false → ∃ t, exec (.trakLink tag (BitVec.ofNat 8 (k.val + 1))) s = .next t
             ∧ t = { s with
                 link := answered s.link tag .trak .ok (.trak s.router.sources t.router.links t.router.armed)
                 router := { s.router with links := t.router.links, armed := t.router.armed } }
             ∧ (∀ j : Fin 24, t.router.links.getLsbD j.val = (decide (j = k) || s.router.links.getLsbD j.val))
             ∧ (s.router.armed.getLsbD k.val = true ∨ s.router.armed.getLsbD (k + 1).val = true →
                 t.router.armed.getLsbD k.val = true ∧ t.router.armed.getLsbD (k + 1).val = true)
             ∧ (s.router.armed.getLsbD k.val = false → s.router.armed.getLsbD (k + 1).val = false →
                 t.router.armed = s.router.armed)
             ∧ ((∀ j : Fin 24, s.router.links.getLsbD j.val = true →
                   s.router.armed.getLsbD j.val = s.router.armed.getLsbD (j + 1).val) →
                 ∀ j : Fin 24, j ≠ k → j ≠ k + 1 →
                   t.router.armed.getLsbD j.val = s.router.armed.getLsbD j.val))
         ∧ (∃ t, exec (.trakUnlink tag (BitVec.ofNat 8 (k.val + 1))) s = .next t
             ∧ t = { s with
                 link := answered s.link tag .trak .ok (.trak s.router.sources t.router.links s.router.armed)
                 router := { s.router with links := t.router.links } }
             ∧ ∀ j : Fin 24, t.router.links.getLsbD j.val =
                 (s.router.links.getLsbD j.val && decide (j ≠ if s.router.links.getLsbD k.val = true then k else k - 1))))
  ∧ (∀ (s : State) (tag : BitVec 8) (m : TrackSet), HasRoom s → ∃ a : TrackSet,
       exec (.armt tag m) s = .next { s with
         link := answered s.link tag .armt .ok (.armt a), router := { s.router with armed := a } }
       ∧ ∀ k : Fin 24, a.getLsbD k.val = true ↔
           m.getLsbD k.val = true
           ∨ (s.router.links.getLsbD k.val = true ∧ m.getLsbD (k + 1).val = true)
           ∨ (s.router.links.getLsbD (k - 1).val = true ∧ m.getLsbD (k - 1).val = true))

/-! ## Timecode -/

/-- Every position lies in its frame: at or after the start of frame n, before the start of frame n + 1, its phase the
distance from that start and its count n counted from the anchor's modulo the day (R5, R6). The expected start of a
frame count has that count and phase 0, and lies less than half a day ahead of the anchor frame or up to half a day
behind it (R8, R9). -/
def Obligations.PositionsLieInTheirFrame : Prop :=
  (∀ (t : Timeline) (p : Nat), ∃ n : Int,
       (t.anchor.pos : Int) + frameStart t.rate n ≤ p ∧ (p : Int) < t.anchor.pos + frameStart t.rate (n + 1)
       ∧ (t.phaseAt p : Int) = p - (t.anchor.pos + frameStart t.rate n)
       ∧ (t.countAt p : Int) = (t.anchor.count + n) % (t.rate.day : Int))
  ∧ (∀ (t : Timeline) (c : Nat) (p : Nat), t.anchor.count < t.rate.day → c < t.rate.day → t.expected c = (p : Int) →
         t.countAt p = c ∧ t.phaseAt p = 0
         ∧ -(t.rate.day / 2 : Nat) ≤ dist t.rate t.anchor.count c ∧ dist t.rate t.anchor.count c < (t.rate.day / 2 : Nat))

/-- Labels and frame counts convert back and forth at every rate, drop form included (R10 to R13). -/
def Obligations.LabelsAndCountsConvertBack : Prop :=
  ∀ r : Rate,
    (∀ l : Label, validLabel r l = true → labelCount r l < r.day ∧ (labelOf r (labelCount r l)).label = l)
    ∧ (∀ c : Nat, c < r.day → validLabel r (labelOf r c).label = true ∧ labelCount r (labelOf r c).label = c)

/-- A frame whose drop flag does not match the rate, or whose label is invalid, is counted and otherwise ignored, and a valid
frame in FREE_RUN returns the loss count to 0 alone (R21). A valid frame returns the loss count to 0 in every state. In
SEEKING the first frame becomes the candidate, and so does one that is not consistent with it (R22, R23). In LOCKED an
agreeing frame keeps the lock and a disagreeing one starts VERIFYING (R24). In VERIFYING an agreeing frame returns to LOCKED,
and one that neither agrees nor is consistent replaces the candidate (R25). In HOLDOVER an agreeing frame returns to LOCKED
and a disagreeing one starts VERIFYING with regain pending (R27). A reference regained clears REFERENCE LOST and is reported
as REF REGAINED at the frame (R25, R27, R28, R34). -/
def Obligations.FrameArrivalsSetTheReferenceState : Prop :=
  (∀ (s : State) (l : Label) (drop : Bool) (a : BitVec 48),
       (drop ≠ s.timeline.rate.isDrop → exec (.frameArrival l drop a) s = .next { s with timeline := { s.timeline with
         mismatch := if s.timeline.mismatch < 65535 then s.timeline.mismatch + 1 else s.timeline.mismatch } })
       ∧ (drop = s.timeline.rate.isDrop → validLabel s.timeline.rate l = false →
         exec (.frameArrival l drop a) s = .next { s with timeline := { s.timeline with
           invalid := if s.timeline.invalid < 65535 then s.timeline.invalid + 1 else s.timeline.invalid } })
       ∧ (drop = s.timeline.rate.isDrop → validLabel s.timeline.rate l = true → s.timeline.ref = .freeRun →
         exec (.frameArrival l drop a) s = .next { s with timeline := { s.timeline with loss := 0 } }))
  ∧ (∀ (s : State) (l : Label) (a : BitVec 48) (c : Nat) (e : Int), validLabel s.timeline.rate l = true →
       c = labelCount s.timeline.rate l → e = (a.toNat : Int) - s.timeline.expected c →
       ∃ t, exec (.frameArrival l s.timeline.rate.isDrop a) s = .next t ∧ t.timeline.loss = 0
         ∧ (s.timeline.ref = .seeking → (∀ first, s.timeline.candidate = some first →
               ¬FollowsFrame s.timeline first c a.toNat) →
             t = { s with timeline := { s.timeline with loss := 0, candidate := some { pos := a.toNat, count := c } } })
         ∧ (s.timeline.ref = .locked → ¬OutsideTolerance s.timeline e →
             t = { s with timeline := { s.timeline with loss := 0 } })
         ∧ (s.timeline.ref = .locked → OutsideTolerance s.timeline e →
             t = { s with timeline := { s.timeline with
               loss := 0, candidate := some { pos := a.toNat, count := c }, ref := .verifying, regain := false } })
         ∧ (s.timeline.ref = .holdover → OutsideTolerance s.timeline e →
             t = { s with timeline := { s.timeline with
               loss := 0, candidate := some { pos := a.toNat, count := c }, ref := .verifying, regain := true } })
         ∧ (s.timeline.ref = .verifying → OutsideTolerance s.timeline e → (∀ first, s.timeline.candidate = some first →
               ¬FollowsFrame s.timeline first c a.toNat) →
             t = { s with timeline := { s.timeline with loss := 0, candidate := some { pos := a.toNat, count := c } } })
         ∧ (s.timeline.ref = .verifying → ¬OutsideTolerance s.timeline e → s.timeline.regain = false →
             t = { s with timeline := { s.timeline with loss := 0, candidate := none, ref := .locked, regain := false } })
         ∧ (s.timeline.ref = .holdover ∨ (s.timeline.ref = .verifying ∧ s.timeline.regain = true) →
             ¬OutsideTolerance s.timeline e →
             t.timeline = { s.timeline with
               loss := 0, candidate := none, ref := .locked
               regain := if s.timeline.ref = .holdover then s.timeline.regain else false }
             ∧ t.link.conds.referenceLost = false
             ∧ (NoticeRoom s → t.link = { noticed s.link
                 (.tref .refRegained a.toNat .locked s.timeline.anchor 0) with
                 conds := { s.link.conds with referenceLost := false } })
             ∧ (s.openRecord? = none → t.takes = s.takes)
             ∧ (∀ r, s.openRecord? = some r → s.record? r.id = some r → t.record? r.id =
                 some (withEvent r { kind := .refRegained, source := 0, position := a.toNat, error := 0 }))
             ∧ t = { s with timeline := t.timeline, link := t.link, takes := t.takes }))

/-- A consistent frame moves the anchor to itself: a second frame in SEEKING makes the jam, LOCKED in FOLLOW and FREE_RUN in
JAM-ONCE, reported as LOCKED or JAMMED and as a TC JUMP beside it where its error lies outside the tolerance (R22, R23);
in VERIFYING it makes the re-anchor, after a frame that disagrees with the anchor, reported as a TC JUMP, and with regain
pending as REF REGAINED before it, when REFERENCE LOST clears (R25, R34). The jump and the regain are entered in the open
take (R28, R88). The counts of P before and after the move go to the marks after the reports (R28). -/
def Obligations.FramesMoveTheAnchor : Prop :=
  ∀ (s : State) (l : Label) (a : BitVec 48) (c : Nat) (e : Int) (first anchor : Anchor) (jump : Event),
    validLabel s.timeline.rate l = true → c = labelCount s.timeline.rate l →
    e = (a.toNat : Int) - s.timeline.expected c → s.timeline.candidate = some first →
    FollowsFrame s.timeline first c a.toNat → anchor = { pos := a.toNat, count := c } →
    jump = { kind := .tcJump, source := 0, position := a.toNat, error := e } →
    (s.timeline.ref = .seeking → ∀ (kind : TrefKind) (ref : RefState),
      kind = (if s.timeline.mode = .follow then .locked else .jammed) →
      ref = (if s.timeline.mode = .follow then .locked else .freeRun) →
      ∃ w : State, exec (.frameArrival l s.timeline.rate.isDrop a) s =
          .next (w.markHandoff (s.timeline.countAt s.ring.p) (w.timeline.countAt s.ring.p))
        ∧ w = { s with timeline := w.timeline, link := w.link, takes := w.takes }
        ∧ w.timeline = { s.timeline with loss := 0, anchor := anchor, candidate := none, ref := ref }
        ∧ (¬OutsideTolerance s.timeline e → w.takes = s.takes
            ∧ (NoticeRoom s → w.link = noticed s.link (.tref kind a.toNat ref anchor 0)))
        ∧ (OutsideTolerance s.timeline e →
            (s.link.notices.length + 2 ≤ 32 → w.link =
              noticed (noticed s.link (.tref kind a.toNat ref anchor 0)) (.tref .tcJump a.toNat ref anchor e))
            ∧ (s.openRecord? = none → w.takes = s.takes)
            ∧ (∀ r, s.openRecord? = some r → s.record? r.id = some r →
                w.record? r.id = some (withEvent r jump))))
    ∧ (s.timeline.ref = .verifying → OutsideTolerance s.timeline e →
      ∃ w : State, exec (.frameArrival l s.timeline.rate.isDrop a) s =
          .next (w.markHandoff (s.timeline.countAt s.ring.p) (w.timeline.countAt s.ring.p))
        ∧ w = { s with timeline := w.timeline, link := w.link, takes := w.takes }
        ∧ w.timeline = { s.timeline with loss := 0, anchor := anchor, candidate := none, ref := .locked, regain := false }
        ∧ (s.openRecord? = none → w.takes = s.takes)
        ∧ (s.timeline.regain = false →
            (NoticeRoom s → w.link = noticed s.link (.tref .tcJump a.toNat .locked anchor e))
            ∧ (∀ r, s.openRecord? = some r → s.record? r.id = some r →
                w.record? r.id = some (withEvent r jump)))
        ∧ (s.timeline.regain = true →
            (s.link.notices.length + 2 ≤ 32 → w.link = { noticed (noticed s.link
                (.tref .refRegained a.toNat .locked anchor 0)) (.tref .tcJump a.toNat .locked anchor e) with
                conds := { s.link.conds with referenceLost := false } })
            ∧ (∀ r, s.openRecord? = some r → s.record? r.id = some r → w.record? r.id =
                some (withEvent (withEvent r
                  { kind := .refRegained, source := 0, position := a.toNat, error := 0 }) jump))))

/-- The reference is lost when the loss count is at its limit in LOCKED or VERIFYING: the state becomes HOLDOVER; unless
regain was pending, REFERENCE LOST is set and REF LOST is reported at P, by notice and as an event of the open take, or by the
notice alone with none open (R26, R28, R34, R88). Short of the limit, and in another reference state, the row changes nothing,
which is the model's choice (log entry 1). -/
def Obligations.RefLostEntersHoldover : Prop :=
  ∀ s : State,
    (s.timeline.loss < 2 * ((s.timeline.rate.num + s.timeline.rate.den - 1) / s.timeline.rate.den) →
      exec .refLost s = .next s)
    ∧ (s.timeline.ref ≠ .locked → s.timeline.ref ≠ .verifying → exec .refLost s = .next s)
    ∧ (s.timeline.ref = .locked ∨ s.timeline.ref = .verifying →
        2 * ((s.timeline.rate.num + s.timeline.rate.den - 1) / s.timeline.rate.den) ≤ s.timeline.loss →
        ∃ t, exec .refLost s = .next t
          ∧ t.timeline = { s.timeline with candidate := none, ref := .holdover, regain := false }
          ∧ (s.timeline.regain = true → t = { s with timeline := t.timeline })
          ∧ (s.timeline.regain = false → NoticeRoom s → t.link = { noticed s.link
              (.tref .refLost s.ring.p .holdover s.timeline.anchor 0) with
              conds := { s.link.conds with referenceLost := true } })
          ∧ (s.timeline.regain = false → t.link.conds.referenceLost = true
              ∧ (s.openRecord? = none → t.takes = s.takes)
              ∧ (∀ r, s.openRecord? = some r → s.record? r.id = some r →
                  t.record? r.id = some (withEvent r { kind := .refLost, source := 0, position := s.ring.p, error := 0 })
                  ∧ ∀ id, id ≠ r.id → t.record? id = s.record? id))
          ∧ t = { s with timeline := t.timeline, link := t.link, takes := { s.takes with table := t.takes.table } })

/-- TLMD: a rate change is refused with BUSY while a take is open; a request that keeps the rate and the mode changes the
tolerance alone; a new mode alone keeps the anchor and enters the mode's reference state, and leaving FOLLOW clears
REFERENCE LOST; a new rate sets the anchor to (P, 0), the reference state by the mode, and disarms the marks (R29, R30). -/
def Obligations.TlmdSetsRateModeAndTolerance : Prop :=
  ∀ (s : State) (tag rc mc : BitVec 8) (tol : BitVec 16) (r : Rate) (m : TimeMode), HasRoom s →
    rateOf rc = some r → timeModeOf mc = some m →
    (r ≠ s.timeline.rate → s.takes.state ≠ .stopped →
      exec (.tlmd tag rc mc tol) s = .next (replied s tag .tlmd .busy .none))
    ∧ (r = s.timeline.rate → m = s.timeline.mode → exec (.tlmd tag rc mc tol) s = .next { s with
        link := answered s.link tag .tlmd .ok (.tlmd r m (min tol.toNat 480) s.timeline.ref)
        timeline := { s.timeline with tolerance := min tol.toNat 480 } })
    ∧ (r = s.timeline.rate → m ≠ s.timeline.mode → exec (.tlmd tag rc mc tol) s = .next { s with
        link := { answered s.link tag .tlmd .ok
            (.tlmd r m (min tol.toNat 480) (if m = .free then .freeRun else .seeking)) with
          conds := { s.link.conds with
            referenceLost := if s.timeline.mode = .follow then false else s.link.conds.referenceLost } }
        timeline := { s.timeline with
          mode := m, tolerance := min tol.toNat 480, ref := if m = .free then .freeRun else .seeking
          candidate := none, regain := false, loss := 0 } })
    ∧ (r ≠ s.timeline.rate → s.takes.state = .stopped → exec (.tlmd tag rc mc tol) s = .next { s with
        link := { answered s.link tag .tlmd .ok
            (.tlmd r m (min tol.toNat 480) (if m = .free then .freeRun else .seeking)) with
          conds := { s.link.conds with referenceLost := false } }
        timeline := { s.timeline with
          rate := r, mode := m, tolerance := min tol.toNat 480, anchor := { pos := s.ring.p, count := 0 }
          ref := if m = .free then .freeRun else .seeking, candidate := none, regain := false, loss := 0 }
        takes := { s.takes with
          startMark := { s.takes.startMark with armed := false }
          stopMark := { s.takes.stopMark with armed := false } } })

/-- TCST: an invalid label is refused with LABEL whatever the mode, a mode other than FREE with STATE; otherwise the anchor
becomes (P, c), a TC JUMP at P is reported and entered in the open take where the error lies outside the tolerance (R28,
R31), and the counts of P before and after go to the marks (R28). JAMS: refused with STATE in FREE; otherwise the unit
enters SEEKING with the anchor kept, the candidate and regain pending cleared and the loss count 0, and in FOLLOW REFERENCE
LOST clears (R32). -/
def Obligations.TimecodeIsSetByHandOrJammed : Prop :=
  (∀ (s : State) (tag : BitVec 8) (l : Label), HasRoom s →
       (validLabel s.timeline.rate l = false → exec (.tcst tag l) s = .next (replied s tag .tcst .label .none))
       ∧ (validLabel s.timeline.rate l = true → s.timeline.mode ≠ .free →
           exec (.tcst tag l) s = .next (replied s tag .tcst .state .none))
       ∧ (validLabel s.timeline.rate l = true → s.timeline.mode = .free → ∀ (c : Nat) (e : Int),
           c = labelCount s.timeline.rate l → e = (s.ring.p : Int) - s.timeline.expected c →
           ∃ w : State, exec (.tcst tag l) s = .next
               ((w.markHandoff (s.timeline.countAt s.ring.p) (w.timeline.countAt s.ring.p)).withReply tag .tcst .ok
                 (.tcst c { pos := s.ring.p, count := c }))
             ∧ w = { s with timeline := w.timeline, link := w.link, takes := w.takes }
             ∧ w.timeline = { s.timeline with anchor := { pos := s.ring.p, count := c } }
             ∧ (¬OutsideTolerance s.timeline e → w.link = heard s.link ∧ w.takes = s.takes)
             ∧ (OutsideTolerance s.timeline e →
                 (NoticeRoom s → w.link = noticed (heard s.link)
                   (.tref .tcJump s.ring.p s.timeline.ref { pos := s.ring.p, count := c } e))
                 ∧ (s.openRecord? = none → w.takes = s.takes)
                 ∧ (∀ r, s.openRecord? = some r → s.record? r.id = some r → w.record? r.id = some (withEvent r
                     { kind := .tcJump, source := 0, position := s.ring.p, error := e })))))
  ∧ (∀ (s : State) (tag : BitVec 8), HasRoom s →
         (s.timeline.mode = .free → exec (.jams tag) s = .next (replied s tag .jams .state .none))
         ∧ (s.timeline.mode ≠ .free → exec (.jams tag) s = .next { s with
             link := { answered s.link tag .jams .ok (.jams .seeking) with
               conds := { s.link.conds with
                 referenceLost := if s.timeline.mode = .follow then false else s.link.conds.referenceLost } }
             timeline := { s.timeline with ref := .seeking, candidate := none, regain := false, loss := 0 } }))

/-- The marks at an anchor move, with the counts c1 and c2 of P before and after: equal counts leave both marks; otherwise
an armed mark at c2 has landed and fires at P, one ahead before the move and not ahead after it is skipped, which disarms it
and queues MRKE SKIPPED, and every other mark is kept (R101, R102). Where both are armed each has its own outcome, the start
mark's first, as where both have landed. The marks are taken after the report of the move (R28), which leaves them as they
are. The first clause says this of the hand-off of the two counts, to which the jam and the re-anchor of a FRAME_ARRIVAL
(FramesMoveTheAnchor) and a TCST all come, and the others spell it out for a TCST. -/
def Obligations.AnchorMovesLandSkipOrKeepMarks : Prop :=
  (∀ (x : State) (c1 c2 : Nat) (outcome : MarkName → State → State),
    (∀ m y, outcome m y =
      if (x.mark m).armed = false then y
      else if (x.mark m).count = c2 then y.fireMark m x.ring.p c1 c2
      else if 0 < dist x.timeline.rate c1 (x.mark m).count ∧ dist x.timeline.rate c2 (x.mark m).count ≤ 0 then
        (y.disarm m).notify (.mrke m false (x.mark m).count (labelOf x.timeline.rate (x.mark m).count) x.ring.p c1 c2
          none 0)
      else y) →
    x.markHandoff c1 c2 = if c1 = c2 then x else outcome .stop (outcome .start x))
  ∧ ∀ (s : State) (tag : BitVec 8) (l : Label) (c1 c2 : Nat), HasRoom s → validLabel s.timeline.rate l = true →
    s.timeline.mode = .free → c1 = s.timeline.countAt s.ring.p → c2 = labelCount s.timeline.rate l →
    ∃ w v : State, exec (.tcst tag l) s = .next (v.withReply tag .tcst .ok (.tcst c2 { pos := s.ring.p, count := c2 }))
      ∧ w = { s with
          link := w.link, takes := { s.takes with table := w.takes.table }
          timeline := { s.timeline with anchor := { pos := s.ring.p, count := c2 } } }
      ∧ (¬OutsideTolerance s.timeline ((s.ring.p : Int) - s.timeline.expected c2) →
          w.link = heard s.link ∧ w.takes = s.takes)
      ∧ (c1 = c2 → v = w)
      ∧ (c1 ≠ c2 → (s.mark .start).armed = false → (s.mark .stop).armed = false → v = w)
      ∧ (∀ m other : MarkName, other ≠ m → c1 ≠ c2 → (s.mark m).armed = true → (s.mark other).armed = false →
          ((s.mark m).count = c2 → v = w.fireMark m s.ring.p c1 c2)
          ∧ ((s.mark m).count ≠ c2 → 0 < dist s.timeline.rate c1 (s.mark m).count →
              dist s.timeline.rate c2 (s.mark m).count ≤ 0 → NoticeRoom w → v = { w with
                takes := match m with
                  | .start => { w.takes with startMark := { s.takes.startMark with armed := false } }
                  | .stop => { w.takes with stopMark := { s.takes.stopMark with armed := false } }
                link := noticed w.link (.mrke m false (s.mark m).count
                  (labelOf s.timeline.rate (s.mark m).count) s.ring.p c1 c2 none 0) })
          ∧ ((s.mark m).count ≠ c2 → (dist s.timeline.rate c1 (s.mark m).count ≤ 0
              ∨ 0 < dist s.timeline.rate c2 (s.mark m).count) → v = w))
      ∧ (c1 ≠ c2 → (∀ m, (s.mark m).armed = true ∧ (s.mark m).count = c2) →
          v = (w.fireMark .start s.ring.p c1 c2).fireMark .stop s.ring.p c1 c2)
      ∧ (∀ outcome : MarkName → State → State,
          (∀ m x, outcome m x =
            if (s.mark m).armed = false then x
            else if (s.mark m).count = c2 then x.fireMark m s.ring.p c1 c2
            else if 0 < dist s.timeline.rate c1 (s.mark m).count ∧ dist s.timeline.rate c2 (s.mark m).count ≤ 0 then
              (x.disarm m).notify (.mrke m false (s.mark m).count (labelOf s.timeline.rate (s.mark m).count) s.ring.p c1 c2
                none 0)
            else x) →
          c1 ≠ c2 → v = outcome .stop (outcome .start w))

/-! ## Takes -/

/-- A ROLL taken in STOPPED with a track armed opens a take: the record closes the table with the roll at P, the start at
max(P - pre-roll, O), the armed mask and the start reading, and the take state becomes ROLLING (R16, R60, R78, R96). With a
drain enabled and the list not full it enters the list at its end; its section of an enabled drain is ACTIVE where the drain
has no other take, and PENDING otherwise, with both cursors at the start, and of a disabled drain OFF (R109 to R111; the
cursors of an OFF section are the model's choice, log entry 25). OPEN is queued (R82). In TAIL the tailing take is closed at
max(P, cut), raised over its formation cursors, with TAIL SHORTENED set and a CLOS notice, and the new one opens, also where
the table is full and an older take leaves it (R77, R80, R87). Where neither the table nor the list is full, every other
record keeps all it holds, but for a drain moving on to it (R111) and, as the tailing take closes, for the sweep of the list
(R91, R109). With no track armed it is refused with NOT_ARMED (R81), and in ROLLING it replies ALREADY ROLLING (R79). No
record holds the id that the roll assigns: the premise of log entry 34. -/
def Obligations.RollOpensATake : Prop :=
  ∀ (s : State) (tag : BitVec 8), HasRoom s →
    (s.takes.state = .stopped → s.router.armed ≠ 0 →
      ∃ (t : State) (q : TakeRecord), exec (.roll tag) s = .next t
        ∧ t.takes.state = .rolling ∧ t.takes.table.getLast? = some q
        ∧ q.id = s.takes.nextId ∧ q.state = .opened ∧ q.roll = s.ring.p ∧ q.rollCause = .command
        ∧ q.start = startOf s.ring.p s.takes.caps.preRoll (s.ring.p - 2097152)
        ∧ q.mask = s.router.armed ∧ q.reading = s.timeline.readingAt q.start
        ∧ q.cut = none ∧ q.endTarget = none ∧ q.endPos = none ∧ q.events = []
        ∧ t.takes.lastSlate = some { id := q.id, scene := q.slate.scene, number := q.slate.number }
        ∧ t.takes.nextId = (if s.takes.nextId = 65535 then 1 else (s.takes.nextId % 65535) + 1)
        ∧ t.link.replies = s.link.replies ++ [{ tag := tag, kind := ReqKind.roll.word, status := .ok
                                                result := .rollTaken q.id q.start s.ring.p }]
        ∧ (s.delivery.list.length < 4 → s.takes.nextId ∉ s.delivery.list → (∀ r ∈ s.takes.table, r.id ≠ s.takes.nextId) →
            t.delivery.list = (if (s.drain .a).settings.enabled = true ∨ (s.drain .b).settings.enabled = true then
              s.delivery.list ++ [s.takes.nextId] else s.delivery.list)
            ∧ q.truncated = false
            ∧ (∀ d : Drain, q.sections.get d =
                { state := if (s.drain d).settings.enabled = false then .off
                    else if s.currentTake d = none then .active else .pending
                  formation := q.start, confirmed := q.start, nextSeq := 0, delivered := 0, gapTotal := 0, abandoned := 0
                  gaps := [], notListed := 0, gapPending := false, owing := false })
            ∧ (s.takes.table.length < 16 → NoticeRoom s → t.link.notices = s.link.notices ++
                [{ seq := s.link.nextSeq
                   notice := .opening q.id .command q.start q.roll q.reading.label q.reading.rate q.mask q.slate.scene
                     q.slate.number q.slate.numbering
                     ((s.drain .a).settings.enabled || (s.drain .b).settings.enabled) }])
            ∧ (s.takes.table.length < 16 → t.delivery = { s.delivery with list := t.delivery.list }
                ∧ ∀ p, s.record? p.id = some p → t.record? p.id = some (p.movedOn t)))
        ∧ t = { s with link := t.link, takes := t.takes, delivery := t.delivery, binding := t.binding })
    ∧ (∀ r, s.takes.state = .tail → s.router.armed ≠ 0 → s.openRecord? = some r → s.record? r.id = some r →
        (s.takes.table.length < 16 ∨ (((s.takes.table.map fun q => q.id) ++ [s.takes.nextId]).Nodup
          ∧ ∃ older newer x, s.takes.table = older ++ r :: newer ∧ x ∈ older ∧ x.id ∉ s.delivery.list)) →
        ∃ (t : State) (q old : TakeRecord) (e : Nat), exec (.roll tag) s = .next t ∧ t.takes.state = .rolling
          ∧ t.takes.table.getLast? = some q ∧ q.id = s.takes.nextId ∧ q.roll = s.ring.p ∧ q.state = .opened
          ∧ q.start = startOf s.ring.p s.takes.caps.preRoll (s.ring.p - 2097152)
          ∧ t.record? r.id = some old ∧ old.state ≠ .opened ∧ old.tailShortened = true ∧ old.endPos = some e
          ∧ e = r.endRaised (max s.ring.p (r.cut.getD 0)) ∧ old.windowEnd = some (e + s.takes.caps.window)
          ∧ old.endTarget = none ∧ old.cut = r.cut ∧ old.slate = r.slate ∧ old.events = r.events
          ∧ (NoticeRoom s → s.link.notices ++ [{ seq := s.link.nextSeq
                                                 notice := .clos r.id r.cutCause r.cut e (e + s.takes.caps.window) true
                                                   r.limited r.events.length r.eventsLost }] <+: t.link.notices)
          ∧ t.link.replies = s.link.replies ++ [{ tag := tag, kind := ReqKind.roll.word, status := .ok
                                                  result := .rollTaken q.id q.start s.ring.p }]
          ∧ (s.takes.table.length < 16 → s.delivery.list.length < 4 → s.takes.nextId ∉ s.delivery.list →
              (∀ x ∈ s.takes.table, x.id ≠ s.takes.nextId) →
              OthersMovedOn s t r.id ∧ ∀ d : Drain, (s.drain d).inFlight = none → t.drain d = s.drain d)
          ∧ t = { s with link := t.link, takes := t.takes, delivery := t.delivery, binding := t.binding })
    ∧ (s.takes.state ≠ .rolling → s.router.armed = 0 →
        exec (.roll tag) s = .next (replied s tag .roll .notArmed .none))
    ∧ (∀ r, s.takes.state = .rolling → s.openRecord? = some r →
        exec (.roll tag) s = .next (replied s tag .roll .ok (.rollAlready r.id r.roll)))

/-- A roll that opens a take takes the pending slate: scene, track names, WILD and comments are copied, the number is the
pending number or found from the last-slate record, and the one-shot fields are cleared (R157, R158). A SCENE note
for an AUTO-numbered record recomputes its take number from the prior slate: one more than the prior number, 999
being followed by 1, where the scenes are equal, and 1 otherwise; an EXPLICIT number stays (R155, R159). -/
def Obligations.SlatesAreTakenAndRenumbered : Prop :=
  (∀ (s : State) (tag : BitVec 8), HasRoom s → s.takes.state = .stopped → s.router.armed ≠ 0 →
       ∃ (t : State) (q : TakeRecord), exec (.roll tag) s = .next t ∧ t.takes.table.getLast? = some q
         ∧ q.slate.scene = s.binding.scene ∧ q.slate.names = s.binding.names ∧ q.slate.wild = s.binding.wild
         ∧ q.slate.circle = false ∧ q.slate.noGood = false ∧ q.slate.falseTake = false
         ∧ q.slate.comments = s.binding.comments ∧ q.slate.commentsLost = s.binding.commentsLost
         ∧ (∀ n, s.binding.number = some n → q.slate.number = n ∧ q.slate.numbering = .explicit)
         ∧ (s.binding.number = none → q.slate.numbering = .auto
             ∧ (∀ l, s.takes.lastSlate = some l → l.scene = s.binding.scene →
                 q.slate.number = if l.number = 999 then 1 else (l.number % 999) + 1)
             ∧ ((∀ l, s.takes.lastSlate = some l → l.scene ≠ s.binding.scene) → q.slate.number = 1))
         ∧ q.slate.prior = s.takes.lastSlate.map (fun l => { scene := l.scene, number := l.number })
         ∧ t.binding = { s.binding with number := none, wild := false, comments := [], commentsLost := 0 })
  ∧ (∀ (x : Slate) (station : Nat) (pos : Nat) (v : Option Text),
         (x.apply station pos (.scene v)).scene = v ∧ (x.apply station pos (.scene v)).numbering = x.numbering
         ∧ (x.numbering = .explicit → (x.apply station pos (.scene v)).number = x.number)
         ∧ (x.numbering = .auto → ∀ q, x.prior = some q → q.scene = v → q.number < 999 →
             (x.apply station pos (.scene v)).number = q.number + 1)
         ∧ (x.numbering = .auto → ∀ q, x.prior = some q → q.scene = v → q.number = 999 →
             (x.apply station pos (.scene v)).number = 1)
         ∧ (x.numbering = .auto → (∀ q, x.prior = some q → q.scene ≠ v) → (x.apply station pos (.scene v)).number = 1))

/-- A roll taken in ROLLING has no effect, and its outcome is ALREADY ROLLING (R79). -/
def Obligations.RollInRollingHasNoEffect : Prop :=
  ∀ (s : State) (cause : Cause) (p : Nat), s.takes.state = .rolling →
    s.rollReq cause p = (s, .alreadyRolling)

/-- A cut taken in STOPPED or TAIL has no effect, and its outcome is NOT ROLLING; the end target is not moved. A stop mark
that fires then is disarmed all the same (R84). -/
def Obligations.CutOutsideRollingHasNoEffect : Prop :=
  ∀ (s : State) (cause : Cause) (p : Nat) (level : Option Line), s.takes.state ≠ .rolling →
    s.cutReq cause p level = (s, .notRolling)
    ∧ ∀ c1 c2 : Nat, (s.fireMark .stop p c1 c2).takes =
        { s.takes with stopMark := { s.takes.stopMark with armed := false } }

/-- The next take id: a roll that opens a take assigns it and moves it on, 65,535 being followed by 1, and any other roll
leaves it; it stays from 1 to 65,535. It is 1 after power-on reset, and both RSET scopes keep it (R75). -/
def Obligations.RollAssignsTheNextTakeId : Prop :=
  (∀ (s : State) (cause : Cause) (p : Nat), 1 ≤ s.takes.nextId → s.takes.nextId ≤ 65535 →
    1 ≤ (s.rollReq cause p).1.takes.nextId ∧ (s.rollReq cause p).1.takes.nextId ≤ 65535
    ∧ (∀ id start, (s.rollReq cause p).2 = .taken id start → id = s.takes.nextId
        ∧ (s.rollReq cause p).1.takes.nextId = if s.takes.nextId = 65535 then 1 else s.takes.nextId + 1)
    ∧ ((∀ id start, (s.rollReq cause p).2 ≠ .taken id start) →
        (s.rollReq cause p).1.takes.nextId = s.takes.nextId))
  ∧ (∀ (s t : State) (tag : BitVec 8), (exec .powerOnReset s = .next t → t.takes.nextId = 1)
    ∧ (exec (.rsetEngine tag) s = .next t → t.takes.nextId = s.takes.nextId ∧ t.takes.table =
        if s.link.replies.length < 8 then [] else s.takes.table)
    ∧ (exec (.rsetConfig tag) s = .next t → t.takes.nextId = s.takes.nextId))

/-- A CUT in ROLLING with a post-roll sets the cut, its cause and the end target, and the take state becomes TAIL, every
other record unchanged; with no post-roll the take closes at once, at P raised over its formation cursors, and CLOS is
queued (R83, R87); the list is then swept, which alone reaches the other records (R109, R111). In TAIL and in STOPPED it
only replies NOT ROLLING (R84, R97). -/
def Obligations.CutEntersTheTail : Prop :=
  ∀ (s : State) (tag : BitVec 8) (r : TakeRecord), HasRoom s → s.openRecord? = some r → s.record? r.id = some r →
    (s.takes.state = .rolling → r.roll ≤ s.ring.p → 0 < s.takes.caps.postRoll →
      ∃ t, exec (.cut tag) s = .next t ∧ t.takes.state = .tail
        ∧ t.record? r.id = some { r with
            cut := some s.ring.p, cutCause := some .command, endTarget := some (s.ring.p + s.takes.caps.postRoll) }
        ∧ (∀ id, id ≠ r.id → t.record? id = s.record? id)
        ∧ t = { s with
            link := answered s.link tag .cut .ok
              (.cutTaken r.id s.ring.p (s.ring.p + s.takes.caps.postRoll) false)
            takes := { s.takes with state := .tail, table := t.takes.table } })
    ∧ (s.takes.state = .rolling → r.roll ≤ s.ring.p → s.takes.caps.postRoll = 0 →
        ∃ (t : State) (q : TakeRecord) (e : Nat), exec (.cut tag) s = .next t ∧ t.takes.state = .stopped
          ∧ t.record? r.id = some q ∧ q.state ≠ .opened ∧ q.cut = some s.ring.p ∧ q.cutCause = some .command
          ∧ q.endPos = some e ∧ e = r.endRaised s.ring.p ∧ q.windowEnd = some (e + s.takes.caps.window)
          ∧ (NoticeRoom s → s.link.notices ++ [{ seq := s.link.nextSeq
                                                 notice := .clos r.id (some .command) (some s.ring.p) e
                                                   (e + s.takes.caps.window) r.tailShortened r.limited r.events.length
                                                   r.eventsLost }] <+: t.link.notices)
          ∧ t.link.replies = s.link.replies ++ [{ tag := tag, kind := ReqKind.cut.word, status := .ok
                                                  result := .cutTaken r.id s.ring.p e true }]
          ∧ OthersMovedOn s t r.id ∧ ListSwept s t
          ∧ (∀ d : Drain, (s.drain d).inFlight = none → t.drain d = s.drain d)
          ∧ t = { s with link := t.link, takes := t.takes, delivery := t.delivery })
    ∧ (s.takes.state = .tail → exec (.cut tag) s = .next (replied s tag .cut .ok (.cutNot .tail r.id)))
    ∧ ∀ u : State, HasRoom u → u.takes.state = .stopped → u.openRecord? = none →
        exec (.cut tag) u = .next (replied u tag .cut .ok (.cutNot .stopped 0))

/-- A maximum length that P has reached cuts the take in ROLLING at roll + M with the cause LIMIT and LIMITED set; the state
becomes TAIL, or the take closes at once where the end target is passed (R83, R85). LIMITED is set with the cut, before the
CLOS of a close at once, which is the model's choice (log entry 19). The take in TAIL closes when P reaches its end target:
its end is the target, raised over the formation cursor of a section that is not OFF, its window end is the end plus the
binding window, the take state becomes STOPPED, and CLOS is queued with what the record then holds (R86, R87). The end is
handed to the delivery engine: a section whose abandonment R115 left open counts what lies between its confirmed cursor and
the end, a section in PENDING or ACTIVE is DONE if its formation cursor stands at the end, and any other is left (R117);
here on a drain without a block in flight. A cut into TAIL leaves every other record as it is; at a close the sweep of the
list alone reaches the others (R109, R111). Where the maximum length or the end target is not reached, or there is no
maximum length, the rows change nothing, which is the model's choice (log entry 1). -/
def Obligations.LimitCutAndTailEndTakeEffect : Prop :=
  (∀ (s : State) (r : TakeRecord), s.openRecord? = some r → s.record? r.id = some r → s.takes.state = .rolling →
     (s.takes.caps.maxLength = 0 ∨ s.ring.p < r.roll + s.takes.caps.maxLength → exec .limitCut s = .next s)
     ∧ (0 < s.takes.caps.maxLength → r.roll + s.takes.caps.maxLength ≤ s.ring.p →
         s.ring.p < r.roll + s.takes.caps.maxLength + s.takes.caps.postRoll →
         ∃ t, exec .limitCut s = .next t ∧ t.takes.state = .tail
           ∧ t.record? r.id = some { r with
               cut := some (r.roll + s.takes.caps.maxLength), cutCause := some .limit, limited := true
               endTarget := some (r.roll + s.takes.caps.maxLength + s.takes.caps.postRoll) }
           ∧ (∀ id, id ≠ r.id → t.record? id = s.record? id)
           ∧ t = { s with takes := { s.takes with state := .tail, table := t.takes.table } })
     ∧ (0 < s.takes.caps.maxLength → r.roll + s.takes.caps.maxLength + s.takes.caps.postRoll ≤ s.ring.p →
         ∃ (t : State) (q : TakeRecord) (ended : Nat), exec .limitCut s = .next t ∧ t.takes.state = .stopped
           ∧ t.record? r.id = some q ∧ q.state ≠ .opened ∧ q.cut = some (r.roll + s.takes.caps.maxLength)
           ∧ q.cutCause = some .limit ∧ q.limited = true ∧ q.endPos = some ended
           ∧ ended = r.endRaised (r.roll + s.takes.caps.maxLength + s.takes.caps.postRoll)
           ∧ q.windowEnd = some (ended + s.takes.caps.window)
           ∧ (NoticeRoom s → s.link.notices ++ [{ seq := s.link.nextSeq
                                                  notice := .clos r.id (some .limit) (some (r.roll + s.takes.caps.maxLength))
                                                    ended (ended + s.takes.caps.window) r.tailShortened true
                                                    r.events.length r.eventsLost }] <+: t.link.notices)
           ∧ OthersMovedOn s t r.id ∧ ListSwept s t
           ∧ (∀ d : Drain, (s.drain d).inFlight = none → t.drain d = s.drain d)
           ∧ t = { s with link := t.link, takes := t.takes, delivery := t.delivery }))
  ∧ (∀ (s : State) (r : TakeRecord) (e : Nat), s.openRecord? = some r → s.record? r.id = some r →
       s.takes.state = .tail → r.endTarget = some e →
       (s.ring.p < e → exec .tailEnd s = .next s)
       ∧ (e ≤ s.ring.p → ∃ (t : State) (q : TakeRecord) (ended : Nat), exec .tailEnd s = .next t
           ∧ t.takes.state = .stopped ∧ t.record? r.id = some q ∧ q.state ≠ .opened
           ∧ ended = r.endRaised e
           ∧ q.endPos = some ended ∧ q.windowEnd = some (ended + s.takes.caps.window) ∧ q.endTarget = none
           ∧ q.cut = r.cut ∧ q.slate = r.slate ∧ q.events = r.events
           ∧ (NoticeRoom s → s.link.notices ++ [{ seq := s.link.nextSeq
                                                  notice := .clos r.id r.cutCause r.cut ended
                                                    (ended + s.takes.caps.window) r.tailShortened r.limited
                                                    r.events.length r.eventsLost }] <+: t.link.notices)
           ∧ (∀ d : Drain, (s.drain d).inFlight = none →
               ((r.sections.get d).owing = true → q.sections.get d = { r.sections.get d with
                 state := (q.sections.get d).state, owing := false
                 abandoned := (r.sections.get d).abandoned + (ended - (r.sections.get d).confirmed) })
               ∧ ((r.sections.get d).owing = false →
                   q.sections.get d = { r.sections.get d with state := (q.sections.get d).state })
               ∧ ((r.sections.get d).live = false → (q.sections.get d).state = (r.sections.get d).state)
               ∧ ((r.sections.get d).live = true →
                   if (r.sections.get d).formation = ended then (q.sections.get d).state = .done
                   else (q.sections.get d).live = true))
           ∧ OthersMovedOn s t r.id ∧ ListSwept s t
           ∧ (∀ d : Drain, (s.drain d).inFlight = none → t.drain d = s.drain d)
           ∧ t = { s with link := t.link, takes := t.takes, delivery := t.delivery }))

/-- After WINDOW_END no record is left that is CLOSED, outside the delivery list and past its window end: each has become
FINAL (R91), and FINL is queued with the header of each, in table order, here with room for all and no id twice in the table;
the rest of the machine keeps its state. -/
def Obligations.WindowEndMakesRecordsFinal : Prop :=
  ∀ s : State, ∃ t, exec .windowEnd s = .next t
    ∧ (∀ id r, s.record? id = some r → r.state = .closed → id ∉ s.delivery.list →
        (∃ w, r.windowEnd = some w ∧ w ≤ s.ring.p) → ∃ q, t.record? id = some q ∧ q.state = .final)
    ∧ (∀ id r, s.record? id = some r → (r.state ≠ .closed ∨ id ∈ s.delivery.list
        ∨ ∀ w, r.windowEnd = some w → s.ring.p < w) → t.record? id = some r)
    ∧ (∀ due : List TakeRecord, due = s.takes.table.filter (fun r => decide (r.state = .closed ∧ r.id ∉ s.delivery.list
          ∧ (r.windowEnd.map fun w => decide (w ≤ s.ring.p)) = some true)) →
        (s.takes.table.map fun r => r.id).Nodup → s.link.notices.length + due.length ≤ 32 →
        t.link = (due.map fun r => Notice.finl r.id r.header).foldl noticed s.link)
    ∧ t.delivery.list = s.delivery.list ∧ t = { s with link := t.link, takes := t.takes, delivery := t.delivery }

/-- A mark whose count a frame boundary has entered fires at that position, the start mark first (R100): it is disarmed, its
roll or cut is taken with the cause MARK, and MRKE FIRED carries the outcome after whatever that queues (R102): ALREADY
ROLLING (R79), NOT ARMED after REFU (R81), and TAKEN with the take opened for the start mark (R78, R80); NOT ROLLING (R84),
and TAKEN with the take cut for the stop mark (R83). A cut into TAIL leaves every other record as it is; a close reaches the
others by the sweep of the list alone, and a roll in STOPPED, with room in the table and the list, by a drain moving on
(R109, R111). The model's choices: the marks entered are held in the model's own field `markDue` until MARK_FIRED (log entry
13), and with none entered the row changes nothing (log entry 1). -/
def Obligations.MarkFiredDisarmsAndReports : Prop :=
  (∀ s : State,
     (s.takes.markDue = none → exec .markFired s = .next s)
     ∧ (∀ (due : MarkDue) (u : State) (fires : MarkName → Prop), s.takes.markDue = some due →
         u = { s with takes := { s.takes with markDue := none } } →
         (∀ m, fires m ↔ (match m with | .start => due.start | .stop => due.stop) = true
           ∧ (s.mark m).armed = true ∧ (s.mark m).count = due.count) →
         (¬fires .start → ¬fires .stop → exec .markFired s = .next u)
         ∧ (∀ m other, other ≠ m → fires m → ¬fires other →
             exec .markFired s = .next (u.fireMark m due.pos due.count due.count))
         ∧ (fires .start → fires .stop → exec .markFired s =
             .next ((u.fireMark .start due.pos due.count due.count).fireMark .stop due.pos due.count due.count))))
  ∧ (∀ (s : State) (pos c1 c2 : Nat) (mrke : MarkOutcome → Nat → Notice) (disarmed : TakeCtl),
     (∀ outcome id, mrke outcome id = .mrke .start true s.takes.startMark.count
       (labelOf s.timeline.rate s.takes.startMark.count) pos c1 c2 (some outcome) id) →
     disarmed = { s.takes with startMark := { s.takes.startMark with armed := false } } →
     (s.takes.state = .rolling → NoticeRoom s → s.fireMark .start pos c1 c2 =
         { s with takes := disarmed, link := noticed s.link (mrke .alreadyRolling s.openId) })
     ∧ (s.takes.state ≠ .rolling → s.router.armed = 0 → s.link.notices.length + 2 ≤ 32 →
         s.fireMark .start pos c1 c2 = { s with
           takes := disarmed
           link := noticed (noticed s.link (.refu .mark (min pos s.ring.p))) (mrke .notArmed 0) })
     ∧ (s.takes.state ≠ .rolling → s.router.armed ≠ 0 →
         ∃ (t : State) (q : TakeRecord), s.fireMark .start pos c1 c2 = t ∧ t.takes.state = .rolling
           ∧ t.takes.startMark = { s.takes.startMark with armed := false } ∧ t.takes.stopMark = s.takes.stopMark
           ∧ t.takes.table.getLast? = some q ∧ q.id = s.takes.nextId ∧ q.state = .opened
           ∧ q.roll = min pos s.ring.p ∧ q.rollCause = .mark ∧ q.mask = s.router.armed
           ∧ q.start = startOf (min pos s.ring.p) s.takes.caps.preRoll (s.ring.p - 2097152)
           ∧ (s.takes.state = .stopped → s.takes.table.length < 16 → s.delivery.list.length < 4 →
               s.link.notices.length + 2 ≤ 32 → t.link = noticed (noticed s.link
                 (.opening q.id .mark q.start q.roll q.reading.label q.reading.rate q.mask q.slate.scene q.slate.number
                   q.slate.numbering ((s.drain .a).settings.enabled || (s.drain .b).settings.enabled)))
                 (mrke .taken q.id))
           ∧ (s.takes.state = .stopped → s.takes.table.length < 16 → s.delivery.list.length < 4 →
               s.takes.nextId ∉ s.delivery.list → (∀ x ∈ s.takes.table, x.id ≠ s.takes.nextId) →
               ∀ p, s.record? p.id = some p → t.record? p.id = some (p.movedOn t))
           ∧ t = { s with link := t.link, takes := t.takes, delivery := t.delivery, binding := t.binding }))
  ∧ (∀ (s : State) (pos c1 c2 : Nat) (mrke : MarkOutcome → Nat → Notice) (disarmed : TakeCtl),
     (∀ outcome id, mrke outcome id = .mrke .stop true s.takes.stopMark.count
       (labelOf s.timeline.rate s.takes.stopMark.count) pos c1 c2 (some outcome) id) →
     disarmed = { s.takes with stopMark := { s.takes.stopMark with armed := false } } →
     (s.takes.state ≠ .rolling → NoticeRoom s → s.fireMark .stop pos c1 c2 =
         { s with takes := disarmed, link := noticed s.link (mrke .notRolling 0) })
     ∧ (∀ (r : TakeRecord) (c : Nat), s.takes.state = .rolling → s.openRecord? = some r → s.record? r.id = some r →
         c = max (min pos s.ring.p) r.roll →
         (s.ring.p < c + s.takes.caps.postRoll → ∃ t, s.fireMark .stop pos c1 c2 = t
           ∧ t.record? r.id = some { r with
               cut := some c, cutCause := some .mark, endTarget := some (c + s.takes.caps.postRoll) }
           ∧ (∀ id, id ≠ r.id → t.record? id = s.record? id)
           ∧ (NoticeRoom s → t.link = noticed s.link (mrke .taken r.id))
           ∧ t = { s with
               link := t.link, takes := { disarmed with state := .tail, table := t.takes.table } })
         ∧ (c + s.takes.caps.postRoll ≤ s.ring.p → ∃ (t : State) (q : TakeRecord) (ended : Nat),
             s.fireMark .stop pos c1 c2 = t ∧ t.takes.state = .stopped ∧ t.record? r.id = some q
             ∧ q.state ≠ .opened ∧ q.cut = some c ∧ q.cutCause = some .mark ∧ q.endPos = some ended
             ∧ c + s.takes.caps.postRoll ≤ ended
             ∧ t.takes.stopMark = { s.takes.stopMark with armed := false }
             ∧ OthersMovedOn s t r.id ∧ ListSwept s t
             ∧ (∀ d : Drain, (s.drain d).inFlight = none → t.drain d = s.drain d)
             ∧ t = { s with link := t.link, takes := t.takes, delivery := t.delivery })))

/-- A confirmed edge updates its line, hands its request at the back-dated position with the cause of the line, and keeps
the outcome (R105, R107). For either line, the other having no edge confirmed: without a request the line alone changes; a
roll, and a toggle outside ROLLING, opens a take in STOPPED and TAIL (R78, R80), is NOT ARMED with REFU where no track is
armed (R81), and has the outcome ALREADY ROLLING in ROLLING (R79); a LEVEL cut, and a toggle in ROLLING, cuts the take or
closes it at once (R83), and a LEVEL cut has the outcome NOT ROLLING outside ROLLING (R84) and HELD while the other line is
in LEVEL mode and asserted, when nothing else changes (R83, R106). A cut into TAIL leaves every other record as it is; a
close reaches the others by the sweep of the list alone, and a roll in STOPPED, with room in the table and the list, by a
drain moving on (R109, R111). With both lines confirmed both filters are brought up to date first and line 1's request is
handed before line 2's: two rolls open line 1's take, and a LEVEL cut of line 1 is HELD by the edge that asserts line 2
(R105, R106). The model's choices: the edge and its request wait in the model's own field `confirmed` until EDGE_CONFIRMED
(log entry 12), and with no edge confirmed the row changes nothing (log entry 1). -/
def Obligations.ConfirmedEdgesAreActedOn : Prop :=
  (∀ s : State, s.triggers.line1.confirmed = none → s.triggers.line2.confirmed = none → exec .edgeConfirmed s = .next s)
  ∧ (∀ (s : State) (n : Line) (c : ConfirmedEdge) (cause : Cause) (pos : Nat) (rolls cuts : Prop)
       (after : Option LineOutcome → Triggers),
     (s.triggers.get n).confirmed = some c → (∀ o, o ≠ n → (s.triggers.get o).confirmed = none) →
     cause = (match n with | .one => .trigger1 | .two => .trigger2) → pos = min c.first s.ring.p →
     (rolls ↔ c.request = some .roll ∨ (c.request = some .toggle ∧ s.takes.state ≠ .rolling)) →
     (cuts ↔ c.request = some .levelCut ∨ (c.request = some .toggle ∧ s.takes.state = .rolling)) →
     (∀ outcome, (after outcome).get n = { s.triggers.get n with
         level := some c.level, pending := none, lastEdge := some (c.first, c.direction)
         edgeCount := ((s.triggers.get n).edgeCount + 1) % 65536, lastOutcome := outcome, confirmed := none }
       ∧ ∀ o, o ≠ n → (after outcome).get o = s.triggers.get o) →
     (c.request = none → exec .edgeConfirmed s = .next { s with triggers := after (s.triggers.get n).lastOutcome })
     ∧ (rolls → s.takes.state = .rolling →
         exec .edgeConfirmed s = .next { s with triggers := after (some .alreadyRolling) })
     ∧ (rolls → s.takes.state ≠ .rolling → s.router.armed = 0 → NoticeRoom s → exec .edgeConfirmed s = .next { s with
         triggers := after (some .notArmed), link := noticed s.link (.refu cause pos) })
     ∧ (rolls → s.takes.state ≠ .rolling → s.router.armed ≠ 0 →
         ∃ (t : State) (q : TakeRecord), exec .edgeConfirmed s = .next t ∧ t.takes.state = .rolling
           ∧ t.takes.table.getLast? = some q ∧ q.id = s.takes.nextId ∧ q.state = .opened ∧ q.roll = pos
           ∧ q.rollCause = cause ∧ q.mask = s.router.armed
           ∧ q.start = startOf pos s.takes.caps.preRoll (s.ring.p - 2097152)
           ∧ t.triggers = after (some (.taken q.id))
           ∧ (s.takes.state = .stopped → s.takes.table.length < 16 → s.delivery.list.length < 4 →
               s.takes.nextId ∉ s.delivery.list → (∀ x ∈ s.takes.table, x.id ≠ s.takes.nextId) →
               ∀ p, s.record? p.id = some p → t.record? p.id = some (p.movedOn t))
           ∧ t = { s with link := t.link, takes := t.takes, delivery := t.delivery, binding := t.binding
                          triggers := t.triggers })
     ∧ (cuts → s.takes.state ≠ .rolling →
         exec .edgeConfirmed s = .next { s with triggers := after (some .notRolling) })
     ∧ (∀ (r : TakeRecord) (held : Prop) (cut : Nat), cuts → s.takes.state = .rolling → s.openRecord? = some r →
         s.record? r.id = some r → cut = max pos r.roll →
         (held ↔ c.request = some .levelCut ∧ ∃ o, o ≠ n ∧ (s.triggers.get o).mode = .level
           ∧ (s.triggers.get o).level = some (!(s.triggers.get o).assertedLow)) →
         (held → exec .edgeConfirmed s = .next { s with triggers := after (some .held) })
         ∧ (¬held → s.ring.p < cut + s.takes.caps.postRoll → ∃ t, exec .edgeConfirmed s = .next t
             ∧ t.record? r.id = some { r with
                 cut := some cut, cutCause := some cause, endTarget := some (cut + s.takes.caps.postRoll) }
             ∧ (∀ id, id ≠ r.id → t.record? id = s.record? id)
             ∧ t = { s with triggers := after (some (.taken r.id))
                            takes := { s.takes with state := .tail, table := t.takes.table } })
         ∧ (¬held → cut + s.takes.caps.postRoll ≤ s.ring.p → ∃ (t : State) (q : TakeRecord),
             exec .edgeConfirmed s = .next t ∧ t.takes.state = .stopped ∧ t.record? r.id = some q ∧ q.state ≠ .opened
             ∧ q.cut = some cut ∧ q.cutCause = some cause
             ∧ q.endPos = some (r.endRaised (cut + s.takes.caps.postRoll))
             ∧ t.triggers = after (some (.taken r.id))
             ∧ OthersMovedOn s t r.id ∧ ListSwept s t
             ∧ (∀ d : Drain, (s.drain d).inFlight = none → t.drain d = s.drain d)
             ∧ t = { s with link := t.link, takes := t.takes, delivery := t.delivery, triggers := t.triggers })))
  ∧ (∀ (s : State) (c1 c2 : ConfirmedEdge), s.triggers.line1.confirmed = some c1 →
       s.triggers.line2.confirmed = some c2 → c2.request = some .roll →
       (c1.request = some .roll → s.takes.state ≠ .rolling → s.router.armed ≠ 0 →
         ∃ (t : State) (q : TakeRecord), exec .edgeConfirmed s = .next t ∧ t.takes.table.getLast? = some q
           ∧ q.id = s.takes.nextId ∧ q.rollCause = .trigger1 ∧ q.roll = min c1.first s.ring.p
           ∧ t.triggers.line1.lastOutcome = some (.taken q.id) ∧ t.triggers.line2.lastOutcome = some .alreadyRolling)
       ∧ (∀ r, c1.request = some .levelCut → s.takes.state = .rolling → s.openRecord? = some r →
           s.triggers.line2.mode = .level → c2.level = (!s.triggers.line2.assertedLow) →
           ∃ t, exec .edgeConfirmed s = .next t ∧ t = { s with triggers := t.triggers }
             ∧ t.triggers.line1.lastOutcome = some .held ∧ t.triggers.line2.lastOutcome = some .alreadyRolling))
  ∧ (∀ (s : State) (cause : Cause) (p : Nat) (r : TakeRecord), s.takes.state = .rolling → s.openRecord? = some r →
         (s.triggers.line2.mode = .level → s.triggers.line2.level = some (!s.triggers.line2.assertedLow) →
           s.cutReq cause p (some .one) = (s, .held))
         ∧ (s.triggers.line1.mode = .level → s.triggers.line1.level = some (!s.triggers.line1.assertedLow) →
           s.cutReq cause p (some .two) = (s, .held)))

/-- CAPS set clamps and stores the five settings, in sample periods; in STOPPED and TAIL nothing else changes (R67, R68,
R85). In ROLLING a maximum length that is then reached cuts the take at once at roll + M with the cause LIMIT, under the new
post-roll, and the take closes at once where the end target is passed (R68, R83, R85); every other record stays as it is,
but for the sweep of the list at a close (R109, R111). MARK set arms a mark at the label's frame count, or is refused with
LABEL; MARK clear disarms it and keeps its count (R98, R99); both leave a mark that waits in the model's own field
`markDue`, which is the model's choice (log entry 13). TRIG set stores a line's mode, polarity and clamped filter, and keeps
its runtime state (R108); with it, by the model's choice, an edge that waits in its own field `confirmed` keeps the request
that the old mode gave it (log entry 12). -/
def Obligations.CaptureMarkAndTriggerSettingsAreStored : Prop :=
  (∀ (s : State) (tag : BitVec 8) (f : CaptureFields) (x : Captures), HasRoom s → s.takes.state ≠ .rolling →
       x = { preRoll := min f.preRoll.toNat 10000 * 48, postRoll := min f.postRoll.toNat 10000 * 48
             maxLength := min f.maxLength.toNat 240 * 2880000, window := min f.window.toNat 120 * 48000
             grace := min f.grace.toNat 60 * 48000 } →
       exec (.capsSet tag f) s = .next { s with
         link := answered s.link tag .caps .ok (.caps x), takes := { s.takes with caps := x } })
  ∧ (∀ (s : State) (tag : BitVec 8) (f : CaptureFields) (x : Captures) (r : TakeRecord) (c : Nat), HasRoom s →
       s.takes.state = .rolling → s.openRecord? = some r → s.record? r.id = some r → c = r.roll + x.maxLength →
       x = { preRoll := min f.preRoll.toNat 10000 * 48, postRoll := min f.postRoll.toNat 10000 * 48
             maxLength := min f.maxLength.toNat 240 * 2880000, window := min f.window.toNat 120 * 48000
             grace := min f.grace.toNat 60 * 48000 } →
       (x.maxLength = 0 ∨ s.ring.p < c → exec (.capsSet tag f) s = .next { s with
         link := answered s.link tag .caps .ok (.caps x), takes := { s.takes with caps := x } })
       ∧ (0 < x.maxLength → c ≤ s.ring.p → s.ring.p < c + x.postRoll →
         ∃ t, exec (.capsSet tag f) s = .next t
           ∧ t.record? r.id = some { r with
               cut := some c, cutCause := some .limit, limited := true, endTarget := some (c + x.postRoll) }
           ∧ (∀ id, id ≠ r.id → t.record? id = s.record? id)
           ∧ t = { s with
               link := answered s.link tag .caps .ok (.caps x)
               takes := { s.takes with caps := x, state := .tail, table := t.takes.table } })
       ∧ (0 < x.maxLength → c + x.postRoll ≤ s.ring.p →
         ∃ (t : State) (q : TakeRecord) (ended : Nat), exec (.capsSet tag f) s = .next t ∧ t.takes.state = .stopped
           ∧ t.takes.caps = x ∧ t.record? r.id = some q ∧ q.state ≠ .opened ∧ q.cut = some c
           ∧ q.cutCause = some .limit ∧ q.limited = true ∧ q.endPos = some ended ∧ c + x.postRoll ≤ ended
           ∧ q.windowEnd = some (ended + x.window)
           ∧ t.link.replies = s.link.replies ++ [{ tag := tag, kind := ReqKind.caps.word, status := .ok
                                                   result := .caps x }]
           ∧ OthersMovedOn s t r.id ∧ ListSwept s t
           ∧ (∀ d : Drain, (s.drain d).inFlight = none → t.drain d = s.drain d)
           ∧ t = { s with link := t.link, takes := t.takes, delivery := t.delivery }))
  ∧ (∀ (s : State) (tag : BitVec 8) (l : Label) (m : MarkName) (n : BitVec 8), HasRoom s →
         n = (match m with | .start => 0 | .stop => 1) →
         (validLabel s.timeline.rate l = false → exec (.markSet tag n l) s = .next (replied s tag .mark .label .none))
         ∧ (validLabel s.timeline.rate l = true → ∃ t, exec (.markSet tag n l) s = .next t
             ∧ t = { s with
                 link := answered s.link tag .mark .ok (.mark (t.markReport .start) (t.markReport .stop))
                 takes := match m with
                   | .start => { s.takes with startMark := { armed := true, count := labelCount s.timeline.rate l } }
                   | .stop => { s.takes with stopMark := { armed := true, count := labelCount s.timeline.rate l } } })
         ∧ (∃ t, exec (.markClear tag n) s = .next t
             ∧ t = { s with
                 link := answered s.link tag .mark .ok (.mark (t.markReport .start) (t.markReport .stop))
                 takes := match m with
                   | .start => { s.takes with startMark := { s.takes.startMark with armed := false } }
                   | .stop => { s.takes with stopMark := { s.takes.stopMark with armed := false } } }))
  ∧ (∀ (s : State) (tag mc pc : BitVec 8) (g : BitVec 16) (n : Line) (m : TrigMode) (low : Bool) (x : TrigLine),
         HasRoom s → trigModeOf mc = some m → flagOf pc = some low →
         x = { s.triggers.get n with mode := m, assertedLow := low, filter := min g.toNat 4800 } →
         exec (.trigSet tag (match n with | .one => 1 | .two => 2) mc pc g) s = .next { s with
           link := answered s.link tag .trig .ok (.trig x)
           triggers := match n with
             | .one => { s.triggers with line1 := x }
             | .two => { s.triggers with line2 := x } })

/-! ## Delivery -/

/-- The sample read answers with the groups of the positions of the run that lie from O to P - 1, in position order, and
reports the run short where it reaches outside (R61). A drain that is enabled, up, not held and without a block in flight
forms a block of its current take when one is available and retained: B sample periods of an open take, and of a closed take
B or the remainder before its end (R116, R117). The cursor and the sequence move on, gap pending, the gap episode and the
stall clear, and the block carries LAST if it ends at the end of a closed take and AFTER GAP if gap pending was set, with
the samples of its positions and tracks as payload (R117 to R120). A drain that is disabled, down or held, or has a block in
flight or no current take, forms no block (R116, R123), nor does one whose current take has fewer than B sample periods
while it is open (R117), or whose read the ring reports short (R61): the section keeps its cursors and its sequence. That
FORM_BLOCK then changes nothing, but for the sweep of the list where the port would allow a block, is the model's choice
(log entry 1). With no command waiting the step forms a block exactly where the model's `nextBlock` gives one, which each
clause says (IdleStepRunsWhatIsDueOrTicks). A closed take with nothing left to form, and no block in flight, becomes DONE on
the drain, and leaves the list unless the other drain still delivers it (R109, R117). -/
def Obligations.FormBlockSendsABlock : Prop :=
  (∀ (ring : Ring) (a n : Nat) (mask : TrackSet) (group : Nat → List Sample),
     (∀ p, group p = (tracksOf mask).map fun t => (ring.samplesAt p)[t]) →
     (ring.read a n mask).groups = ((List.range n).filter fun i =>
         decide (ring.p - 2097152 ≤ a + i ∧ a + i < ring.p)).map (fun i => group (a + i))
     ∧ ((ring.read a n mask).short = true ↔ 0 < n ∧ (a < ring.p - 2097152 ∨ ring.p < a + n)))
  ∧ (∀ (s : State) (d : Drain),
     (s.drain d).settings.enabled = false ∨ (s.drain d).linkUp = false ∨ (s.drain d).hold = true
       ∨ (s.drain d).inFlight ≠ none ∨ s.currentTake d = none →
     s.nextBlock d = none ∧ exec (.formBlock d) s = .next s)
  ∧ ∀ (s : State) (d : Drain) (id : Nat) (r : TakeRecord) (x : Section), s.currentTake d = some id →
    s.record? id = some r → x = r.sections.get d → (s.drain d).settings.enabled = true → (s.drain d).linkUp = true →
    (s.drain d).hold = false → (s.drain d).inFlight = none →
    (∀ n : Nat, n = (match r.endPos with
        | none => (s.drain d).settings.blockLength
        | some e => min (e - x.formation) (s.drain d).settings.blockLength) → 0 < n →
      x.formation + n ≤ s.ring.p → s.ring.p - 2097152 ≤ x.formation →
      (s.nextBlock d).isSome = true
      ∧ ∃ (t : State) (q : TakeRecord) (b : Block), exec (.formBlock d) s = .next t
        ∧ (t.drain d).inFlight = some b ∧ b.settled = false ∧ b.first = x.formation
        ∧ b.header = { takeId := id, seq := x.nextSeq, offset := x.formation - r.start, count := n, mask := r.mask
                       wordSize := (s.drain d).settings.wordSize, highFirst := (s.drain d).settings.highFirst
                       last := decide (r.endPos = some (x.formation + n)), afterGap := x.gapPending }
        ∧ b.payload = payloadBytes (s.drain d).settings.wordSize (s.drain d).settings.highFirst
            ((List.range n).map fun i => (tracksOf r.mask).map fun t => (s.ring.samplesAt (x.formation + i))[t])
        ∧ t.record? id = some q
        ∧ q.sections.get d = { x with
            formation := x.formation + n, nextSeq := (x.nextSeq + 1) % 4294967296, gapPending := false }
        ∧ q = { r with sections := q.sections } ∧ (∀ o : Drain, o ≠ d → q.sections.get o = r.sections.get o)
        ∧ (∀ other, other ≠ id → t.record? other = s.record? other)
        ∧ t.drain d = { s.drain d with gapEpisode := false, stalled := false, inFlight := some b }
        ∧ (∀ o : Drain, o ≠ d → t.drain o = s.drain o) ∧ t.delivery.list = s.delivery.list
        ∧ ((∀ o : Drain, o ≠ d → (s.drain o).stalled = false) → (s.drain d).stalled = true →
            t.link.conds.drainStalled = false)
        ∧ t = { s with link := t.link, takes := t.takes, delivery := t.delivery })
    ∧ (∀ n : Nat, n = (match r.endPos with
        | none => (s.drain d).settings.blockLength
        | some e => min (e - x.formation) (s.drain d).settings.blockLength) → 0 < n →
      s.ring.p < x.formation + n ∨ x.formation < s.ring.p - 2097152 →
      s.nextBlock d = none
      ∧ ∃ t : State, exec (.formBlock d) s = .next t ∧ t.drain d = s.drain d ∧ t.record? id = some (r.movedOn t)
        ∧ (∀ o : Drain, o ≠ d → (s.drain o).inFlight = none → t.drain o = s.drain o)
        ∧ OthersMovedOn s t id ∧ ListSwept s t
        ∧ t = { s with link := t.link, takes := t.takes, delivery := t.delivery })
    ∧ (r.state = .opened → r.endPos = none → s.ring.p < x.formation + (s.drain d).settings.blockLength →
      ∃ (t : State) (q : TakeRecord), exec (.formBlock d) s = .next t ∧ t.drain d = s.drain d
        ∧ t.record? id = some q ∧ (q.sections.get d).formation = x.formation
        ∧ (q.sections.get d).nextSeq = x.nextSeq ∧ (q.sections.get d).live = true)
    ∧ (r.state ≠ .opened → r.endPos = some x.formation →
      s.nextBlock d = none
      ∧ ∃ (t : State) (q : TakeRecord), exec (.formBlock d) s = .next t ∧ t.drain d = s.drain d
        ∧ t.record? id = some q ∧ q.sections.get d = { x with state := .done }
        ∧ ((∀ o : Drain, o ≠ d → (r.sections.get o).live = false) → id ∉ t.delivery.list)
        ∧ ((∃ o : Drain, o ≠ d ∧ (r.sections.get o).live = true) → id ∈ t.delivery.list)
        ∧ t = { s with link := t.link, takes := t.takes, delivery := t.delivery })

/-- The bytes of one sample in a block's payload: at word size 24 the stored value unchanged, at word size 16
floor((x + 128) / 256), at most 32,767 (R119), in two's complement, the least or the most significant byte first by the
byte order (R120). -/
def Obligations.SampleBytesCarryTheSample : Prop :=
  ∀ x : Sample,
    sampleBytes .w24 false x = [x.extractLsb' 0 8, x.extractLsb' 8 8, x.extractLsb' 16 8]
    ∧ sampleBytes .w24 true x = [x.extractLsb' 16 8, x.extractLsb' 8 8, x.extractLsb' 0 8]
    ∧ (∃ y : BitVec 16, y.toInt = min ((x.toInt + 128) / 256) 32767
        ∧ sampleBytes .w16 false x = [y.extractLsb' 0 8, y.extractLsb' 8 8]
        ∧ sampleBytes .w16 true x = [y.extractLsb' 8 8, y.extractLsb' 0 8])

/-- A completion counts an unsettled block in its section: the confirmed cursor rises to the formation cursor, delivered
grows by the count, and the block in flight is cleared; a section of a closed take with nothing left to form is then DONE,
and any other keeps its state, but for the drain moving on to it (R111, R117). The list is swept, which alone reaches the
take's other section and the other records (R91, R109, R111). A settled block, and one whose record has left the table, is
counted in the drain's late counts, and nothing else changes but that it is no longer in flight; with none in flight nothing
changes (R121). -/
def Obligations.CompletionCountsTheBlock : Prop :=
  ∀ (s : State) (d : Drain),
    ((s.drain d).inFlight = none → exec (.completion d) s = .next s)
    ∧ (∀ b r, (s.drain d).inFlight = some b → b.settled = false → s.record? b.header.takeId = some r →
        ∃ (t : State) (q : TakeRecord), exec (.completion d) s = .next t ∧ (t.drain d).inFlight = none
          ∧ t.drain d = { s.drain d with inFlight := none }
          ∧ t.record? b.header.takeId = some q ∧ q = { r with state := q.state, sections := q.sections }
          ∧ q.sections.get d = { r.sections.get d with
              confirmed := (r.sections.get d).formation, delivered := (r.sections.get d).delivered + b.header.count
              state := (q.sections.get d).state }
          ∧ ((r.sections.get d).live = true → r.state ≠ .opened → r.endPos = some (r.sections.get d).formation →
              (q.sections.get d).state = .done)
          ∧ ((r.sections.get d).live = false ∨ r.state = .opened ∨ r.endPos ≠ some (r.sections.get d).formation →
              (q.sections.get d).state = ((r.movedOn t).sections.get d).state)
          ∧ (∀ e : Drain, e ≠ d → (r.sections.get e).live = true ∨ (s.drain e).inFlight = none →
              q.sections.get e = (r.movedOn t).sections.get e)
          ∧ (∀ e : Drain, e ≠ d → (s.drain e).inFlight = none → t.drain e = s.drain e)
          ∧ OthersMovedOn s t r.id ∧ ListSwept s t
          ∧ t = { s with link := t.link, takes := t.takes, delivery := t.delivery })
    ∧ (∀ b, (s.drain d).inFlight = some b → (b.settled = true ∨ s.record? b.header.takeId = none) →
        ∃ t, exec (.completion d) s = .next t
          ∧ t.drain d = { s.drain d with
              inFlight := none
              lateCompletions := if (s.drain d).lateCompletions < 65535 then (s.drain d).lateCompletions + 1
                else (s.drain d).lateCompletions
              lateSamples := min ((s.drain d).lateSamples + b.header.count) 4294967295 }
          ∧ (∀ o : Drain, o ≠ d → t.drain o = s.drain o) ∧ t.delivery.list = s.delivery.list
          ∧ t = { s with delivery := t.delivery })

/-- HOLD, GO and link-up change one drain's flags and timer alone, and HOLD and GO are ignored while the drain is
disabled (R123, R124); with the link down they are taken all the same, which is the model's choice (log entry 20). The
hold/down timer at the hold timeout stalls an enabled drain that is held or down: the stalled flag and DRAIN STALLED are set
and DRNE STALLED is queued, once (R125, R131), with the reason LINK DOWN where both hold, which is the model's choice (log
entry 20). The model's choices: STALLED is taken at any count of the timer, which then stands at the timeout (log entry 4),
and a drain whose timer does not run is left as it is (log entry 1). -/
def Obligations.PortEventsChangeTheDrain : Prop :=
  (∀ (s : State) (d : Drain),
       ((s.drain d).settings.enabled = false ∨ (s.drain d).hold = true → exec (.hold d) s = .next s)
       ∧ ((s.drain d).settings.enabled = true → (s.drain d).hold = false → ∃ t, exec (.hold d) s = .next t
           ∧ t = { s with delivery := t.delivery } ∧ t.drain (match d with | .a => .b | .b => .a) =
               s.drain (match d with | .a => .b | .b => .a) ∧ t.delivery.list = s.delivery.list
           ∧ t.drain d = { s.drain d with
               hold := true
               timer := if (s.drain d).linkUp = true then { count := 0, frac := 0 } else (s.drain d).timer })
       ∧ ((s.drain d).settings.enabled = false ∨ (s.drain d).hold = false → exec (.go d) s = .next s)
       ∧ ((s.drain d).settings.enabled = true → (s.drain d).hold = true → ∃ t, exec (.go d) s = .next t
           ∧ t = { s with delivery := t.delivery } ∧ t.drain (match d with | .a => .b | .b => .a) =
               s.drain (match d with | .a => .b | .b => .a) ∧ t.delivery.list = s.delivery.list
           ∧ t.drain d = { s.drain d with
               hold := false
               timer := if (s.drain d).linkUp = true then { count := 0, frac := 0 } else (s.drain d).timer })
       ∧ ((s.drain d).linkUp = false → ∃ t, exec (.linkUp d) s = .next t
           ∧ t = { s with delivery := t.delivery } ∧ t.drain (match d with | .a => .b | .b => .a) =
               s.drain (match d with | .a => .b | .b => .a) ∧ t.delivery.list = s.delivery.list
           ∧ t.drain d = { s.drain d with linkUp := true, hold := false, timer := { count := 0, frac := 0 } }))
  ∧ (∀ (s : State) (d : Drain),
         ((s.drain d).settings.enabled = false ∨ ((s.drain d).hold = false ∧ (s.drain d).linkUp = true) →
           exec (.stalled d) s = .next s)
         ∧ ((s.drain d).settings.enabled = true → ((s.drain d).hold = true ∨ (s.drain d).linkUp = false) →
             ∃ t, exec (.stalled d) s = .next t
               ∧ t.drain d = { s.drain d with
                   stalled := true, timer := { count := (s.drain d).settings.holdTimeout * 1000, frac := 0 } }
               ∧ (∀ x : Drain, x ≠ d → t.drain x = s.drain x) ∧ t.delivery.list = s.delivery.list
               ∧ ((s.drain d).stalled = true → t.link = s.link)
               ∧ ((s.drain d).stalled = false → NoticeRoom s → t.link = { noticed s.link
                   (.drne d .stalled ((s.currentTake d).getD 0) s.ring.p 0
                     (if (s.drain d).linkUp = true then .held else .linkDown) (s.drain d).settings.holdTimeout) with
                   conds := { s.link.conds with drainStalled := true } })
               ∧ t = { s with link := t.link, delivery := t.delivery }))

/-- Gaps. The sections and the list are those of the state in which what the last advance made due has been settled, which
is the model's choice (log entry 2). After the write of an audio frame every section in PENDING or ACTIVE of a listed take
whose formation cursor lies below O, and below the end of a closed take, is pushed up to there: both cursors rise by the
lost run, which joins the gap total and is recorded as a gap at its offset from take start, and gap pending is set (R126,
R128); a section that is not below is left. A run that adjoins the last entry of the gap list, after it or before it, widens
that entry; another takes a new entry while the list holds fewer than 8, and is counted as not listed after that (R127). A
gap sets the drain's gap episode flag; a new episode sets DELIVERY GAP and queues DRNE GAP with the first position lost,
here of the one section pushed (R128, R131). However many sections are pushed, a drain queues one DRNE GAP at most, and none
where its flag is already set or stays clear; DELIVERY GAP is set by a new episode alone, and every other notice of the write
is a FINL. -/
def Obligations.LostRunsAreRecordedAsGaps : Prop :=
  (∀ (s u : State) (slots : Vector (BitVec 32) 16) (l1 l2 : Bool), u = s.settleAdvance → u.delivery.list.Nodup →
     ∃ t, exec (.audioFrame slots l1 l2) s = .next t
       ∧ ∀ (id : Nat) (r : TakeRecord) (d : Drain) (x : Section) (lost : Nat), id ∈ u.delivery.list →
         u.record? id = some r → x = r.sections.get d → x.live = true →
         lost = (match r.endPos with
           | some e => min (t.ring.p - 2097152) e
           | none => t.ring.p - 2097152) - x.formation →
         ∃ q, t.record? id = some q
           ∧ (lost = 0 → q.sections.get d = { x with
               state := (q.sections.get d).state, abandoned := (q.sections.get d).abandoned })
           ∧ (0 < lost →
               q.sections.get d = { (x.recordGap (x.formation - r.start) lost) with
                 formation := x.formation + lost, confirmed := x.confirmed + lost
                 gapTotal := x.gapTotal + lost, gapPending := true
                 state := (q.sections.get d).state, abandoned := (q.sections.get d).abandoned }
               ∧ (t.drain d).gapEpisode = true
               ∧ ((u.drain d).gapEpisode = false → t.link.conds.deliveryGap = true
                   ∧ (NoticeRoom u → u.delivery.list = [id] →
                       (∀ other : Drain, other ≠ d → (r.sections.get other).live = false) →
                       u.link.notices ++ [{ seq := u.link.nextSeq
                                            notice := .drne d .gap id x.formation (x.formation - r.start) .push
                                              (u.drain d).settings.holdTimeout }] <+: t.link.notices))))
  ∧ (∀ (s u t : State) (slots : Vector (BitVec 32) 16) (l1 l2 : Bool), u = s.settleAdvance →
     exec (.audioFrame slots l1 l2) s = .next t →
     (t.link.conds.deliveryGap = true ↔ u.link.conds.deliveryGap = true
       ∨ ∃ d, (u.drain d).gapEpisode = false ∧ (t.drain d).gapEpisode = true)
     ∧ (∀ d, (u.drain d).gapEpisode = true → (t.drain d).gapEpisode = true)
     ∧ ∃ new : List QueuedNotice, t.link.notices = u.link.notices ++ new
         ∧ (∀ d, (new.filter fun n => isGapOf d n.notice).length ≤
             if (u.drain d).gapEpisode = false ∧ (t.drain d).gapEpisode = true then 1 else 0)
         ∧ ∀ n ∈ new, n.notice.noticeKind = .finl ∨ isGapOf .a n.notice = true ∨ isGapOf .b n.notice = true)
  ∧ (∀ (x : Section) (offset length : Nat),
     (x.gaps = [] → x.recordGap offset length = { x with gaps := [{ offset := offset, length := length }] })
     ∧ (∀ (rest : List Gap) (g : Gap), x.gaps = rest ++ [g] →
         (offset = g.offset + g.length → x.recordGap offset length =
           { x with gaps := rest ++ [{ offset := g.offset, length := g.length + length }] })
         ∧ (offset ≠ g.offset + g.length → offset + length = g.offset → x.recordGap offset length =
           { x with gaps := rest ++ [{ offset := offset, length := g.length + length }] })
         ∧ (offset ≠ g.offset + g.length → offset + length ≠ g.offset →
             (x.gaps.length < 8 → x.recordGap offset length =
               { x with gaps := x.gaps ++ [{ offset := offset, length := length }] })
             ∧ (8 ≤ x.gaps.length → x.recordGap offset length =
               { x with notListed := if x.notListed < 65535 then x.notListed + 1 else x.notListed }))))

/-- A link-down without a block in flight changes the drain's flags and timer alone (R124); on a port whose link is down
already this is the model's choice (log entry 20), and so is that a timer which has stopped at the hold timeout in a hold
stays there (log entry 33). With a block in flight it is aborted (R122). While the block is still retained both cursors
return to its first position and no gap is recorded. Where positions of it have left the ring they are lost: the run is
recorded as a gap and the cursors return to the first position still to be formed, or stay where pushes left them; the gap
sets the episode flag, and a new episode sets DELIVERY GAP and queues DRNE GAP with the reason ABORT (R122, R127, R128,
R131). With the flag already set, or nothing lost, DELIVERY GAP stays and every notice queued is a FINL. On a section
abandoned by truncation the formation cursor returns to the confirmed cursor and the count is abandoned. In each of these
the sequence returns to the block's. The list is then swept, which alone reaches the take's other section and the other
records (R91, R109, R111). A settled block is cleared with no count (R122, R130). -/
def Obligations.LinkDownAbortsTheBlock : Prop :=
  ∀ (s : State) (d : Drain),
    ((s.drain d).inFlight = none → ∃ t, exec (.linkDown d) s = .next t ∧ t = { s with delivery := t.delivery }
        ∧ t.delivery.list = s.delivery.list ∧ (∀ x : Drain, x ≠ d → t.drain x = s.drain x)
        ∧ t.drain d = { s.drain d with
            linkUp := false, hold := false
            timer := if (s.drain d).settings.enabled = true ∧ ((s.drain d).hold = true ∨ (s.drain d).linkUp = false)
              then (s.drain d).timer else { count := 0, frac := 0 } })
    ∧ (∀ (b : Block) (r : TakeRecord) (x : Section) (o lost : Nat), (s.drain d).inFlight = some b →
        s.record? b.header.takeId = some r → x = r.sections.get d → o = s.ring.p - 2097152 →
        lost = min (b.first + b.header.count) o - b.first →
        ∃ (t : State) (q : TakeRecord), exec (.linkDown d) s = .next t ∧ t.record? b.header.takeId = some q
          ∧ (∃ episode, t.drain d = { s.drain d with
              linkUp := false, hold := false, inFlight := none, gapEpisode := episode
              timer := if (s.drain d).settings.enabled = true ∧ ((s.drain d).hold = true ∨ (s.drain d).linkUp = false)
                then (s.drain d).timer else { count := 0, frac := 0 } })
          ∧ (b.settled = false → x.live = true → lost = 0 →
              q.sections.get d = { x with
                formation := min x.formation (max b.first o), confirmed := min x.formation (max b.first o)
                nextSeq := b.header.seq, state := (q.sections.get d).state }
              ∧ (t.drain d).gapEpisode = (s.drain d).gapEpisode)
          ∧ (b.settled = false → x.live = true → 0 < lost →
              q.sections.get d = { (x.recordGap (b.first - r.start) lost) with
                gapTotal := x.gapTotal + lost, gapPending := true
                formation := min x.formation (max b.first o), confirmed := min x.formation (max b.first o)
                nextSeq := b.header.seq, state := (q.sections.get d).state }
              ∧ (t.drain d).gapEpisode = true
              ∧ ((s.drain d).gapEpisode = false → t.link.conds.deliveryGap = true
                  ∧ (NoticeRoom s → s.link.notices ++ [{ seq := s.link.nextSeq
                                                         notice := .drne d .gap r.id b.first (b.first - r.start) .abort
                                                           (s.drain d).settings.holdTimeout }] <+: t.link.notices)))
          ∧ ((s.drain d).gapEpisode = true ∨ b.settled = true ∨ x.live = false ∨ lost = 0 →
              (t.drain d).gapEpisode = (s.drain d).gapEpisode
              ∧ t.link.conds.deliveryGap = s.link.conds.deliveryGap
              ∧ ∃ new, t.link.notices = s.link.notices ++ new ∧ ∀ n ∈ new, n.notice.noticeKind = .finl)
          ∧ (b.settled = false → x.live = true → r.state ≠ .opened →
              r.endPos = some (min x.formation (max b.first o)) → (q.sections.get d).state = .done)
          ∧ (b.settled = false → x.state = .abandoned → q.sections.get d = { x with
              formation := x.confirmed, abandoned := x.abandoned + b.header.count, nextSeq := b.header.seq })
          ∧ (b.settled = true → x.live = false → q.sections.get d = x)
          ∧ q = { r with state := q.state, sections := q.sections }
          ∧ (∀ e : Drain, e ≠ d → (r.sections.get e).live = true ∨ (s.drain e).inFlight = none →
              q.sections.get e = (r.movedOn t).sections.get e)
          ∧ (∀ e : Drain, e ≠ d → (s.drain e).inFlight = none → t.drain e = s.drain e)
          ∧ OthersMovedOn s t r.id ∧ ListSwept s t
          ∧ t = { s with link := t.link, takes := t.takes, delivery := t.delivery })
    ∧ (∀ b : Block, (s.drain d).inFlight = some b → s.record? b.header.takeId = none →
        ∃ t, exec (.linkDown d) s = .next t ∧ (t.drain d).inFlight = none ∧ (t.drain d).linkUp = false
          ∧ (t.drain d).lateCompletions = (s.drain d).lateCompletions
          ∧ (t.drain d).lateSamples = (s.drain d).lateSamples ∧ t.delivery.list = s.delivery.list
          ∧ (∀ e : Drain, e ≠ d → t.drain e = s.drain e)
          ∧ t = { s with delivery := t.delivery })

/-- DRAN set stores the settings, the block length clamped to 256 to 8,192 and the hold timeout to 1 to 60; a change of word
size, byte order or block length is refused with BUSY while the drain has a take in PENDING or ACTIVE (R113). An enabled
drain that stays enabled takes the settings; a running timer at or above the new hold timeout stalls it at once (R113,
R125), with the timer then at the timeout, which is the model's choice (log entry 33). Enabling clears the hold and the
timer (R114); a disabled drain that stays disabled takes the settings alone (R113, R115). Disabling aborts the block in
flight, abandons the drain's section of every listed take, counting what lies between the confirmed cursor and the end of a
closed take and leaving the count of an open one to its close, clears the drain's flags and timer, and DRAIN STALLED if no
other drain is stalled, and every take that no drain delivers any longer leaves the list (R115); a record of none of these
keeps its section of the drain, and every record its other section, but for the other drain moving on to it, while that is
still to be delivered or the take is not listed (R111). The sequence of an aborted block returns, which is the model's
choice where R122 names a link-down (log entry 18). What the reply reports, without P, is the model's choice too (log entry
37). -/
def Obligations.DranSetStoresOrIsBusy : Prop :=
  ∀ (s : State) (tag : BitVec 8) (f : DrainFields) (d : Drain) (x : DrainSettings), HasRoom s →
    f.enable = (if x.enabled = true then 1 else 0) → f.wordSize = (match x.wordSize with | .w16 => 16 | .w24 => 24) →
    f.byteOrder = (if x.highFirst = true then 1 else 0) → x.blockLength = max 256 (min f.blockLength.toNat 8192) →
    x.holdTimeout = max 1 (min f.holdTimeout.toNat 60) →
    (¬DranFree s d x →
      exec (.dranSet tag (match d with | .a => 0 | .b => 1) f) s = .next (replied s tag .dran .busy .none))
    ∧ (DranFree s d x → x.enabled = true → (s.drain d).settings.enabled = true →
        ∃ t, exec (.dranSet tag (match d with | .a => 0 | .b => 1) f) s = .next t
          ∧ (∀ e : Drain, e ≠ d → t.drain e = s.drain e) ∧ t.delivery.list = s.delivery.list
          ∧ ((s.drain d).hold = false ∧ (s.drain d).linkUp = true ∨ (s.drain d).timer.count < x.holdTimeout * 1000 →
              t.drain d = { s.drain d with settings := x }
              ∧ t.link = answered s.link tag .dran .ok (.dran (t.drain d) ((s.currentTake d).getD 0)))
          ∧ ((s.drain d).hold = true ∨ (s.drain d).linkUp = false → x.holdTimeout * 1000 ≤ (s.drain d).timer.count →
              t.drain d = { s.drain d with
                settings := x, stalled := true, timer := { count := x.holdTimeout * 1000, frac := 0 } }
              ∧ ((s.drain d).stalled = true →
                  t.link = answered s.link tag .dran .ok (.dran (t.drain d) ((s.currentTake d).getD 0)))
              ∧ ((s.drain d).stalled = false → NoticeRoom s → t.link = { noticed
                  (answered s.link tag .dran .ok (.dran (t.drain d) ((s.currentTake d).getD 0)))
                  (.drne d .stalled ((s.currentTake d).getD 0) s.ring.p 0
                    (if (s.drain d).linkUp = true then .held else .linkDown) x.holdTimeout) with
                  conds := { s.link.conds with drainStalled := true } }))
          ∧ t = { s with link := t.link, delivery := t.delivery })
    ∧ (DranFree s d x → x.enabled = true → (s.drain d).settings.enabled = false →
        ∃ t, exec (.dranSet tag (match d with | .a => 0 | .b => 1) f) s = .next t
          ∧ t.drain d = { s.drain d with settings := x, hold := false, timer := { count := 0, frac := 0 } }
          ∧ (∀ e : Drain, e ≠ d → t.drain e = s.drain e) ∧ t.delivery.list = s.delivery.list
          ∧ t = { s with
              link := answered s.link tag .dran .ok (.dran (t.drain d) ((s.currentTake d).getD 0))
              delivery := t.delivery })
    ∧ (DranFree s d x → x.enabled = false → (s.drain d).settings.enabled = false →
        ∃ t, exec (.dranSet tag (match d with | .a => 0 | .b => 1) f) s = .next t
          ∧ t.drain d = { s.drain d with settings := x }
          ∧ (∀ e : Drain, e ≠ d → t.drain e = s.drain e) ∧ t.delivery.list = s.delivery.list
          ∧ t = { s with
              link := answered s.link tag .dran .ok (.dran (t.drain d) ((s.currentTake d).getD 0))
              delivery := t.delivery })
    ∧ (DranFree s d x → x.enabled = false → (s.drain d).settings.enabled = true →
        ∃ t, exec (.dranSet tag (match d with | .a => 0 | .b => 1) f) s = .next t
          ∧ t.drain d = { s.drain d with
              settings := x, hold := false, timer := { count := 0, frac := 0 }, stalled := false, gapEpisode := false
              inFlight := none }
          ∧ t.link.conds.drainStalled = (s.link.conds.drainStalled && (s.drain (otherDrain d)).stalled)
          ∧ (∀ id, id ∈ t.delivery.list ↔ id ∈ s.delivery.list
              ∧ ∃ r, s.record? id = some r ∧ (r.sections.get (otherDrain d)).live = true)
          ∧ (∀ id r y, id ∈ s.delivery.list → s.record? id = some r → y = r.sections.get d → y.live = true →
              ∃ q, t.record? id = some q
                ∧ ((∀ b, (s.drain d).inFlight = some b → b.header.takeId = id → b.settled = true) →
                    q.sections.get d = { y with
                      state := .abandoned, owing := y.owing || r.endPos.isNone
                      abandoned := match r.endPos with | some e => y.abandoned + (e - y.confirmed) | none => y.abandoned })
                ∧ (∀ b, (s.drain d).inFlight = some b → b.header.takeId = id → b.settled = false →
                    q.sections.get d = { y with
                      state := .abandoned, owing := y.owing || r.endPos.isNone
                      formation := y.confirmed, nextSeq := b.header.seq
                      abandoned := match r.endPos with | some e => y.abandoned + (e - y.confirmed) | none => y.abandoned }))
          ∧ (∀ b r y, (s.drain d).inFlight = some b → s.record? b.header.takeId = some r → y = r.sections.get d →
              y.state = .abandoned → ∃ q, t.record? b.header.takeId = some q
                ∧ (b.settled = true → q.sections.get d = y)
                ∧ (b.settled = false → q.sections.get d = { y with
                    formation := y.confirmed, nextSeq := b.header.seq, abandoned := y.abandoned + b.header.count }))
          ∧ (∀ r, s.record? r.id = some r →
              ∃ q, t.record? r.id = some q ∧ q = { r with state := q.state, sections := q.sections }
                ∧ ((r.sections.get (otherDrain d)).live = true ∨ r.id ∉ s.delivery.list →
                    q.state = r.state
                    ∧ q.sections.get (otherDrain d) = (r.movedOn t).sections.get (otherDrain d))
                ∧ ((r.sections.get d).live = false ∨ r.id ∉ s.delivery.list →
                    (∀ b, (s.drain d).inFlight = some b → b.header.takeId = r.id → b.settled = true) →
                    q.sections.get d = r.sections.get d))
          ∧ ((s.drain (otherDrain d)).inFlight = none → t.drain (otherDrain d) = s.drain (otherDrain d))
          ∧ t.link.replies = s.link.replies ++ [{ tag := tag, kind := ReqKind.dran.word, status := .ok
                                                  result := .dran (t.drain d) 0 }]
          ∧ t = { s with link := t.link, takes := t.takes, delivery := t.delivery })

/-- A roll finds room. When four takes are listed and a drain is enabled, the oldest is truncated: TRUNCATED is set, each of
its sections in PENDING or ACTIVE becomes ABANDONED with the periods from its formation cursor to the end abandoned, its
blocks stay in flight, and it leaves the list that the new take joins (R109, R129). When the table holds 16 records the
oldest whose take is not listed is removed, after being made FINAL with EARLY FINAL and reported by FINL if it was CLOSED
(R77, R91). A record that becomes FINAL settles its blocks in flight first: the count is abandoned and the block marked
(R130), here at its window end (R91). -/
def Obligations.FullListAndTableMakeRoom : Prop :=
  (∀ (s : State) (tag : BitVec 8) (id e w : Nat) (rest : List Nat) (r : TakeRecord) (given : Section → Section),
     HasRoom s → s.takes.state = .stopped → s.router.armed ≠ 0 →
     ((s.drain .a).settings.enabled = true ∨ (s.drain .b).settings.enabled = true) → s.delivery.list = id :: rest →
     rest.length = 3 → id ∉ rest → (∀ j ∈ rest, ∃ q, s.record? j = some q ∧ q.live = true) →
     s.takes.table.length < 16 → s.record? id = some r → r.state ≠ .opened → r.endPos = some e →
     (∀ y, given y = if y.state = .pending ∨ y.state = .active then
         { y with state := .abandoned, abandoned := y.abandoned + (e - y.formation) } else y) →
     ∃ (t : State) (q : TakeRecord), exec (.roll tag) s = .next t ∧ t.delivery.list = rest ++ [s.takes.nextId]
       ∧ t.record? id = some q ∧ q.truncated = true
       ∧ (∀ d : Drain, (q.sections.get d).state = (given (r.sections.get d)).state)
       ∧ (r.windowEnd = some w → s.ring.p < w → q = { r with
           truncated := true, sections := { a := given r.sections.a, b := given r.sections.b } }
           ∧ ∀ d : Drain, t.drain d = s.drain d)
       ∧ (∀ d : Drain, (s.drain d).inFlight = none →
           q.sections.get d = given (r.sections.get d)))
  ∧ (∀ (s : State) (tag : BitVec 8) (older newer : List TakeRecord) (r : TakeRecord), HasRoom s →
     s.takes.state = .stopped → s.router.armed ≠ 0 → s.delivery.list.length < 4 →
     s.takes.table = older ++ r :: newer → s.takes.table.length = 16 →
     ((s.takes.table.map fun q => q.id) ++ [s.takes.nextId]).Nodup →
     (∀ q ∈ older, q.id ∈ s.delivery.list) → r.id ∉ s.delivery.list →
     ∃ t, exec (.roll tag) s = .next t
       ∧ (t.takes.table.map fun q => q.id) = ((older ++ newer).map fun q => q.id) ++ [s.takes.nextId]
       ∧ t.record? r.id = none
       ∧ (r.state = .closed → NoticeRoom s → s.link.notices ++ [{ seq := s.link.nextSeq
                                                                  notice := .finl r.id { r.header with earlyFinal := true } }]
           <+: t.link.notices))
  ∧ (∀ (s : State) (d : Drain) (b : Block) (r : TakeRecord) (w : Nat), s.record? r.id = some r → r.state = .closed →
     r.id ∉ s.delivery.list → r.windowEnd = some w → w ≤ s.ring.p → (s.drain d).inFlight = some b →
     b.header.takeId = r.id → b.settled = false →
     ∃ (t : State) (q : TakeRecord), exec .windowEnd s = .next t
       ∧ t.drain d = { s.drain d with inFlight := some { b with settled := true } }
       ∧ t.record? r.id = some q ∧ q.state = .final
       ∧ q.sections.get d = { r.sections.get d with abandoned := (r.sections.get d).abandoned + b.header.count })

/-! ## Notes -/

/-- A character in IDLE: data is stray; an address of 1 to 30 opens a note if the list accepts it and is counted if not; any
other address is bad (R136, R138). In OPEN, printable data joins the buffer or sets LONG when it is full, the terminator
completes the note at P, and any other data is dropped and counted (R139, R140); an address discards the partial note, and
is then taken as in IDLE: it opens a new note, or is counted as not accepted or bad (R141). A note completed waits for the
binding unit in the model's own queue `completed`, which is the model's choice (log entry 14). -/
def Obligations.CharactersAssembleNotes : Prop :=
  ∀ (s : State) (v : BitVec 8) (data address : BitVec 11), s.notes.waitHigh = false →
    data = 1#1 ++ 0#1 ++ v ++ 0#1 → address = 1#1 ++ 1#1 ++ v ++ 0#1 →
    (s.notes.line = .idle →
      (∃ t, exec (.character data) s = .next t ∧ t = { s with notes := t.notes }
        ∧ t.notes = { s.notes with
            receiving := false, lineHigh := true
            counts := { s.notes.counts with stray :=
              if s.notes.counts.stray < 65535 then s.notes.counts.stray + 1 else s.notes.counts.stray } })
      ∧ (1 ≤ v.toNat → v.toNat ≤ 30 → (s.notes.accept = [] ∨ v.toNat ∈ s.notes.accept) →
        exec (.character address) s = .next { s with notes := { s.notes with
          receiving := false, lineHigh := true, line := .opened, station := some v.toNat, buffer := [], long := false
          idleTimer := { count := 0, frac := 0 } } })
      ∧ (1 ≤ v.toNat → v.toNat ≤ 30 → s.notes.accept ≠ [] → v.toNat ∉ s.notes.accept →
        exec (.character address) s = .next { s with notes := { s.notes with
          receiving := false, lineHigh := true
          counts := { s.notes.counts with notAccepted :=
            if s.notes.counts.notAccepted < 65535 then s.notes.counts.notAccepted + 1
              else s.notes.counts.notAccepted } } })
      ∧ ((v = 0 ∨ 30 < v.toNat) →
        exec (.character address) s = .next { s with notes := { s.notes with
          receiving := false, lineHigh := true
          counts := { s.notes.counts with badAddresses :=
            if s.notes.counts.badAddresses < 65535 then s.notes.counts.badAddresses + 1
              else s.notes.counts.badAddresses } } }))
    ∧ (s.notes.line = .opened →
      (0x20 ≤ v.toNat → v.toNat ≤ 0x7E → exec (.character data) s = .next { s with notes := { s.notes with
          receiving := false, lineHigh := true, idleTimer := { count := 0, frac := 0 }
          buffer := if s.notes.buffer.length < 64 then s.notes.buffer ++ [v] else s.notes.buffer
          long := if s.notes.buffer.length < 64 then s.notes.long else true } })
      ∧ ((v.toNat < 0x20 ∨ 0x7E < v.toNat) → v ≠ 0x0D → exec (.character data) s = .next { s with notes := { s.notes with
          receiving := false, lineHigh := true, idleTimer := { count := 0, frac := 0 }
          counts := { s.notes.counts with dropped :=
            if s.notes.counts.dropped < 65535 then s.notes.counts.dropped + 1 else s.notes.counts.dropped } } })
      ∧ (v = 0x0D → exec (.character data) s = .next { s with notes := { s.notes with
          receiving := false, lineHigh := true, idleTimer := { count := 0, frac := 0 }
          line := .idle, station := none, buffer := [], long := false
          counts := { s.notes.counts with
            completed :=
              if s.notes.counts.completed < 65535 then s.notes.counts.completed + 1 else s.notes.counts.completed
            long := if s.notes.long = true ∧ s.notes.counts.long < 65535 then s.notes.counts.long + 1
              else s.notes.counts.long }
          completed := s.notes.completed ++ [{ station := s.notes.station.getD 0, text := s.notes.buffer
                                               long := s.notes.long, position := s.ring.p }] } })
      ∧ (1 ≤ v.toNat → v.toNat ≤ 30 → (s.notes.accept = [] ∨ v.toNat ∈ s.notes.accept) →
        exec (.character address) s = .next { s with notes := { s.notes with
          receiving := false, lineHigh := true, line := .opened, station := some v.toNat, buffer := [], long := false
          idleTimer := { count := 0, frac := 0 }
          counts := { s.notes.counts with byAddress :=
            if s.notes.counts.byAddress < 65535 then s.notes.counts.byAddress + 1
              else s.notes.counts.byAddress } } })
      ∧ (∀ discarded : NoteRx, discarded = { s.notes with
            receiving := false, lineHigh := true, line := .idle, station := none, buffer := [], long := false
            idleTimer := { count := 0, frac := 0 }
            counts := { s.notes.counts with byAddress :=
              if s.notes.counts.byAddress < 65535 then s.notes.counts.byAddress + 1
                else s.notes.counts.byAddress } } →
          (1 ≤ v.toNat → v.toNat ≤ 30 → s.notes.accept ≠ [] → v.toNat ∉ s.notes.accept →
            exec (.character address) s = .next { s with notes := { discarded with
              counts := { discarded.counts with notAccepted :=
                if s.notes.counts.notAccepted < 65535 then s.notes.counts.notAccepted + 1
                  else s.notes.counts.notAccepted } } })
          ∧ ((v = 0 ∨ 30 < v.toNat) → exec (.character address) s = .next { s with notes := { discarded with
              counts := { discarded.counts with badAddresses :=
                if s.notes.counts.badAddresses < 65535 then s.notes.counts.badAddresses + 1
                  else s.notes.counts.badAddresses } } })))

/-- The other steps of the note line: a start bit pauses the idle timer and leaves the line low; it also ends a wait for the
line to go high, since a line that falls was high (log entry 9). The timeout discards the partial note in OPEN, a break is
entered from IDLE or OPEN, discarding a partial note, and counted, and the line going high ends it (R142, R143). A character
with a low stop bit is counted and not taken, and leaves the line low: the idle timer resumes once it is high again (R142,
R144); in BREAK no character is taken (R143), nor while the receiver waits after a reset for the line to go high, when
nothing is counted either (R147); the wait ends at a stop bit sampled high, which is the model's choice (log entry 9). The
idle timer runs by ticks only while a note is in OPEN, no bits of a character arrive and the line is high (R142). The
model's choices: IDLE_TIMEOUT is taken at any count of the timer (log entry 4), shows the line high, and outside OPEN
changes nothing (log entries 9 and 1); BREAK_END is read as the line going high, in BREAK and outside it (log entry 9). -/
def Obligations.NoteLineStepsOfOpenAndBreak : Prop :=
  (∀ s : State,
       (s.notes.line ≠ .breaking → exec .startBitEdge s = .next { s with notes := { s.notes with
           receiving := true, lineHigh := false, waitHigh := false } })
       ∧ (s.notes.line = .breaking → exec .startBitEdge s = .next s)
       ∧ (s.notes.line ≠ .opened → exec .idleTimeout s = .next s)
       ∧ (s.notes.line = .opened → s.notes.receiving = false →
           exec .idleTimeout s = .next { s with notes := { s.notes with
             lineHigh := true, waitHigh := false, line := .idle, station := none, buffer := [], long := false
             idleTimer := { count := 0, frac := 0 }
             counts := { s.notes.counts with byTimeout :=
               if s.notes.counts.byTimeout < 65535 then s.notes.counts.byTimeout + 1
                 else s.notes.counts.byTimeout } } })
       ∧ (s.notes.line = .idle → exec .lineBreak s = .next { s with notes := { s.notes with
           line := .breaking, station := none, buffer := [], long := false, idleTimer := { count := 0, frac := 0 }
           receiving := false, lineHigh := false
           counts := { s.notes.counts with breaks :=
             if s.notes.counts.breaks < 65535 then s.notes.counts.breaks + 1 else s.notes.counts.breaks } } })
       ∧ (s.notes.line = .opened → exec .lineBreak s = .next { s with notes := { s.notes with
           line := .breaking, station := none, buffer := [], long := false, idleTimer := { count := 0, frac := 0 }
           receiving := false, lineHigh := false
           counts := { s.notes.counts with
             byBreak := if s.notes.counts.byBreak < 65535 then s.notes.counts.byBreak + 1 else s.notes.counts.byBreak
             breaks := if s.notes.counts.breaks < 65535 then s.notes.counts.breaks + 1 else s.notes.counts.breaks } } })
       ∧ (s.notes.line = .breaking → exec .breakEnd s = .next { s with notes := { s.notes with
           line := .idle, lineHigh := true, waitHigh := false } })
       ∧ (s.notes.line ≠ .breaking → exec .breakEnd s = .next { s with notes := { s.notes with
           lineHigh := true, waitHigh := false } })
       ∧ (s.pending = [] → s.dueCommand = none → ∃ t, step s = .next t
           ∧ ((s.notes.line ≠ .opened ∨ s.notes.receiving = true ∨ s.notes.lineHigh = false) →
               t.notes.idleTimer = s.notes.idleTimer)))
  ∧ (∀ (s : State) (bits : BitVec 11), bits.getLsbD 0 = false →
         (s.notes.line = .breaking → exec (.character bits) s = .next s)
         ∧ (s.notes.line ≠ .breaking → s.notes.waitHigh = true → exec (.character bits) s = .next { s with notes :=
             { s.notes with receiving := false, lineHigh := bits.getLsbD 10, waitHigh := !bits.getLsbD 10 } })
         ∧ (s.notes.line ≠ .breaking → s.notes.waitHigh = false → bits.getLsbD 10 = false →
             exec (.character bits) s = .next { s with notes := { s.notes with
               receiving := false, lineHigh := false
               counts := { s.notes.counts with framing :=
                 if s.notes.counts.framing < 65535 then s.notes.counts.framing + 1 else s.notes.counts.framing } } }))

/-- BIND_NOTE takes the oldest completed note and queues one notice for it: NREJ for a text it cannot read, with nothing
else changed, and BIND or ORPH for one it can (R149, R152, R160, R161). The model's choices: completed notes wait in the
model's own queue `completed` (log entry 14), and with none completed the row changes nothing (log entry 1). A NOTE request
is bound in its own step, ahead of a line note that still waits (the model's choice, log entry 14), and queues no notice;
its reply is OK, with P and with LONG set where more than 64 of its bytes are printable (R146, R162). A comment of printable
bytes with no take to go to joins the pending comments as station 0. A note's text is read as its kind letter, a target or a
separator, and the body (R150), the body by its kind (R151); it is rejected for want of a kind letter, an unknown letter, a
malformed target, a bad take number or a bad track, in that order (R152). -/
def Obligations.NotesAreBoundAndReported : Prop :=
  (∀ s : State,
     (s.notes.completed = [] → exec .bindNote s = .next s)
     ∧ (∀ note rest, s.notes.completed = note :: rest → ∃ (t : State) (n : Notice) (v : State × NoteOutcome),
         v = ({ s with notes := { s.notes with completed := rest } } : State).bindNote note
         ∧ exec .bindNote s = .next t ∧ t.notes = { s.notes with completed := rest }
         ∧ (NoticeRoom s → t.link = noticed s.link n)
         ∧ t.takes = v.1.takes ∧ t.binding = v.1.binding
         ∧ (∀ report, v.2 = .bound report → n = .bind note.station report note.position note.long)
         ∧ (∀ kind target reason, v.2 = .orphaned kind target reason →
             n = .orph note.station kind target reason note.position note.long)
         ∧ (∀ reason, parseNote note.text = .rejected reason →
             n = .nrej note.station reason (note.text.headD 0) note.text.length note.position note.long
             ∧ t.takes = s.takes ∧ t.binding = s.binding)
         ∧ ((∀ reason, parseNote note.text ≠ .rejected reason) → n.noticeKind = .bind ∨ n.noticeKind = .orph)
         ∧ t = { s with notes := t.notes, link := t.link, takes := t.takes, binding := t.binding }))
  ∧ (∀ (s : State) (tag : BitVec 8) (text : Text) (printed : Text) (v : State × NoteOutcome), HasRoom s →
     text.length ≤ 240 → printed = text.filter (fun b => decide (0x20 ≤ b.toNat ∧ b.toNat ≤ 0x7E)) →
     v = s.bindNote { station := 0, text := printed.take 64, long := decide (64 < printed.length), position := s.ring.p } →
     exec (.note tag text) s = .next { s with
         link := answered s.link tag .note .ok (.note v.2 s.ring.p (decide (64 < printed.length)))
         takes := v.1.takes, binding := v.1.binding }
     ∧ (∀ body : Text, text = 0x4D :: 0x20 :: body → (∀ b ∈ body, 0x20 ≤ b.toNat ∧ b.toNat ≤ 0x7E) →
         body.length ≤ 48 → s.openRecord? = none → s.recentClosed? = none → s.binding.comments.length < 8 →
         v.1.takes = s.takes ∧ v.1.binding = { s.binding with comments := s.binding.comments
           ++ [{ station := 0, position := s.ring.p, text := body }] }))
  ∧ parseNote [] = .rejected .noKind
  ∧ (∀ (letter : BitVec 8) (rest : Text),
       (letter ∉ kindLetters → parseNote (letter :: rest) = .rejected .unknownKind)
       ∧ (letter ∈ kindLetters → (∀ target body, ¬SpellsTargetAndBody rest target body) →
           parseNote (letter :: rest) = .rejected .badTarget))
  ∧ (∀ (rest : Text) (target : Option Nat) (body : Text), SpellsTargetAndBody rest target body →
       parseNote (0x53 :: rest) = .note { target := target, cut := decide (12 < body.length)
                                          body := .scene (if body = [] then none else some (body.take 12)) }
       ∧ (SpellsTakeNumber body → parseNote (0x54 :: rest) =
           .note { target := target, body := .takeNum (digitsValue body), cut := false })
       ∧ (¬SpellsTakeNumber body → parseNote (0x54 :: rest) = .rejected .badTakeNumber)
       ∧ (∀ track name, SpellsTrackName body track name → parseNote (0x4B :: rest) =
           .note { target := target, cut := decide (8 < name.length)
                   body := .trackName track (if name = [] then none else some (name.take 8)) })
       ∧ ((∀ track name, ¬SpellsTrackName body track name) → parseNote (0x4B :: rest) = .rejected .badTrack)
       ∧ parseNote (0x43 :: rest) = .note { target := target, body := .circle, cut := false }
       ∧ parseNote (0x4E :: rest) = .note { target := target, body := .noGood, cut := false }
       ∧ parseNote (0x46 :: rest) = .note { target := target, body := .falseTake, cut := false }
       ∧ parseNote (0x57 :: rest) = .note { target := target, body := .wild, cut := false }
       ∧ parseNote (0x4D :: rest) =
           .note { target := target, body := .comment (body.take 48), cut := decide (48 < body.length) })

/-- The destination of every kind of note, and its effect. With a target a note goes to that record alone, unless the table
holds no such record or the record is FINAL, when it is an orphan (R153). Without one, SCENE, TAKENUM and TRACKNAME go to
the pending slate, and also to the open take while it is within grace; WILD goes to the open take, else to the pending
slate; CIRCLE, NOGOOD, FALSE and COMMENT go to the open take, else to the most recent CLOSED record within its window, else
a comment goes to the pending slate and the others are orphans (R154). An orphan changes nothing (R160). On a record (R155)
and on the pending slate (R156) each kind has the effect its table gives; a full comment list counts the comment lost. The
outcome is reported with the kind, the destination, the take reached or 0, whether there was a target, a comment lost, the
take's number and numbering after a SCENE or TAKENUM that reached it (otherwise 0, and no numbering), whether R159
renumbered it, which holds of a SCENE on an AUTO record also where the number came out the same (log entry 32), and the body
cut (R161). -/
def Obligations.NotesReachTheirDestination : Prop :=
  (∀ (s : State) (note : CompletedNote) (n : ParsedNote) (v : State × NoteOutcome)
       (report : Destination → Nat → Nat → Option Slate → BoundReport) (toTake : TakeRecord → Destination → Prop)
       (toPending : Prop) (orphan : OrphanReason → Prop) (openGrace : TakeRecord → Prop) (recent : TakeRecord → Prop),
     parseNote note.text = .note n → v = s.bindNote note →
     (∀ dest id comments after, report dest id comments after =
       { kind := n.body.kind, dest := dest, takeId := id, targeted := n.target.isSome, cut := n.cut
         commentLost := decide (n.body.kind = .comment ∧ 8 ≤ comments)
         number := if n.body.kind = .scene ∨ n.body.kind = .takeNum then (after.map fun x => x.number).getD 0 else 0
         numbering := if n.body.kind = .scene ∨ n.body.kind = .takeNum then after.map fun x => x.numbering else none
         renumbered := decide (n.body.kind = .scene ∧ (after.map fun x => x.numbering) = some .auto) }) →
     (∀ r dest, toTake r dest ↔ s.record? r.id = some r →
       v.1.record? r.id = some { r with slate := r.slate.apply note.station note.position n.body }
       ∧ (∀ id, id ≠ r.id → v.1.record? id = s.record? id)
       ∧ (∀ l, s.takes.lastSlate = some l → v.1.takes.lastSlate = some (if l.id = r.id then
           { l with scene := (r.slate.apply note.station note.position n.body).scene
                    number := (r.slate.apply note.station note.position n.body).number } else l))
       ∧ v.2 = .bound (report dest r.id r.slate.comments.length
           (some (r.slate.apply note.station note.position n.body)))) →
     (toPending ↔ v.1.takes = s.takes ∧ v.1.binding = s.binding.apply note.station note.position false n.body
       ∧ v.2 = .bound (report .pending 0 s.binding.comments.length none)) →
     (∀ reason, orphan reason ↔ v = (s, .orphaned n.body.kind (n.target.getD 0) reason)) →
     (∀ r, openGrace r ↔ s.openRecord? = some r ∧ s.ring.p - r.roll ≤ s.takes.caps.grace) →
     (∀ r, recent r ↔ s.openRecord? = none ∧ s.recentClosed? = some r ∧ ∃ w, r.windowEnd = some w ∧ s.ring.p < w) →
     v.1 = { s with takes := v.1.takes, binding := v.1.binding }
     ∧ (∀ id, n.target = some id →
         (s.record? id = none → orphan .noTake)
         ∧ (∀ r, s.record? id = some r → r.state = .final → orphan .final)
         ∧ (∀ r, s.record? id = some r → r.state ≠ .final → toTake r .take ∧ v.1.binding = s.binding))
     ∧ (n.target = none →
         ((n.body.kind = .scene ∨ n.body.kind = .takeNum ∨ n.body.kind = .trackName) →
           (∀ r, openGrace r → toTake r .takeAndPending
             ∧ (s.record? r.id = some r → v.1.binding = s.binding.apply note.station note.position true n.body))
           ∧ ((∀ r, ¬openGrace r) → toPending))
         ∧ (n.body.kind = .wild →
           (∀ r, s.openRecord? = some r → toTake r .take ∧ v.1.binding = s.binding) ∧ (s.openRecord? = none → toPending))
         ∧ ((n.body.kind = .circle ∨ n.body.kind = .noGood ∨ n.body.kind = .falseTake ∨ n.body.kind = .comment) →
           (∀ r, s.openRecord? = some r ∨ recent r → toTake r .take ∧ v.1.binding = s.binding)
           ∧ (s.openRecord? = none → (∀ r, ¬recent r) →
               (n.body.kind = .comment → toPending) ∧ (n.body.kind ≠ .comment → orphan .noWindow)))))
  ∧ (∀ (x : Slate) (station pos : Nat),
     (∀ num, x.apply station pos (.takeNum num) = { x with number := num, numbering := .explicit })
     ∧ (∀ track name, x.apply station pos (.trackName track name) = { x with names := x.names.set track name })
     ∧ x.apply station pos .circle = { x with circle := true, noGood := false }
     ∧ x.apply station pos .noGood = { x with noGood := true, circle := false }
     ∧ x.apply station pos .falseTake = { x with falseTake := true }
     ∧ x.apply station pos .wild = { x with wild := true }
     ∧ (∀ text, x.apply station pos (.comment text) = if x.comments.length < 8 then
         { x with comments := x.comments ++ [{ station := station, position := pos, text := text }] }
       else { x with commentsLost := if x.commentsLost < 255 then x.commentsLost + 1 else x.commentsLost }))
  ∧ (∀ (x : Binding) (station pos : Nat) (reached : Bool),
     (∀ scene, x.apply station pos reached (.scene scene) = { x with scene := scene })
     ∧ (∀ num, x.apply station pos reached (.takeNum num) =
         { x with number := if reached = true then none else some num })
     ∧ (∀ track name, x.apply station pos reached (.trackName track name) = { x with names := x.names.set track name })
     ∧ x.apply station pos reached .wild = { x with wild := true }
     ∧ (∀ text, x.apply station pos reached (.comment text) = if x.comments.length < 8 then
         { x with comments := x.comments ++ [{ station := station, position := pos, text := text }] }
       else { x with commentsLost := if x.commentsLost < 255 then x.commentsLost + 1 else x.commentsLost }))

/-- A FINAL record does not change until it leaves the take table (R91): every step leaves it as it is, or takes it out of
the table. The state is a legal one whose takes are accounted for, and the next take ids are free, which is the premise of
log entry 34. No note changes it at all and none takes it out: neither a line note nor a NOTE request (R72, R153, R160); for
these it is enough that no other record has its id. -/
def Obligations.NotesLeaveFinalRecords : Prop :=
  (∀ (s t : State) (r : TakeRecord), Legal s → TableLegal s → NextIdsFree s.takes → TakesAccounted s →
    step s = .next t → r ∈ s.takes.table → r.state = .final →
    r ∈ t.takes.table ∨ ∀ q ∈ t.takes.table, q.id ≠ r.id)
  ∧ ∀ (s t : State) (tag : BitVec 8) (text : Text) (r : TakeRecord), r ∈ s.takes.table → r.state = .final →
    (∀ q ∈ s.takes.table, q.id = r.id → q = r) →
    (exec .bindNote s = .next t ∨ exec (.note tag text) s = .next t) → r ∈ t.takes.table

/-- NLIN set replaces the accept list by the stations named, in the order of the request, a station that already appears
earlier in it being skipped (R135, R137), and refuses a station outside 1 to 30; NLIN read and
clear reports the counts and sets them to 0 (R137). -/
def Obligations.NlinSetsTheAcceptList : Prop :=
  ∀ (s : State) (tag count : BitVec 8) (v : Vector (BitVec 8) 8), HasRoom s → count.toNat ≤ 8 →
    ((∃ k : Fin 8, k.val < count.toNat ∧ (v[k] = 0 ∨ 30 < v[k].toNat)) →
      exec (.nlinSet tag count v) s = .next (replied s tag .nlin .range .none))
    ∧ ((∀ k : Fin 8, k.val < count.toNat → 1 ≤ v[k].toNat ∧ v[k].toNat ≤ 30) → ∀ accept : List Nat,
        accept = ((List.finRange 8).filter fun k => decide (k.val < count.toNat ∧ ∀ j : Fin 8, j < k → v[j] ≠ v[k])).map
          (fun k => v[k].toNat) →
        exec (.nlinSet tag count v) s = .next { s with
          link := answered s.link tag .nlin .ok (.nlin { s.notes with accept := accept })
          notes := { s.notes with accept := accept } }
        ∧ accept.Nodup ∧ ∀ n, n ∈ accept ↔ ∃ k : Fin 8, k.val < count.toNat ∧ v[k].toNat = n)
    ∧ exec (.nlinReadAndClear tag) s = .next { s with
        link := answered s.link tag .nlin .ok (.nlin s.notes)
        notes := { s.notes with counts := NoteCounts.zero } }

/-! ## The control line -/

/-- A byte in HUNT opens a frame if it is 0xA7 and is skipped and counted otherwise; a length of 241 to 255 is a frame
error; silence inside a frame discards it (R166, R167). A frame error returns the receiver to HUNT and raises the
consecutive error count, up to 255; where the count reaches the error limit LINK FAULT is set and LFLT is queued, and
otherwise no LFLT (R167, R168). The errors are a length byte of 241 to 255, a byte inside a frame whose stop bit is low, and
a frame whose CRC differs, which is discarded whole: no request is taken. The model's choices: a byte whose stop bit is low
is counted in HUNT as a byte error alone (log entry 21); SILENCE_DISCARD is taken at any count of the silence timer (log
entry 4), which stands at 0 in HUNT (log entry 33), and in HUNT it changes nothing (log entry 1). -/
def Obligations.ControlBytesAndFrameErrorsAreCounted : Prop :=
  (∀ (s : State) (v : BitVec 8),
       (s.link.rx = .hunt → exec (.controlByte 0xA7 true) s = .next { s with link := { s.link with
         rx := .length, silenceTimer := { count := 0, frac := 0 } } })
       ∧ (s.link.rx = .hunt → v ≠ 0xA7 → exec (.controlByte v true) s = .next { s with link := { s.link with
           counts := { s.link.counts with bytesSkipped :=
             if s.link.counts.bytesSkipped < 65535 then s.link.counts.bytesSkipped + 1
               else s.link.counts.bytesSkipped } } })
       ∧ (s.link.rx = .hunt → exec (.controlByte v false) s = .next { s with link := { s.link with
           counts := { s.link.counts with byteErrors :=
             if s.link.counts.byteErrors < 65535 then s.link.counts.byteErrors + 1 else s.link.counts.byteErrors } } })
       ∧ (s.link.rx = .length → v.toNat ≤ 240 → exec (.controlByte v true) s = .next { s with link := { s.link with
           rx := .kind v [], silenceTimer := { count := 0, frac := 0 } } })
       ∧ (s.link.rx = .hunt → exec .silenceDiscard s = .next s)
       ∧ (s.link.rx ≠ .hunt → exec .silenceDiscard s = .next { s with link := { s.link with
           rx := .hunt, silenceTimer := { count := 0, frac := 0 }
           counts := { s.link.counts with silenceDiscards :=
             if s.link.counts.silenceDiscards < 65535 then s.link.counts.silenceDiscards + 1
               else s.link.counts.silenceDiscards } } }))
  ∧ (∀ (s : State) (v : BitVec 8) (stopHigh : Bool) (e : FrameError) (counts : LinkCounts),
         ((stopHigh = true ∧ e = .length ∧ s.link.rx = .length ∧ 240 < v.toNat ∧ counts = { s.link.counts with
             lengthErrors := if s.link.counts.lengthErrors < 65535 then s.link.counts.lengthErrors + 1
               else s.link.counts.lengthErrors })
           ∨ (stopHigh = false ∧ e = .byte ∧ s.link.rx ≠ .hunt ∧ counts = { s.link.counts with
             byteErrors := if s.link.counts.byteErrors < 65535 then s.link.counts.byteErrors + 1
               else s.link.counts.byteErrors })) →
         ∀ l : Link, l = { s.link with
             rx := .hunt, silenceTimer := { count := 0, frac := 0 }, counts := counts
             consecutive := if s.link.consecutive < 255 then s.link.consecutive + 1 else s.link.consecutive } →
         (255 ≤ s.link.consecutive ∨ s.link.consecutive + 1 ≠ s.link.errorLimit →
           exec (.controlByte v stopHigh) s = .next { s with link := l })
         ∧ (s.link.consecutive < 255 → s.link.consecutive + 1 = s.link.errorLimit → NoticeRoom s →
           exec (.controlByte v stopHigh) s = .next { s with
             link := { noticed l (.lflt (s.link.consecutive + 1) s.link.errorLimit e) with
               conds := { s.link.conds with linkFault := true } } }))
  ∧ (∀ (s : State) (kind : Text) (tag low high : BitVec 8) (payload : List Byte), s.link.rx = .hunt → kind.length = 4 →
       payload.length ≤ 240 → high ++ low ≠ crc (frameBody kind tag payload) →
       ∀ l : Link, l = { s.link with
           rx := .hunt, silenceTimer := { count := 0, frac := 0 }
           counts := { s.link.counts with crcErrors :=
             if s.link.counts.crcErrors < 65535 then s.link.counts.crcErrors + 1 else s.link.counts.crcErrors }
           consecutive := if s.link.consecutive < 255 then s.link.consecutive + 1 else s.link.consecutive } →
       (255 ≤ s.link.consecutive ∨ s.link.consecutive + 1 ≠ s.link.errorLimit →
         feedBytes (0xA7 :: (frameBody kind tag payload ++ [low, high])) s = .next { s with link := l })
       ∧ (s.link.consecutive < 255 → s.link.consecutive + 1 = s.link.errorLimit → NoticeRoom s →
         feedBytes (0xA7 :: (frameBody kind tag payload ++ [low, high])) s = .next { s with
           link := { noticed l (.lflt (s.link.consecutive + 1) s.link.errorLimit .crc) with
             conds := { s.link.conds with linkFault := true } } }))

/-- The transmitter picks the oldest reply, else the oldest notice, else nothing, when the line is free, and does not break
off a frame once begun (R172): while bytes of the frame in transmission are still to go the row changes nothing, which is
the model's choice of what such a row does (log entry 1); the time that a frame takes is counted on the model's own timer
(log entry 3). A notice handed over takes the next sequence and joins the queue while it holds fewer than 32; at 32 it is
dropped, the lost count rises and NOTICES LOST is set (R173), here an LVLS notice. -/
def Obligations.RepliesGoFirstAndNoticesQueueInOrder : Prop :=
  (∀ s : State,
     (∀ f, s.link.tx = some f → s.link.txTimer.count < f.bytes.length → exec .transmitFrame s = .next s)
     ∧ ((∀ f, s.link.tx = some f → f.bytes.length ≤ s.link.txTimer.count) →
         ∃ t, exec .transmitFrame s = .next t ∧ t = { s with link := t.link }
           ∧ (∀ r rest, s.link.replies = r :: rest → t.link = { s.link with
               replies := rest, txTimer := { count := 0, frac := 0 }
               tx := some { frame := .reply r
                            bytes := frameBytes replyWord r.tag (r.kind ++ r.status.bytes ++ r.result.bytes) } })
           ∧ (∀ n rest, s.link.replies = [] → s.link.notices = n :: rest → t.link = { s.link with
               notices := rest, txTimer := { count := 0, frac := 0 }
               tx := some { frame := .notice n
                            bytes := frameBytes n.notice.noticeKind.word 0 (u16 n.seq ++ n.notice.bytes) } })
           ∧ (s.link.replies = [] → s.link.notices = [] → t.link.tx = none ∧ t.link.replies = []
               ∧ t.link.notices = [])))
  ∧ (∀ (s : State) (n : Notice),
     (s.link.notices.length < 32 → s.notify n = { s with link := noticed s.link n })
     ∧ (s.link.notices.length = 32 → s.notify n = { s with link := { s.link with
         nextSeq := (s.link.nextSeq + 1) % 65536
         lostCount := if s.link.lostCount < 65535 then s.link.lostCount + 1 else s.link.lostCount
         conds := { s.link.conds with noticesLost := true } } }))
  ∧ (∀ s : State, s.inputs.reportPeriod ≠ 0 → s.link.notices.length = 32 → ∃ t, exec .lvlsReport s = .next t
     ∧ t.link = { s.link with
         nextSeq := (s.link.nextSeq + 1) % 65536
         lostCount := if s.link.lostCount < 65535 then s.link.lostCount + 1 else s.link.lostCount
         conds := { s.link.conds with noticesLost := true } }
     ∧ t = { s with link := t.link, inputs := t.inputs, router := t.router })

/-! ## What every step keeps -/

/-- The reset state is legal, its take table and delivery list too, and its takes are accounted for. -/
def Obligations.ResetIsLegal : Prop := Legal State.reset ∧ TableLegal State.reset ∧ TakesAccounted State.reset

/-- Every step answers a next state: the 2416 has no fault and the model refuses nothing. -/
def Obligations.EveryStepAnswersANextState : Prop := ∀ s : State, ∃ t, step s = .next t

/-- Every step keeps every legal state legal: P in range, the ring's store canonical, the routing, the timeline, the input
ranges, the capacities, one open take at most, the next take id in range, and the lasting conditions in agreement with their
causes. It keeps the take table within 16 records, no two with one id, and the delivery list without repeats and within the
table (R76, R109), wherever the next take ids are free: R75 says that they are, since a record leaves the table long before
the count comes round to its id, and that sentence is the premise here (log entry 34). There it also keeps every record in
order, start, roll, cut, end and P (R70), and every sample period of every take accounted for: the cursors of a section to be
delivered apart by the count of the take's block in flight (R111), and delivered, gap total, abandoned and what is in flight
making up the take in DONE and ABANDONED (R110), while P has a next value (log entry 5). -/
def Obligations.EveryStepKeepsTheStateLegal : Prop :=
  ∀ s t : State, Legal s → step s = .next t →
    Legal t ∧ (TableLegal s → NextIdsFree s.takes → TableLegal t
      ∧ (TakesAccounted s → s.ring.p + 1 < 281474976710656 → TakesAccounted t))

/-- Only an audio frame, the reset pin and RSET ENGINE, as a command or by the last byte of its frame, change P or the ring's
slots; both resets keep the slots and set P to 0 (R58, R64). The last byte is one whose CRC completes a frame of the kind RSET
with the one payload byte 0, and RSET ENGINE is then answered OK with the scope ENGINE and P = 0 (R167, R179). -/
def Obligations.OnlyAudioFramesAndResetsMoveP : Prop :=
  ∀ (i : Instr) (s t : State), exec i s = .next t → t.ring = s.ring
    ∨ (∃ slots l1 l2, i = .audioFrame slots l1 l2)
    ∨ (t.ring = { s.ring with p := 0 }
        ∧ (i = .powerOnReset
          ∨ ∃ tag : BitVec 8,
              (i = .rsetEngine tag
                ∨ ∃ v low len : BitVec 8, i = .controlByte v true
                    ∧ s.link.rx = .crc len ReqKind.rset.word tag [0] (some low)
                    ∧ crc (len :: (ReqKind.rset.word ++ [tag, 0])) = v ++ low)
              ∧ t.link.replies = s.link.replies
                  ++ [{ tag := tag, kind := ReqKind.rset.word, status := .ok, result := .rset false 0 }]))
end

