-- ==== Sys2Proof/Laws/State.lean ====
section
/-! SUPPORT. One lemma for each field under each update of State, all true by rfl, so that no proof unfolds a record update. -/

namespace Sys2Proof.Machine

/-! ## Link -/

@[simp] theorem State.modLink_pending (s : State) (f : Link → Link) : (s.modLink f).pending = s.pending := rfl
@[simp] theorem State.modLink_link (s : State) (f : Link → Link) : (s.modLink f).link = f s.link := rfl
@[simp] theorem State.modLink_inputs (s : State) (f : Link → Link) : (s.modLink f).inputs = s.inputs := rfl
@[simp] theorem State.modLink_router (s : State) (f : Link → Link) : (s.modLink f).router = s.router := rfl
@[simp] theorem State.modLink_timeline (s : State) (f : Link → Link) : (s.modLink f).timeline = s.timeline := rfl
@[simp] theorem State.modLink_ring (s : State) (f : Link → Link) : (s.modLink f).ring = s.ring := rfl
@[simp] theorem State.modLink_takes (s : State) (f : Link → Link) : (s.modLink f).takes = s.takes := rfl
@[simp] theorem State.modLink_triggers (s : State) (f : Link → Link) : (s.modLink f).triggers = s.triggers := rfl
@[simp] theorem State.modLink_delivery (s : State) (f : Link → Link) : (s.modLink f).delivery = s.delivery := rfl
@[simp] theorem State.modLink_notes (s : State) (f : Link → Link) : (s.modLink f).notes = s.notes := rfl
@[simp] theorem State.modLink_binding (s : State) (f : Link → Link) : (s.modLink f).binding = s.binding := rfl
@[simp] theorem State.modLink_freeCount (s : State) (f : Link → Link) : (s.modLink f).freeCount = s.freeCount := rfl

/-! ## Inputs -/

@[simp] theorem State.modInputs_pending (s : State) (f : Inputs → Inputs) : (s.modInputs f).pending = s.pending := rfl
@[simp] theorem State.modInputs_link (s : State) (f : Inputs → Inputs) : (s.modInputs f).link = s.link := rfl
@[simp] theorem State.modInputs_inputs (s : State) (f : Inputs → Inputs) : (s.modInputs f).inputs = f s.inputs := rfl
@[simp] theorem State.modInputs_router (s : State) (f : Inputs → Inputs) : (s.modInputs f).router = s.router := rfl
@[simp] theorem State.modInputs_timeline (s : State) (f : Inputs → Inputs) : (s.modInputs f).timeline = s.timeline := rfl
@[simp] theorem State.modInputs_ring (s : State) (f : Inputs → Inputs) : (s.modInputs f).ring = s.ring := rfl
@[simp] theorem State.modInputs_takes (s : State) (f : Inputs → Inputs) : (s.modInputs f).takes = s.takes := rfl
@[simp] theorem State.modInputs_triggers (s : State) (f : Inputs → Inputs) : (s.modInputs f).triggers = s.triggers := rfl
@[simp] theorem State.modInputs_delivery (s : State) (f : Inputs → Inputs) : (s.modInputs f).delivery = s.delivery := rfl
@[simp] theorem State.modInputs_notes (s : State) (f : Inputs → Inputs) : (s.modInputs f).notes = s.notes := rfl
@[simp] theorem State.modInputs_binding (s : State) (f : Inputs → Inputs) : (s.modInputs f).binding = s.binding := rfl
@[simp] theorem State.modInputs_freeCount (s : State) (f : Inputs → Inputs) : (s.modInputs f).freeCount = s.freeCount := rfl

/-! ## Router -/

@[simp] theorem State.modRouter_pending (s : State) (f : Router → Router) : (s.modRouter f).pending = s.pending := rfl
@[simp] theorem State.modRouter_link (s : State) (f : Router → Router) : (s.modRouter f).link = s.link := rfl
@[simp] theorem State.modRouter_inputs (s : State) (f : Router → Router) : (s.modRouter f).inputs = s.inputs := rfl
@[simp] theorem State.modRouter_router (s : State) (f : Router → Router) : (s.modRouter f).router = f s.router := rfl
@[simp] theorem State.modRouter_timeline (s : State) (f : Router → Router) : (s.modRouter f).timeline = s.timeline := rfl
@[simp] theorem State.modRouter_ring (s : State) (f : Router → Router) : (s.modRouter f).ring = s.ring := rfl
@[simp] theorem State.modRouter_takes (s : State) (f : Router → Router) : (s.modRouter f).takes = s.takes := rfl
@[simp] theorem State.modRouter_triggers (s : State) (f : Router → Router) : (s.modRouter f).triggers = s.triggers := rfl
@[simp] theorem State.modRouter_delivery (s : State) (f : Router → Router) : (s.modRouter f).delivery = s.delivery := rfl
@[simp] theorem State.modRouter_notes (s : State) (f : Router → Router) : (s.modRouter f).notes = s.notes := rfl
@[simp] theorem State.modRouter_binding (s : State) (f : Router → Router) : (s.modRouter f).binding = s.binding := rfl
@[simp] theorem State.modRouter_freeCount (s : State) (f : Router → Router) : (s.modRouter f).freeCount = s.freeCount := rfl

/-! ## Timeline -/

@[simp] theorem State.modTimeline_pending (s : State) (f : Timeline → Timeline) : (s.modTimeline f).pending = s.pending := rfl
@[simp] theorem State.modTimeline_link (s : State) (f : Timeline → Timeline) : (s.modTimeline f).link = s.link := rfl
@[simp] theorem State.modTimeline_inputs (s : State) (f : Timeline → Timeline) : (s.modTimeline f).inputs = s.inputs := rfl
@[simp] theorem State.modTimeline_router (s : State) (f : Timeline → Timeline) : (s.modTimeline f).router = s.router := rfl
@[simp] theorem State.modTimeline_timeline (s : State) (f : Timeline → Timeline) : (s.modTimeline f).timeline = f s.timeline := rfl
@[simp] theorem State.modTimeline_ring (s : State) (f : Timeline → Timeline) : (s.modTimeline f).ring = s.ring := rfl
@[simp] theorem State.modTimeline_takes (s : State) (f : Timeline → Timeline) : (s.modTimeline f).takes = s.takes := rfl
@[simp] theorem State.modTimeline_triggers (s : State) (f : Timeline → Timeline) : (s.modTimeline f).triggers = s.triggers := rfl
@[simp] theorem State.modTimeline_delivery (s : State) (f : Timeline → Timeline) : (s.modTimeline f).delivery = s.delivery := rfl
@[simp] theorem State.modTimeline_notes (s : State) (f : Timeline → Timeline) : (s.modTimeline f).notes = s.notes := rfl
@[simp] theorem State.modTimeline_binding (s : State) (f : Timeline → Timeline) : (s.modTimeline f).binding = s.binding := rfl
@[simp] theorem State.modTimeline_freeCount (s : State) (f : Timeline → Timeline) : (s.modTimeline f).freeCount = s.freeCount := rfl

/-! ## Ring -/

@[simp] theorem State.modRing_pending (s : State) (f : Ring → Ring) : (s.modRing f).pending = s.pending := rfl
@[simp] theorem State.modRing_link (s : State) (f : Ring → Ring) : (s.modRing f).link = s.link := rfl
@[simp] theorem State.modRing_inputs (s : State) (f : Ring → Ring) : (s.modRing f).inputs = s.inputs := rfl
@[simp] theorem State.modRing_router (s : State) (f : Ring → Ring) : (s.modRing f).router = s.router := rfl
@[simp] theorem State.modRing_timeline (s : State) (f : Ring → Ring) : (s.modRing f).timeline = s.timeline := rfl
@[simp] theorem State.modRing_ring (s : State) (f : Ring → Ring) : (s.modRing f).ring = f s.ring := rfl
@[simp] theorem State.modRing_takes (s : State) (f : Ring → Ring) : (s.modRing f).takes = s.takes := rfl
@[simp] theorem State.modRing_triggers (s : State) (f : Ring → Ring) : (s.modRing f).triggers = s.triggers := rfl
@[simp] theorem State.modRing_delivery (s : State) (f : Ring → Ring) : (s.modRing f).delivery = s.delivery := rfl
@[simp] theorem State.modRing_notes (s : State) (f : Ring → Ring) : (s.modRing f).notes = s.notes := rfl
@[simp] theorem State.modRing_binding (s : State) (f : Ring → Ring) : (s.modRing f).binding = s.binding := rfl
@[simp] theorem State.modRing_freeCount (s : State) (f : Ring → Ring) : (s.modRing f).freeCount = s.freeCount := rfl

/-! ## Takes -/

@[simp] theorem State.modTakes_pending (s : State) (f : TakeCtl → TakeCtl) : (s.modTakes f).pending = s.pending := rfl
@[simp] theorem State.modTakes_link (s : State) (f : TakeCtl → TakeCtl) : (s.modTakes f).link = s.link := rfl
@[simp] theorem State.modTakes_inputs (s : State) (f : TakeCtl → TakeCtl) : (s.modTakes f).inputs = s.inputs := rfl
@[simp] theorem State.modTakes_router (s : State) (f : TakeCtl → TakeCtl) : (s.modTakes f).router = s.router := rfl
@[simp] theorem State.modTakes_timeline (s : State) (f : TakeCtl → TakeCtl) : (s.modTakes f).timeline = s.timeline := rfl
@[simp] theorem State.modTakes_ring (s : State) (f : TakeCtl → TakeCtl) : (s.modTakes f).ring = s.ring := rfl
@[simp] theorem State.modTakes_takes (s : State) (f : TakeCtl → TakeCtl) : (s.modTakes f).takes = f s.takes := rfl
@[simp] theorem State.modTakes_triggers (s : State) (f : TakeCtl → TakeCtl) : (s.modTakes f).triggers = s.triggers := rfl
@[simp] theorem State.modTakes_delivery (s : State) (f : TakeCtl → TakeCtl) : (s.modTakes f).delivery = s.delivery := rfl
@[simp] theorem State.modTakes_notes (s : State) (f : TakeCtl → TakeCtl) : (s.modTakes f).notes = s.notes := rfl
@[simp] theorem State.modTakes_binding (s : State) (f : TakeCtl → TakeCtl) : (s.modTakes f).binding = s.binding := rfl
@[simp] theorem State.modTakes_freeCount (s : State) (f : TakeCtl → TakeCtl) : (s.modTakes f).freeCount = s.freeCount := rfl

/-! ## Triggers -/

@[simp] theorem State.modTriggers_pending (s : State) (f : Triggers → Triggers) : (s.modTriggers f).pending = s.pending := rfl
@[simp] theorem State.modTriggers_link (s : State) (f : Triggers → Triggers) : (s.modTriggers f).link = s.link := rfl
@[simp] theorem State.modTriggers_inputs (s : State) (f : Triggers → Triggers) : (s.modTriggers f).inputs = s.inputs := rfl
@[simp] theorem State.modTriggers_router (s : State) (f : Triggers → Triggers) : (s.modTriggers f).router = s.router := rfl
@[simp] theorem State.modTriggers_timeline (s : State) (f : Triggers → Triggers) : (s.modTriggers f).timeline = s.timeline := rfl
@[simp] theorem State.modTriggers_ring (s : State) (f : Triggers → Triggers) : (s.modTriggers f).ring = s.ring := rfl
@[simp] theorem State.modTriggers_takes (s : State) (f : Triggers → Triggers) : (s.modTriggers f).takes = s.takes := rfl
@[simp] theorem State.modTriggers_triggers (s : State) (f : Triggers → Triggers) : (s.modTriggers f).triggers = f s.triggers := rfl
@[simp] theorem State.modTriggers_delivery (s : State) (f : Triggers → Triggers) : (s.modTriggers f).delivery = s.delivery := rfl
@[simp] theorem State.modTriggers_notes (s : State) (f : Triggers → Triggers) : (s.modTriggers f).notes = s.notes := rfl
@[simp] theorem State.modTriggers_binding (s : State) (f : Triggers → Triggers) : (s.modTriggers f).binding = s.binding := rfl
@[simp] theorem State.modTriggers_freeCount (s : State) (f : Triggers → Triggers) : (s.modTriggers f).freeCount = s.freeCount := rfl

/-! ## Delivery -/

@[simp] theorem State.modDelivery_pending (s : State) (f : Delivery → Delivery) : (s.modDelivery f).pending = s.pending := rfl
@[simp] theorem State.modDelivery_link (s : State) (f : Delivery → Delivery) : (s.modDelivery f).link = s.link := rfl
@[simp] theorem State.modDelivery_inputs (s : State) (f : Delivery → Delivery) : (s.modDelivery f).inputs = s.inputs := rfl
@[simp] theorem State.modDelivery_router (s : State) (f : Delivery → Delivery) : (s.modDelivery f).router = s.router := rfl
@[simp] theorem State.modDelivery_timeline (s : State) (f : Delivery → Delivery) : (s.modDelivery f).timeline = s.timeline := rfl
@[simp] theorem State.modDelivery_ring (s : State) (f : Delivery → Delivery) : (s.modDelivery f).ring = s.ring := rfl
@[simp] theorem State.modDelivery_takes (s : State) (f : Delivery → Delivery) : (s.modDelivery f).takes = s.takes := rfl
@[simp] theorem State.modDelivery_triggers (s : State) (f : Delivery → Delivery) : (s.modDelivery f).triggers = s.triggers := rfl
@[simp] theorem State.modDelivery_delivery (s : State) (f : Delivery → Delivery) : (s.modDelivery f).delivery = f s.delivery := rfl
@[simp] theorem State.modDelivery_notes (s : State) (f : Delivery → Delivery) : (s.modDelivery f).notes = s.notes := rfl
@[simp] theorem State.modDelivery_binding (s : State) (f : Delivery → Delivery) : (s.modDelivery f).binding = s.binding := rfl
@[simp] theorem State.modDelivery_freeCount (s : State) (f : Delivery → Delivery) : (s.modDelivery f).freeCount = s.freeCount := rfl

/-! ## Notes -/

@[simp] theorem State.modNotes_pending (s : State) (f : NoteRx → NoteRx) : (s.modNotes f).pending = s.pending := rfl
@[simp] theorem State.modNotes_link (s : State) (f : NoteRx → NoteRx) : (s.modNotes f).link = s.link := rfl
@[simp] theorem State.modNotes_inputs (s : State) (f : NoteRx → NoteRx) : (s.modNotes f).inputs = s.inputs := rfl
@[simp] theorem State.modNotes_router (s : State) (f : NoteRx → NoteRx) : (s.modNotes f).router = s.router := rfl
@[simp] theorem State.modNotes_timeline (s : State) (f : NoteRx → NoteRx) : (s.modNotes f).timeline = s.timeline := rfl
@[simp] theorem State.modNotes_ring (s : State) (f : NoteRx → NoteRx) : (s.modNotes f).ring = s.ring := rfl
@[simp] theorem State.modNotes_takes (s : State) (f : NoteRx → NoteRx) : (s.modNotes f).takes = s.takes := rfl
@[simp] theorem State.modNotes_triggers (s : State) (f : NoteRx → NoteRx) : (s.modNotes f).triggers = s.triggers := rfl
@[simp] theorem State.modNotes_delivery (s : State) (f : NoteRx → NoteRx) : (s.modNotes f).delivery = s.delivery := rfl
@[simp] theorem State.modNotes_notes (s : State) (f : NoteRx → NoteRx) : (s.modNotes f).notes = f s.notes := rfl
@[simp] theorem State.modNotes_binding (s : State) (f : NoteRx → NoteRx) : (s.modNotes f).binding = s.binding := rfl
@[simp] theorem State.modNotes_freeCount (s : State) (f : NoteRx → NoteRx) : (s.modNotes f).freeCount = s.freeCount := rfl

/-! ## Binding -/

@[simp] theorem State.modBinding_pending (s : State) (f : Binding → Binding) : (s.modBinding f).pending = s.pending := rfl
@[simp] theorem State.modBinding_link (s : State) (f : Binding → Binding) : (s.modBinding f).link = s.link := rfl
@[simp] theorem State.modBinding_inputs (s : State) (f : Binding → Binding) : (s.modBinding f).inputs = s.inputs := rfl
@[simp] theorem State.modBinding_router (s : State) (f : Binding → Binding) : (s.modBinding f).router = s.router := rfl
@[simp] theorem State.modBinding_timeline (s : State) (f : Binding → Binding) : (s.modBinding f).timeline = s.timeline := rfl
@[simp] theorem State.modBinding_ring (s : State) (f : Binding → Binding) : (s.modBinding f).ring = s.ring := rfl
@[simp] theorem State.modBinding_takes (s : State) (f : Binding → Binding) : (s.modBinding f).takes = s.takes := rfl
@[simp] theorem State.modBinding_triggers (s : State) (f : Binding → Binding) : (s.modBinding f).triggers = s.triggers := rfl
@[simp] theorem State.modBinding_delivery (s : State) (f : Binding → Binding) : (s.modBinding f).delivery = s.delivery := rfl
@[simp] theorem State.modBinding_notes (s : State) (f : Binding → Binding) : (s.modBinding f).notes = s.notes := rfl
@[simp] theorem State.modBinding_binding (s : State) (f : Binding → Binding) : (s.modBinding f).binding = f s.binding := rfl
@[simp] theorem State.modBinding_freeCount (s : State) (f : Binding → Binding) : (s.modBinding f).freeCount = s.freeCount := rfl

/-! ## The queue -/

@[simp] theorem State.withPending_pending (s : State) (q : List Instr) : (s.withPending q).pending = q := rfl
@[simp] theorem State.withPending_link (s : State) (q : List Instr) : (s.withPending q).link = s.link := rfl
@[simp] theorem State.withPending_inputs (s : State) (q : List Instr) : (s.withPending q).inputs = s.inputs := rfl
@[simp] theorem State.withPending_router (s : State) (q : List Instr) : (s.withPending q).router = s.router := rfl
@[simp] theorem State.withPending_timeline (s : State) (q : List Instr) : (s.withPending q).timeline = s.timeline := rfl
@[simp] theorem State.withPending_ring (s : State) (q : List Instr) : (s.withPending q).ring = s.ring := rfl
@[simp] theorem State.withPending_takes (s : State) (q : List Instr) : (s.withPending q).takes = s.takes := rfl
@[simp] theorem State.withPending_triggers (s : State) (q : List Instr) : (s.withPending q).triggers = s.triggers := rfl
@[simp] theorem State.withPending_delivery (s : State) (q : List Instr) : (s.withPending q).delivery = s.delivery := rfl
@[simp] theorem State.withPending_notes (s : State) (q : List Instr) : (s.withPending q).notes = s.notes := rfl
@[simp] theorem State.withPending_binding (s : State) (q : List Instr) : (s.withPending q).binding = s.binding := rfl
@[simp] theorem State.withPending_freeCount (s : State) (q : List Instr) : (s.withPending q).freeCount = s.freeCount := rfl

/-! ## Drains and conditions -/

@[simp] theorem State.modDrain_pending (s : State) (d : Drain) (f : DrainState → DrainState) : (s.modDrain d f).pending = s.pending := rfl
@[simp] theorem State.modDrain_link (s : State) (d : Drain) (f : DrainState → DrainState) : (s.modDrain d f).link = s.link := rfl
@[simp] theorem State.modDrain_inputs (s : State) (d : Drain) (f : DrainState → DrainState) : (s.modDrain d f).inputs = s.inputs := rfl
@[simp] theorem State.modDrain_router (s : State) (d : Drain) (f : DrainState → DrainState) : (s.modDrain d f).router = s.router := rfl
@[simp] theorem State.modDrain_timeline (s : State) (d : Drain) (f : DrainState → DrainState) : (s.modDrain d f).timeline = s.timeline := rfl
@[simp] theorem State.modDrain_ring (s : State) (d : Drain) (f : DrainState → DrainState) : (s.modDrain d f).ring = s.ring := rfl
@[simp] theorem State.modDrain_takes (s : State) (d : Drain) (f : DrainState → DrainState) : (s.modDrain d f).takes = s.takes := rfl
@[simp] theorem State.modDrain_triggers (s : State) (d : Drain) (f : DrainState → DrainState) : (s.modDrain d f).triggers = s.triggers := rfl
@[simp] theorem State.modDrain_notes (s : State) (d : Drain) (f : DrainState → DrainState) : (s.modDrain d f).notes = s.notes := rfl
@[simp] theorem State.modDrain_binding (s : State) (d : Drain) (f : DrainState → DrainState) : (s.modDrain d f).binding = s.binding := rfl
@[simp] theorem State.modDrain_freeCount (s : State) (d : Drain) (f : DrainState → DrainState) : (s.modDrain d f).freeCount = s.freeCount := rfl

@[simp] theorem State.modConds_pending (s : State) (f : Conds → Conds) : (s.modConds f).pending = s.pending := rfl
@[simp] theorem State.modConds_inputs (s : State) (f : Conds → Conds) : (s.modConds f).inputs = s.inputs := rfl
@[simp] theorem State.modConds_router (s : State) (f : Conds → Conds) : (s.modConds f).router = s.router := rfl
@[simp] theorem State.modConds_timeline (s : State) (f : Conds → Conds) : (s.modConds f).timeline = s.timeline := rfl
@[simp] theorem State.modConds_ring (s : State) (f : Conds → Conds) : (s.modConds f).ring = s.ring := rfl
@[simp] theorem State.modConds_takes (s : State) (f : Conds → Conds) : (s.modConds f).takes = s.takes := rfl
@[simp] theorem State.modConds_triggers (s : State) (f : Conds → Conds) : (s.modConds f).triggers = s.triggers := rfl
@[simp] theorem State.modConds_delivery (s : State) (f : Conds → Conds) : (s.modConds f).delivery = s.delivery := rfl
@[simp] theorem State.modConds_notes (s : State) (f : Conds → Conds) : (s.modConds f).notes = s.notes := rfl
@[simp] theorem State.modConds_binding (s : State) (f : Conds → Conds) : (s.modConds f).binding = s.binding := rfl
@[simp] theorem State.modConds_freeCount (s : State) (f : Conds → Conds) : (s.modConds f).freeCount = s.freeCount := rfl

@[simp] theorem State.raise_pending (s : State) (k : Condition) : (s.raise k).pending = s.pending := rfl
@[simp] theorem State.raise_inputs (s : State) (k : Condition) : (s.raise k).inputs = s.inputs := rfl
@[simp] theorem State.raise_router (s : State) (k : Condition) : (s.raise k).router = s.router := rfl
@[simp] theorem State.raise_timeline (s : State) (k : Condition) : (s.raise k).timeline = s.timeline := rfl
@[simp] theorem State.raise_ring (s : State) (k : Condition) : (s.raise k).ring = s.ring := rfl
@[simp] theorem State.raise_takes (s : State) (k : Condition) : (s.raise k).takes = s.takes := rfl
@[simp] theorem State.raise_triggers (s : State) (k : Condition) : (s.raise k).triggers = s.triggers := rfl
@[simp] theorem State.raise_delivery (s : State) (k : Condition) : (s.raise k).delivery = s.delivery := rfl
@[simp] theorem State.raise_notes (s : State) (k : Condition) : (s.raise k).notes = s.notes := rfl
@[simp] theorem State.raise_binding (s : State) (k : Condition) : (s.raise k).binding = s.binding := rfl
@[simp] theorem State.raise_freeCount (s : State) (k : Condition) : (s.raise k).freeCount = s.freeCount := rfl

@[simp] theorem State.lower_pending (s : State) (k : Condition) : (s.lower k).pending = s.pending := rfl
@[simp] theorem State.lower_inputs (s : State) (k : Condition) : (s.lower k).inputs = s.inputs := rfl
@[simp] theorem State.lower_router (s : State) (k : Condition) : (s.lower k).router = s.router := rfl
@[simp] theorem State.lower_timeline (s : State) (k : Condition) : (s.lower k).timeline = s.timeline := rfl
@[simp] theorem State.lower_ring (s : State) (k : Condition) : (s.lower k).ring = s.ring := rfl
@[simp] theorem State.lower_takes (s : State) (k : Condition) : (s.lower k).takes = s.takes := rfl
@[simp] theorem State.lower_triggers (s : State) (k : Condition) : (s.lower k).triggers = s.triggers := rfl
@[simp] theorem State.lower_delivery (s : State) (k : Condition) : (s.lower k).delivery = s.delivery := rfl
@[simp] theorem State.lower_notes (s : State) (k : Condition) : (s.lower k).notes = s.notes := rfl
@[simp] theorem State.lower_binding (s : State) (k : Condition) : (s.lower k).binding = s.binding := rfl
@[simp] theorem State.lower_freeCount (s : State) (k : Condition) : (s.lower k).freeCount = s.freeCount := rfl

@[simp] theorem State.clearReported_pending (s : State) : (s.clearReported).pending = s.pending := rfl
@[simp] theorem State.clearReported_inputs (s : State) : (s.clearReported).inputs = s.inputs := rfl
@[simp] theorem State.clearReported_router (s : State) : (s.clearReported).router = s.router := rfl
@[simp] theorem State.clearReported_timeline (s : State) : (s.clearReported).timeline = s.timeline := rfl
@[simp] theorem State.clearReported_ring (s : State) : (s.clearReported).ring = s.ring := rfl
@[simp] theorem State.clearReported_takes (s : State) : (s.clearReported).takes = s.takes := rfl
@[simp] theorem State.clearReported_triggers (s : State) : (s.clearReported).triggers = s.triggers := rfl
@[simp] theorem State.clearReported_delivery (s : State) : (s.clearReported).delivery = s.delivery := rfl
@[simp] theorem State.clearReported_notes (s : State) : (s.clearReported).notes = s.notes := rfl
@[simp] theorem State.clearReported_binding (s : State) : (s.clearReported).binding = s.binding := rfl
@[simp] theorem State.clearReported_freeCount (s : State) : (s.clearReported).freeCount = s.freeCount := rfl

@[simp] theorem State.modDrain_list (s : State) (d : Drain) (f : DrainState → DrainState) :
    (s.modDrain d f).delivery.list = s.delivery.list := rfl
@[simp] theorem State.modConds_conds (s : State) (f : Conds → Conds) : (s.modConds f).link.conds = f s.link.conds := rfl
@[simp] theorem State.raise_conds (s : State) (k : Condition) :
    (s.raise k).link.conds = s.link.conds.put k true := rfl
@[simp] theorem State.lower_conds (s : State) (k : Condition) :
    (s.lower k).link.conds = s.link.conds.put k false := rfl
@[simp] theorem State.raise_replies (s : State) (k : Condition) : (s.raise k).link.replies = s.link.replies := rfl
@[simp] theorem State.lower_replies (s : State) (k : Condition) : (s.lower k).link.replies = s.link.replies := rfl
@[simp] theorem State.raise_notices (s : State) (k : Condition) : (s.raise k).link.notices = s.link.notices := rfl
@[simp] theorem State.lower_notices (s : State) (k : Condition) : (s.lower k).link.notices = s.link.notices := rfl

/-- A flag reads as it was put. -/
@[simp] theorem Conds.get_put_same (c : Conds) (k : Condition) (v : Bool) : (c.put k v).get k = v := by
  cases k <;> rfl

/-- Putting one flag leaves the others. -/
theorem Conds.get_put_other (c : Conds) (j k : Condition) (v : Bool) (h : j ≠ k) : (c.put k v).get j = c.get j := by
  cases j <;> cases k <;> first | rfl | exact absurd rfl h

/-- The drain that an update names holds the updated value. -/
@[simp] theorem PerDrain.get_modify_same {α : Type} (p : PerDrain α) (d : Drain) (f : α → α) :
    (p.modify d f).get d = f (p.get d) := by
  cases d <;> rfl

/-- An update of one drain leaves the other. -/
theorem PerDrain.get_modify_other {α : Type} (p : PerDrain α) (d e : Drain) (f : α → α) (h : e ≠ d) :
    (p.modify d f).get e = p.get e := by
  cases d <;> cases e <;> first | rfl | exact absurd rfl h

@[simp] theorem State.drain_modDrain_same (s : State) (d : Drain) (f : DrainState → DrainState) :
    (s.modDrain d f).drain d = f (s.drain d) := by
  cases d <;> rfl

theorem State.drain_modDrain_other (s : State) (d e : Drain) (f : DrainState → DrainState) (h : e ≠ d) :
    (s.modDrain d f).drain e = s.drain e := by
  cases d <;> cases e <;> first | rfl | exact absurd rfl h

@[simp] theorem State.drain_modLink (s : State) (d : Drain) (f : Link → Link) :
    (s.modLink f).drain d = s.drain d := rfl
@[simp] theorem State.record?_modLink (s : State) (id : Nat) (f : Link → Link) :
    (s.modLink f).record? id = s.record? id := rfl
@[simp] theorem State.drain_modInputs (s : State) (d : Drain) (f : Inputs → Inputs) :
    (s.modInputs f).drain d = s.drain d := rfl
@[simp] theorem State.record?_modInputs (s : State) (id : Nat) (f : Inputs → Inputs) :
    (s.modInputs f).record? id = s.record? id := rfl
@[simp] theorem State.drain_modRouter (s : State) (d : Drain) (f : Router → Router) :
    (s.modRouter f).drain d = s.drain d := rfl
@[simp] theorem State.record?_modRouter (s : State) (id : Nat) (f : Router → Router) :
    (s.modRouter f).record? id = s.record? id := rfl
@[simp] theorem State.drain_modTimeline (s : State) (d : Drain) (f : Timeline → Timeline) :
    (s.modTimeline f).drain d = s.drain d := rfl
@[simp] theorem State.record?_modTimeline (s : State) (id : Nat) (f : Timeline → Timeline) :
    (s.modTimeline f).record? id = s.record? id := rfl
@[simp] theorem State.drain_modRing (s : State) (d : Drain) (f : Ring → Ring) :
    (s.modRing f).drain d = s.drain d := rfl
@[simp] theorem State.record?_modRing (s : State) (id : Nat) (f : Ring → Ring) :
    (s.modRing f).record? id = s.record? id := rfl
@[simp] theorem State.drain_modTakes (s : State) (d : Drain) (f : TakeCtl → TakeCtl) :
    (s.modTakes f).drain d = s.drain d := rfl
@[simp] theorem State.drain_modTriggers (s : State) (d : Drain) (f : Triggers → Triggers) :
    (s.modTriggers f).drain d = s.drain d := rfl
@[simp] theorem State.record?_modTriggers (s : State) (id : Nat) (f : Triggers → Triggers) :
    (s.modTriggers f).record? id = s.record? id := rfl
@[simp] theorem State.record?_modDelivery (s : State) (id : Nat) (f : Delivery → Delivery) :
    (s.modDelivery f).record? id = s.record? id := rfl
@[simp] theorem State.drain_modNotes (s : State) (d : Drain) (f : NoteRx → NoteRx) :
    (s.modNotes f).drain d = s.drain d := rfl
@[simp] theorem State.record?_modNotes (s : State) (id : Nat) (f : NoteRx → NoteRx) :
    (s.modNotes f).record? id = s.record? id := rfl
@[simp] theorem State.drain_modBinding (s : State) (d : Drain) (f : Binding → Binding) :
    (s.modBinding f).drain d = s.drain d := rfl
@[simp] theorem State.record?_modBinding (s : State) (id : Nat) (f : Binding → Binding) :
    (s.modBinding f).record? id = s.record? id := rfl
@[simp] theorem State.record?_modDrain (s : State) (id : Nat) (d : Drain) (f : DrainState → DrainState) :
    (s.modDrain d f).record? id = s.record? id := rfl
@[simp] theorem State.drain_raise (s : State) (d : Drain) (k : Condition) : (s.raise k).drain d = s.drain d := rfl
@[simp] theorem State.drain_lower (s : State) (d : Drain) (k : Condition) : (s.lower k).drain d = s.drain d := rfl
@[simp] theorem State.record?_raise (s : State) (id : Nat) (k : Condition) :
    (s.raise k).record? id = s.record? id := rfl
@[simp] theorem State.record?_lower (s : State) (id : Nat) (k : Condition) :
    (s.lower k).record? id = s.record? id := rfl

end Sys2Proof.Machine
end

