-- ==== Sys2Proof/Laws/Confined.lean ====
section
/-! SUPPORT. Which blocks an operation of the take controller and the delivery engine can touch: the notice side of the
control link interface, the take controller, the delivery engine and the binding unit, and nothing else. One lemma for each
operation says so; later proofs cite it and unfold none of them. -/

namespace Sys2Proof.Machine

/-- `t` differs from `s` at most in the notice queue and the conditions of the control link interface (but for
AUDIO LOST and LINK FAULT), in the take controller, the delivery engine and the binding unit. -/
structure Confined (s t : State) : Prop where
  pending : t.pending = s.pending
  inputs : t.inputs = s.inputs
  router : t.router = s.router
  timeline : t.timeline = s.timeline
  ring : t.ring = s.ring
  triggers : t.triggers = s.triggers
  notes : t.notes = s.notes
  freeCount : t.freeCount = s.freeCount
  rx : t.link.rx = s.link.rx
  silenceTimer : t.link.silenceTimer = s.link.silenceTimer
  errorLimit : t.link.errorLimit = s.link.errorLimit
  consecutive : t.link.consecutive = s.link.consecutive
  counts : t.link.counts = s.link.counts
  replies : t.link.replies = s.link.replies
  tx : t.link.tx = s.link.tx
  txTimer : t.link.txTimer = s.link.txTimer
  audioLost : t.link.conds.audioLost = s.link.conds.audioLost
  linkFault : t.link.conds.linkFault = s.link.conds.linkFault

theorem Confined.refl (s : State) : Confined s s := by constructor <;> rfl

theorem Confined.trans {s t u : State} (h : Confined s t) (k : Confined t u) : Confined s u := by
  cases h
  cases k
  constructor <;> simp only [*]

/-- A confined change, written as an update. -/
theorem Confined.eq {s t : State} (h : Confined s t) :
    t = { s with link := t.link, takes := t.takes, delivery := t.delivery, binding := t.binding } := by
  cases h
  cases t
  simp_all

/-- The control link interface after a confined change. -/
theorem Confined.link_eq {s t : State} (h : Confined s t) :
    t.link = { s.link with notices := t.link.notices, nextSeq := t.link.nextSeq, lostCount := t.link.lostCount
                           conds := t.link.conds } := by
  obtain ⟨_, _, _, _, _, _, _, _, h1, h2, h3, h4, h5, h6, h7, h8, _, _⟩ := h
  simp only [← h1, ← h2, ← h3, ← h4, ← h5, ← h6, ← h7, ← h8]

theorem confined_ite {s a b : State} {p : Prop} [Decidable p] (ha : Confined s a) (hb : Confined s b) :
    Confined s (if p then a else b) := by
  split
  · exact ha
  · exact hb

/-! ## Small changes -/

theorem confined_modTakes (s : State) (f : TakeCtl → TakeCtl) : Confined s (s.modTakes f) := by constructor <;> rfl
theorem confined_modDelivery (s : State) (f : Delivery → Delivery) : Confined s (s.modDelivery f) := by
  constructor <;> rfl
theorem confined_modBinding (s : State) (f : Binding → Binding) : Confined s (s.modBinding f) := by
  constructor <;> rfl
theorem confined_modDrain (s : State) (d : Drain) (f : DrainState → DrainState) : Confined s (s.modDrain d f) := by
  constructor <;> rfl
theorem confined_raiseGap (s : State) : Confined s (s.raise .deliveryGap) := by constructor <;> rfl
theorem confined_raiseStall (s : State) : Confined s (s.raise .drainStalled) := by constructor <;> rfl
theorem confined_lowerStall (s : State) : Confined s (s.lower .drainStalled) := by constructor <;> rfl
theorem confined_raiseReference (s : State) : Confined s (s.raise .referenceLost) := by constructor <;> rfl
theorem confined_lowerReference (s : State) : Confined s (s.lower .referenceLost) := by constructor <;> rfl
theorem confined_updRecord (s : State) (id : Nat) (f : TakeRecord → TakeRecord) : Confined s (s.updRecord id f) := by
  constructor <;> rfl
theorem confined_updSection (s : State) (id : Nat) (d : Drain) (f : Section → Section) :
    Confined s (s.updSection id d f) := by
  constructor <;> rfl

theorem confined_notify (s : State) (n : Notice) : Confined s (s.notify n) := by
  unfold State.notify
  constructor <;> simp <;> split <;> rfl

theorem confined_runAll {α : Type} (f : α → State → State) (hf : ∀ x s, Confined s (f x s)) (xs : List α) (s : State) :
    Confined s (runAll f xs s) := by
  induction xs generalizing s with
  | nil => exact Confined.refl s
  | cons x xs ih => exact (hf x s).trans (ih (f x s))

theorem confined_intake (s : State) (e : Event) : Confined s (s.intake e) := by
  unfold State.intake
  split
  · exact Confined.refl s
  · exact confined_ite (confined_updRecord ..) (Confined.refl s)

theorem confined_settleOn (s : State) (id : Nat) (d : Drain) : Confined s (s.settleOn id d) := by
  unfold State.settleOn
  split
  · exact (confined_updSection ..).trans (confined_modDrain ..)
  · exact Confined.refl s

theorem confined_makeFinal (s : State) (id : Nat) (early : Bool) : Confined s (s.makeFinal id early) := by
  have h := ((confined_settleOn s id .a).trans (confined_settleOn _ id .b)).trans
    (confined_updRecord ((s.settleOn id .a).settleOn id .b) id fun r =>
      { r with state := .final, earlyFinal := r.earlyFinal || early })
  unfold State.makeFinal
  dsimp only
  split
  · exact h.trans (confined_notify ..)
  · exact h

theorem confined_finalTest (s : State) (id : Nat) : Confined s (s.finalTest id) := by
  unfold State.finalTest
  split
  · exact confined_ite (confined_makeFinal ..) (Confined.refl s)
  · exact Confined.refl s

/-! ## The delivery engine -/

theorem confined_activateOn (s : State) (d : Drain) : Confined s (s.activateOn d) := by
  unfold State.activateOn
  split
  · exact confined_updSection ..
  · exact Confined.refl s

theorem confined_activate (s : State) : Confined s s.activate :=
  (confined_activateOn s .a).trans (confined_activateOn _ .b)

theorem confined_sweepList (s : State) : Confined s s.sweepList := by
  unfold State.sweepList
  exact ((confined_modDelivery ..).trans (confined_runAll _ (fun id s => confined_finalTest s id) _ _)).trans
    (confined_activate _)

theorem confined_testDone (s : State) (id : Nat) (d : Drain) : Confined s (s.testDone id d) := by
  unfold State.testDone
  split
  · exact Confined.refl s
  · exact confined_ite (confined_updSection ..) (Confined.refl s)

theorem confined_settleDone (s : State) (id : Nat) (d : Drain) : Confined s (s.settleDone id d) :=
  (confined_testDone s id d).trans (confined_sweepList _)

theorem confined_gapEpisodeTest (s : State) (d : Drain) (takeId pos offset : Nat) (reason : DrneReason) :
    Confined s (s.gapEpisodeTest d takeId pos offset reason) := by
  unfold State.gapEpisodeTest
  exact confined_ite (Confined.refl s) (((confined_modDrain ..).trans (confined_raiseGap _)).trans (confined_notify ..))

theorem confined_push (s : State) (id : Nat) (d : Drain) : Confined s (s.push id d) := by
  unfold State.push
  split
  · exact Confined.refl s
  · exact confined_ite
      (((confined_updSection ..).trans (confined_gapEpisodeTest ..)).trans (confined_settleDone ..)) (Confined.refl s)

theorem confined_overrun (s : State) : Confined s s.overrun :=
  confined_runAll _ (fun id s => (confined_push s id .a).trans (confined_push _ id .b)) _ _

theorem confined_truncateOldest (s : State) : Confined s s.truncateOldest := by
  unfold State.truncateOldest
  split
  · exact Confined.refl s
  · exact (confined_updRecord ..).trans (confined_sweepList _)

theorem confined_enterList (s : State) (id : Nat) : Confined s (s.enterList id) := by
  unfold State.enterList
  exact (confined_ite (Confined.refl s) (confined_truncateOldest s)).trans (confined_modDelivery ..)

theorem confined_handEnd (s : State) (id : Nat) (e : Nat) : Confined s (s.handEnd id e) := by
  unfold State.handEnd
  exact (((confined_updRecord ..).trans (confined_testDone ..)).trans (confined_testDone ..)).trans
    (confined_sweepList _)

theorem confined_settleStallCondition (s : State) : Confined s s.settleStallCondition := by
  unfold State.settleStallCondition
  exact confined_ite (confined_lowerStall _) (Confined.refl s)

theorem confined_reachStall (s : State) (d : Drain) : Confined s (s.reachStall d) := by
  unfold State.reachStall
  exact confined_ite (confined_modDrain ..)
    ((((confined_modDrain ..).trans (confined_modDrain ..)).trans (confined_raiseStall _)).trans (confined_notify ..))

theorem confined_abortForLink (s : State) (d : Drain) : Confined s (s.abortForLink d) := by
  unfold State.abortForLink
  split
  · exact Confined.refl s
  · split
    · exact confined_modDrain ..
    · split
      · exact (confined_modDrain ..).trans (confined_settleDone ..)
      · refine Confined.trans ?_ (confined_settleDone ..)
        split
        · exact ((confined_modDrain ..).trans (confined_updSection ..)).trans (confined_gapEpisodeTest ..)
        · exact (confined_modDrain ..).trans (confined_updSection ..)

theorem confined_abortForDisable (s : State) (d : Drain) : Confined s (s.abortForDisable d) := by
  unfold State.abortForDisable
  split
  · exact Confined.refl s
  · exact confined_ite (confined_modDrain ..) ((confined_modDrain ..).trans (confined_updSection ..))

theorem confined_abandonSections (s : State) (d : Drain) : Confined s (s.abandonSections d) :=
  confined_runAll _ (fun _ _ => confined_updRecord ..) _ _

theorem confined_disableDrain (s : State) (d : Drain) : Confined s (s.disableDrain d) := by
  unfold State.disableDrain
  exact ((((confined_abortForDisable s d).trans (confined_abandonSections _ d)).trans (confined_modDrain ..)).trans
    (confined_settleStallCondition _)).trans (confined_sweepList _)

theorem confined_enableDrain (s : State) (d : Drain) : Confined s (s.enableDrain d) := confined_modDrain ..

theorem confined_endStall (s : State) (d : Drain) : Confined s (s.endStall d) := by
  unfold State.endStall
  exact confined_ite ((confined_modDrain ..).trans (confined_settleStallCondition _)) (Confined.refl s)

theorem confined_sendBlock (s : State) (d : Drain) (r : TakeRecord) (b : Block) : Confined s (s.sendBlock d r b) := by
  unfold State.sendBlock
  exact ((confined_updSection ..).trans (confined_modDrain ..)).trans (confined_endStall _ d)

theorem confined_testExhausted (s : State) (d : Drain) : Confined s (s.testExhausted d) := by
  unfold State.testExhausted
  split
  · exact confined_settleDone ..
  · exact Confined.refl s

theorem confined_takeCompletion (s : State) (d : Drain) : Confined s (s.takeCompletion d) := by
  unfold State.takeCompletion
  split
  · exact Confined.refl s
  · exact confined_ite (((confined_updSection ..).trans (confined_modDrain ..)).trans (confined_settleDone ..))
      (confined_modDrain ..)

theorem confined_takeLinkDown (s : State) (d : Drain) : Confined s (s.takeLinkDown d) :=
  (confined_modDrain ..).trans (confined_abortForLink _ d)

theorem confined_takeStall (s : State) (d : Drain) : Confined s (s.takeStall d) := by
  unfold State.takeStall
  exact confined_ite (confined_reachStall s d) (Confined.refl s)

theorem confined_takeForm (s : State) (d : Drain) : Confined s (s.takeForm d) := by
  unfold State.takeForm
  split
  · exact confined_sendBlock ..
  · exact confined_ite (confined_testExhausted s d) (Confined.refl s)

theorem confined_setDrain (s : State) (d : Drain) (x : DrainSettings) : Confined s (s.setDrain d x) := by
  unfold State.setDrain State.testTimeout State.changeEnable
  have h : ∀ u : State, Confined u (if x.enabled = (u.drain d).settings.enabled then u
      else if x.enabled = true then u.enableDrain d else u.disableDrain d) := fun u =>
    confined_ite (Confined.refl u) (confined_ite (confined_enableDrain u d) (confined_disableDrain u d))
  have k := (confined_modDrain s d fun y => { y with settings := { x with enabled := y.settings.enabled } }).trans (h _)
  exact confined_ite (k.trans (confined_reachStall _ d)) k

theorem confined_configDrains (s : State) : Confined s s.configDrains := by
  have h : ∀ (u : State) (d : Drain), Confined u (u.disableIfEnabled d) := fun u d =>
    confined_ite (confined_disableDrain u d) (Confined.refl u)
  exact ((h s .a).trans (h _ .b)).trans (confined_modDelivery ..)

/-! ## The take controller -/

theorem confined_closeOpen (s : State) (e : Nat) : Confined s (s.closeOpen e) := by
  unfold State.closeOpen
  split
  · exact Confined.refl s
  · exact ((((confined_updRecord ..).trans (confined_modTakes ..)).trans (confined_notify ..)).trans
      (confined_handEnd ..)).trans (confined_finalTest ..)

theorem confined_evict (s : State) : Confined s s.evict := by
  unfold State.evict
  split
  · exact Confined.refl s
  · split
    · exact Confined.refl s
    · exact (confined_ite (confined_makeFinal ..) (Confined.refl s)).trans (confined_modTakes ..)

theorem confined_rollMakesRoom (s : State) : Confined s s.rollMakesRoom := by
  unfold State.rollMakesRoom
  exact (confined_ite ((confined_modTakes ..).trans (confined_enterList ..)) (confined_modTakes ..)).trans
    (confined_evict _)

theorem confined_rollOpens (s : State) (cause : Cause) (r : Nat) : Confined s (s.rollOpens cause r) := by
  unfold State.rollOpens
  exact ((((confined_rollMakesRoom s).trans (confined_modTakes ..)).trans (confined_modBinding ..)).trans
    (confined_activate _)).trans (confined_notify ..)

theorem confined_refuseRoll (s : State) (cause : Cause) (r : Nat) : Confined s (s.refuseRoll cause r) := by
  cases cause
  · exact Confined.refl s
  · exact confined_notify ..
  · exact confined_notify ..
  · exact confined_notify ..
  · exact Confined.refl s

theorem confined_closeTail (s : State) (r : Nat) : Confined s (s.closeTail r) := by
  unfold State.closeTail
  split
  · exact Confined.refl s
  · exact (confined_updRecord ..).trans (confined_closeOpen ..)

theorem confined_rollReq (s : State) (cause : Cause) (pos : Nat) : Confined s (s.rollReq cause pos).1 := by
  unfold State.rollReq
  split
  · exact Confined.refl s
  · split
    · exact confined_refuseRoll ..
    · exact confined_rollOpens ..
  · split
    · exact confined_refuseRoll ..
    · exact (confined_closeTail ..).trans (confined_rollOpens ..)

theorem confined_cutOpen (s : State) (q : TakeRecord) (cause : Cause) (c : Nat) :
    Confined s (s.cutOpen q cause c) := by
  unfold State.cutOpen
  exact confined_ite (((confined_updRecord ..).trans (confined_updRecord ..)).trans (confined_modTakes ..))
    ((confined_updRecord ..).trans (confined_closeOpen ..))

theorem confined_cutReq (s : State) (cause : Cause) (pos : Nat) (level : Option Line) :
    Confined s (s.cutReq cause pos level).1 := by
  unfold State.cutReq
  split
  · split
    · exact Confined.refl s
    · exact confined_cutOpen ..
  · exact Confined.refl s
  · exact Confined.refl s
  · exact Confined.refl s

theorem confined_takeLimitCut (s : State) : Confined s s.takeLimitCut := by
  unfold State.takeLimitCut
  split
  · exact confined_cutReq ..
  · exact Confined.refl s

theorem confined_takeTailEnd (s : State) : Confined s s.takeTailEnd := by
  unfold State.takeTailEnd
  split
  · exact confined_closeOpen ..
  · exact Confined.refl s

theorem confined_takeWindowEnd (s : State) : Confined s s.takeWindowEnd :=
  confined_runAll _ (fun id s => confined_finalTest s id) _ _

theorem confined_disarm (s : State) (m : MarkName) : Confined s (s.disarm m) := by
  cases m <;> constructor <;> rfl

theorem confined_fireMark (s : State) (m : MarkName) (pos : Nat) (c1 c2 : Nat) :
    Confined s (s.fireMark m pos c1 c2) := by
  cases m
  · exact ((confined_disarm ..).trans (confined_rollReq ..)).trans (confined_notify ..)
  · exact ((confined_disarm ..).trans (confined_cutReq ..)).trans (confined_notify ..)

theorem confined_moveMark (s : State) (c1 c2 : Nat) (m : MarkName) : Confined s (s.moveMark c1 c2 m) := by
  unfold State.moveMark
  exact confined_ite (Confined.refl s) (confined_ite (confined_fireMark ..)
    (confined_ite ((confined_disarm ..).trans (confined_notify ..)) (Confined.refl s)))

theorem confined_markHandoff (s : State) (c1 c2 : Nat) : Confined s (s.markHandoff c1 c2) := by
  unfold State.markHandoff
  exact confined_ite (Confined.refl s) ((confined_moveMark ..).trans (confined_moveMark ..))

theorem confined_fireEntered (s : State) (due : MarkDue) (m : MarkName) (entered : Bool) :
    Confined s (s.fireEntered due m entered) := by
  unfold State.fireEntered
  exact confined_ite (confined_fireMark ..) (Confined.refl s)

theorem confined_takeMarksFired (s : State) : Confined s s.takeMarksFired := by
  unfold State.takeMarksFired
  split
  · exact Confined.refl s
  · exact ((confined_modTakes ..).trans (confined_fireEntered ..)).trans (confined_fireEntered ..)

theorem confined_report (s : State) (k : TrefKind) (pos : Nat) (e : Int) : Confined s (s.report k pos e) := by
  unfold State.report
  split
  · exact (confined_notify ..).trans (confined_intake ..)
  · exact confined_notify ..

theorem confined_regained (s : State) (pos : Nat) : Confined s (s.regained pos) :=
  (confined_report ..).trans (confined_lowerReference _)

/-! ## The binding unit -/

theorem confined_followLastSlate (s : State) (id : Nat) : Confined s (s.followLastSlate id) := by
  unfold State.followLastSlate
  split
  · exact confined_ite (confined_modTakes ..) (Confined.refl s)
  · exact Confined.refl s

theorem confined_writeTake (s : State) (id station : Nat) (pos : Nat) (b : NoteBody) :
    Confined s (s.writeTake id station pos b) :=
  (confined_updRecord ..).trans (confined_followLastSlate ..)

theorem confined_bindNote (s : State) (note : CompletedNote) : Confined s (s.bindNote note).1 := by
  unfold State.bindNote
  split
  · exact Confined.refl s
  · unfold State.bindParsed
    split
    · unfold State.bindTake
      split
      · exact Confined.refl s
      · exact confined_ite ((confined_writeTake ..).trans (confined_modBinding ..)) (confined_writeTake ..)
    · exact confined_modBinding s fun x => x.apply note.station note.position false _
    · exact Confined.refl s

theorem confined_takeLineNote (s : State) (note : CompletedNote) : Confined s (s.takeLineNote note) :=
  (confined_bindNote s note).trans (confined_notify ..)

end Sys2Proof.Machine
end

