-- ==== Sys2Proof/Laws/Records.lean ====
section
/-! SUPPORT. Finding and changing take records, notices and replies: what each shared operation over them leaves, said
once. -/

namespace Sys2Proof.Machine

/-! ## Finding and changing records -/

/-- A search for an id finds a record of that id. -/
theorem record?_id {s : State} {id : Nat} {r : TakeRecord} (h : s.record? id = some r) : r.id = id := by
  have := List.find?_some h
  simpa using this

/-- A record found by its id stands in the table. -/
theorem record?_mem {s : State} {id : Nat} {r : TakeRecord} (h : s.record? id = some r) : r ∈ s.takes.table :=
  List.mem_of_find?_eq_some h

/-- The record found as open is open and stands in the table. -/
theorem openRecord?_spec {s : State} {r : TakeRecord} (h : s.openRecord? = some r) :
    r.state = .opened ∧ r ∈ s.takes.table := by
  refine ⟨?_, List.mem_of_find?_eq_some h⟩
  have := List.find?_some h
  simpa using this

/-- No take is open when no record is. -/
theorem openRecord?_none {s : State} (h : ∀ r ∈ s.takes.table, r.state ≠ .opened) : s.openRecord? = none := by
  unfold State.openRecord?
  rw [List.find?_eq_none]
  intro r hr
  simpa using h r hr

theorem find?_map_upd (l : List TakeRecord) (id j : Nat) (f : TakeRecord → TakeRecord) (hf : ∀ r, (f r).id = r.id) :
    (l.map fun r => if r.id = id then f r else r).find? (fun r => r.id == j) =
      (l.find? fun r => r.id == j).map fun r => if r.id = id then f r else r := by
  induction l with
  | nil => rfl
  | cons r rest ih =>
    have hid : (if r.id = id then f r else r).id = r.id := by
      split
      · exact hf r
      · rfl
    simp only [List.map_cons, List.find?_cons, hid]
    split
    · rfl
    · exact ih

/-- A record after a change that keeps ids: the changed record under its own id, the old one under another. -/
theorem record?_updRecord (s : State) (id j : Nat) (f : TakeRecord → TakeRecord) (hf : ∀ r, (f r).id = r.id) :
    (s.updRecord id f).record? j = (s.record? j).map fun r => if r.id = id then f r else r :=
  find?_map_upd s.takes.table id j f hf

/-- The changed record. -/
theorem record?_updRecord_same {s : State} {id : Nat} {f : TakeRecord → TakeRecord} {r : TakeRecord}
    (hf : ∀ r, (f r).id = r.id) (h : s.record? id = some r) : (s.updRecord id f).record? id = some (f r) := by
  rw [record?_updRecord s id id f hf, h]
  simp [record?_id h]

/-- Every other record stays. -/
theorem record?_updRecord_other {s : State} {id j : Nat} {f : TakeRecord → TakeRecord} (hf : ∀ r, (f r).id = r.id)
    (hj : j ≠ id) : (s.updRecord id f).record? j = s.record? j := by
  rw [record?_updRecord s id j f hf]
  cases h : s.record? j with
  | none => rfl
  | some r => simp [record?_id h, hj]

@[simp] theorem updRecord_delivery (s : State) (id : Nat) (f : TakeRecord → TakeRecord) :
    (s.updRecord id f).delivery = s.delivery := rfl
@[simp] theorem updRecord_link (s : State) (id : Nat) (f : TakeRecord → TakeRecord) :
    (s.updRecord id f).link = s.link := rfl
@[simp] theorem updRecord_binding (s : State) (id : Nat) (f : TakeRecord → TakeRecord) :
    (s.updRecord id f).binding = s.binding := rfl
@[simp] theorem updRecord_ring (s : State) (id : Nat) (f : TakeRecord → TakeRecord) :
    (s.updRecord id f).ring = s.ring := rfl
@[simp] theorem updRecord_drain (s : State) (id : Nat) (f : TakeRecord → TakeRecord) (d : Drain) :
    (s.updRecord id f).drain d = s.drain d := rfl
@[simp] theorem updRecord_takeState (s : State) (id : Nat) (f : TakeRecord → TakeRecord) :
    (s.updRecord id f).takes.state = s.takes.state := rfl
@[simp] theorem updRecord_caps (s : State) (id : Nat) (f : TakeRecord → TakeRecord) :
    (s.updRecord id f).takes.caps = s.takes.caps := rfl
@[simp] theorem updSection_delivery (s : State) (id : Nat) (d : Drain) (f : Section → Section) :
    (s.updSection id d f).delivery = s.delivery := rfl
@[simp] theorem updSection_link (s : State) (id : Nat) (d : Drain) (f : Section → Section) :
    (s.updSection id d f).link = s.link := rfl
@[simp] theorem updSection_binding (s : State) (id : Nat) (d : Drain) (f : Section → Section) :
    (s.updSection id d f).binding = s.binding := rfl
@[simp] theorem updSection_ring (s : State) (id : Nat) (d : Drain) (f : Section → Section) :
    (s.updSection id d f).ring = s.ring := rfl
@[simp] theorem updSection_drain (s : State) (id : Nat) (d e : Drain) (f : Section → Section) :
    (s.updSection id d f).drain e = s.drain e := rfl

/-- A record after a change of one section. -/
theorem record?_updSection (s : State) (id j : Nat) (d : Drain) (f : Section → Section) :
    (s.updSection id d f).record? j =
      (s.record? j).map fun r => if r.id = id then { r with sections := r.sections.modify d f } else r :=
  record?_updRecord s id j _ fun _ => rfl

/-! ## Notices -/

@[simp] theorem notify_takes (s : State) (n : Notice) : (s.notify n).takes = s.takes := rfl
@[simp] theorem notify_delivery (s : State) (n : Notice) : (s.notify n).delivery = s.delivery := rfl
@[simp] theorem notify_binding (s : State) (n : Notice) : (s.notify n).binding = s.binding := rfl
@[simp] theorem notify_drain (s : State) (n : Notice) (d : Drain) : (s.notify n).drain d = s.drain d := rfl
@[simp] theorem notify_record? (s : State) (n : Notice) (id : Nat) : (s.notify n).record? id = s.record? id := rfl
@[simp] theorem notify_timeline (s : State) (n : Notice) : (s.notify n).timeline = s.timeline := rfl
@[simp] theorem notify_ring (s : State) (n : Notice) : (s.notify n).ring = s.ring := rfl

/-- A notice handed over while the queue has room joins it and takes the next sequence (R173). -/
theorem notify_room {s : State} (n : Notice) (h : NoticeRoom s) :
    s.notify n = { s with link := noticed s.link n } := by
  have h' : s.link.notices.length < Config.maxNotices := h
  simp [State.notify, State.modLink, h', noticed]

/-- A notice handed over to a full queue is dropped and counted, its sequence is used, and NOTICES LOST is set (R173). -/
theorem notify_full {s : State} (n : Notice) (h : ¬NoticeRoom s) :
    s.notify n = { s with link := { s.link with
      nextSeq := (s.link.nextSeq + 1) % 65536, lostCount := bump Config.countTop s.link.lostCount
      conds := { s.link.conds with noticesLost := true } } } := by
  have h' : ¬s.link.notices.length < Config.maxNotices := h
  simp [State.notify, State.modLink, h']

/-- The notice queue never outgrows its 32 places. -/
theorem notify_capacity {s : State} (n : Notice) (h : s.link.notices.length ≤ 32) :
    (s.notify n).link.notices.length ≤ 32 := by
  by_cases hr : NoticeRoom s
  · rw [notify_room n hr]
    have : s.link.notices.length < 32 := hr
    simp [noticed]
    omega
  · rw [notify_full n hr]
    exact h

/-! ## Event intake -/

/-- No take is open: an event goes nowhere (R55). -/
theorem intake_none {s : State} (e : Event) (h : s.openRecord? = none) : s.intake e = s := by
  unfold State.intake
  rw [h]

/-- An event that feeds the open take is entered, or counted lost (R73, R88). -/
theorem intake_open {s : State} {e : Event} {r : TakeRecord} (h : s.openRecord? = some r)
    (hf : s.eventFeeds r.mask e = true) : s.intake e = s.updRecord r.id (TakeRecord.enter e) := by
  unfold State.intake
  simp [h, hf]

@[simp] theorem intake_link (s : State) (e : Event) : (s.intake e).link = s.link := by
  unfold State.intake
  split
  · rfl
  · split <;> rfl
@[simp] theorem intake_delivery (s : State) (e : Event) : (s.intake e).delivery = s.delivery := by
  unfold State.intake
  split
  · rfl
  · split <;> rfl
@[simp] theorem intake_binding (s : State) (e : Event) : (s.intake e).binding = s.binding := by
  unfold State.intake
  split
  · rfl
  · split <;> rfl

/-! ## Drains moving on (R111) -/

section
variable (x : Section) (c : Prop) [Decidable c] (p : TakeRecord) (t : State)

@[simp] theorem movedOn_formation : (x.movedOn c).formation = x.formation := rfl
@[simp] theorem movedOn_confirmed : (x.movedOn c).confirmed = x.confirmed := rfl
@[simp] theorem movedOn_abandoned : (x.movedOn c).abandoned = x.abandoned := rfl
@[simp] theorem movedOn_delivered : (x.movedOn c).delivered = x.delivered := rfl
@[simp] theorem movedOn_id : (p.movedOn t).id = p.id := rfl
@[simp] theorem movedOn_state : (p.movedOn t).state = p.state := rfl
@[simp] theorem movedOn_endPos : (p.movedOn t).endPos = p.endPos := rfl

/-- A drain moves on only to a section that is PENDING, which stays to be delivered. -/
@[simp] theorem movedOn_live : (x.movedOn c).live = x.live := by
  unfold Section.movedOn Section.live
  cases x.state <;> by_cases h : c <;> simp [h]

/-- A record that is not live has nothing a drain could move on to. -/
theorem movedOn_eq (h : p.live = false) : p.movedOn t = p := by
  have keep (y : Section) (k : Prop) [Decidable k] (hy : y.live = false) : y.movedOn k = y := by
    have : y.state ≠ .pending := fun e => by simp [Section.live, e] at hy
    simp [Section.movedOn, this]
  simp only [TakeRecord.live, Bool.or_eq_false_iff] at h
  simp [TakeRecord.movedOn, keep _ _ h.1, keep _ _ h.2]

end

/-! ## Requests -/

/-- A request that finds room is handled on the counted link and its reply placed (R168 to R170). -/
theorem serve_room {s : State} (tag : BitVec 8) (kind : Text) (handle : State → Answer) (h : HasRoom s) :
    s.serve tag kind handle = (handle (s.modLink Link.goodFrame)).place tag kind := by
  have h' : s.link.replies.length < Config.maxReplies := h
  simp [State.serve, Link.replyRoom, h']

/-- A request that finds 8 replies waiting is discarded (R169). -/
theorem serve_full {s : State} (tag : BitVec 8) (kind : Text) (handle : State → Answer)
    (h : s.link.replies.length = 8) : s.serve tag kind handle = { s with link := discarded s.link } := by
  have h' : ¬s.link.replies.length < Config.maxReplies := by
    rw [h]
    decide
  simp [State.serve, Link.replyRoom, h', State.modLink, Link.goodFrame, Link.overrunDiscard, discarded, bump]
  rfl

/-- A request refused changes nothing but its reply (R171). -/
@[simp] theorem refuse_place (s : State) (tag : BitVec 8) (k : ReqKind) (x : Status) :
    (refuse (s.modLink Link.goodFrame) x).place tag k.word = replied s tag k x .none := rfl

/-- A request that reads changes nothing but its reply. -/
@[simp] theorem read_place (s : State) (tag : BitVec 8) (k : ReqKind) (r : Result) :
    (okAnswer (s.modLink Link.goodFrame) r).place tag k.word = replied s tag k .ok r := rfl

end Sys2Proof.Machine
end

