-- ==== Sys2Proof/Laws/Store.lean ====
section
/-! SUPPORT. The capture ring's store: a slot reads as it was written, every other slot keeps its samples, and a write keeps
the canonical form. -/

namespace Sys2Proof.Machine

/-- Above a bound that lies at or above a slot, the slot reads as an unlisted one. -/
theorem readSlot_below {cells : List (Nat × Vector Sample 24)} {low slot : Nat}
    (h : risingFrom (some low) cells = true) (hs : slot ≤ low) : readSlot cells slot = zeroSlot := by
  induction cells generalizing low with
  | nil => rfl
  | cons c rest ih =>
    obtain ⟨k, v⟩ := c
    simp only [risingFrom, Bool.and_eq_true, decide_eq_true_eq] at h
    rw [readSlot, if_neg (by omega)]
    exact ih h.2 (by omega)

/-- A bound may be lowered. -/
theorem risingFrom_lower {cells : List (Nat × Vector Sample 24)} {low low' : Nat}
    (h : risingFrom (some low) cells = true) (hl : low' ≤ low) : risingFrom (some low') cells = true := by
  cases cells with
  | nil => rfl
  | cons c rest =>
    obtain ⟨k, v⟩ := c
    simp only [risingFrom, Bool.and_eq_true, decide_eq_true_eq] at h ⊢
    exact ⟨by omega, h.2⟩

/-- A bound may be dropped. -/
theorem risingFrom_none {cells : List (Nat × Vector Sample 24)} {low : Nat}
    (h : risingFrom (some low) cells = true) : risingFrom none cells = true := by
  cases cells with
  | nil => rfl
  | cons c rest =>
    obtain ⟨k, v⟩ := c
    simp only [risingFrom, Bool.and_eq_true] at h ⊢
    exact h.2

/-- A slot reads as it was written. -/
theorem readSlot_writeSlot_same {cells : List (Nat × Vector Sample 24)} {slot : Nat} {x : Vector Sample 24}
    (h : risingFrom none cells = true) : readSlot (writeSlot cells slot x) slot = x := by
  induction cells with
  | nil =>
    unfold writeSlot
    split
    · rename_i hx
      simp [readSlot, hx]
    · simp [readSlot]
  | cons c rest ih =>
    obtain ⟨k, v⟩ := c
    simp only [risingFrom] at h
    unfold writeSlot
    split
    · split
      · rename_i hlt hx
        rw [readSlot, if_neg (by omega), hx]
        exact readSlot_below h (by omega)
      · simp [readSlot]
    · split
      · rename_i heq
        split
        · rename_i hx
          rw [hx, heq]
          exact readSlot_below h (Nat.le_refl k)
        · simp [readSlot, heq]
      · rename_i hlt hne
        rw [readSlot, if_neg (by omega)]
        exact ih (risingFrom_none h)

/-- A write leaves every other slot. -/
theorem readSlot_writeSlot_other {cells : List (Nat × Vector Sample 24)} {slot other : Nat} {x : Vector Sample 24}
    (hne : other ≠ slot) : readSlot (writeSlot cells slot x) other = readSlot cells other := by
  induction cells with
  | nil =>
    unfold writeSlot
    split
    · rfl
    · simp [readSlot, Ne.symm hne]
  | cons c rest ih =>
    obtain ⟨k, v⟩ := c
    unfold writeSlot
    split
    · split
      · rfl
      · rw [readSlot, if_neg (Ne.symm hne)]
    · split
      · rename_i heq
        subst heq
        split <;> simp [readSlot, Ne.symm hne]
      · simp only [readSlot, ih]

/-- A write keeps the slot numbers rising above a bound that lies below the slot. -/
theorem risingFrom_writeSlot_some {cells : List (Nat × Vector Sample 24)} {low slot : Nat} {x : Vector Sample 24}
    (h : risingFrom (some low) cells = true) (hs : low < slot) : risingFrom (some low) (writeSlot cells slot x) = true := by
  induction cells generalizing low with
  | nil =>
    unfold writeSlot
    split
    · rfl
    · simpa [risingFrom] using hs
  | cons c rest ih =>
    obtain ⟨k, v⟩ := c
    have h' := h
    simp only [risingFrom, Bool.and_eq_true, decide_eq_true_eq] at h
    unfold writeSlot
    split
    · split
      · exact h'
      · rename_i hlt _
        simp only [risingFrom, Bool.and_eq_true, decide_eq_true_eq]
        exact ⟨hs, hlt, h.2⟩
    · split
      · split
        · exact risingFrom_lower h.2 (by omega)
        · simp only [risingFrom, Bool.and_eq_true, decide_eq_true_eq]
          exact h
      · simp only [risingFrom, Bool.and_eq_true, decide_eq_true_eq]
        exact ⟨h.1, ih h.2 (by omega)⟩

/-- A write keeps the slot numbers rising. -/
theorem risingFrom_writeSlot {cells : List (Nat × Vector Sample 24)} {slot : Nat} {x : Vector Sample 24}
    (h : risingFrom none cells = true) : risingFrom none (writeSlot cells slot x) = true := by
  cases cells with
  | nil =>
    unfold writeSlot
    split <;> rfl
  | cons c rest =>
    obtain ⟨k, v⟩ := c
    simp only [risingFrom] at h
    unfold writeSlot
    split
    · split
      · exact h
      · rename_i hlt _
        simp only [risingFrom, Bool.and_eq_true, decide_eq_true_eq]
        exact ⟨hlt, h⟩
    · split
      · split
        · exact risingFrom_none h
        · exact h
      · simp only [risingFrom]
        exact risingFrom_writeSlot_some h (by omega)

/-- Every entry after a write is an old entry or the one written, which is not what an unlisted slot holds. -/
theorem mem_writeSlot {cells : List (Nat × Vector Sample 24)} {slot : Nat} {x : Vector Sample 24}
    {c : Nat × Vector Sample 24} (h : c ∈ writeSlot cells slot x) : c ∈ cells ∨ (c = (slot, x) ∧ x ≠ zeroSlot) := by
  induction cells with
  | nil =>
    unfold writeSlot at h
    split at h
    · exact absurd h (List.not_mem_nil)
    · rename_i hx
      exact .inr ⟨List.mem_singleton.mp h, hx⟩
  | cons d rest ih =>
    obtain ⟨k, v⟩ := d
    unfold writeSlot at h
    split at h
    · split at h
      · exact .inl h
      · rename_i hx
        rcases List.mem_cons.mp h with h | h
        · exact .inr ⟨h, hx⟩
        · exact .inl h
    · split at h
      · rename_i heq
        split at h
        · exact .inl (List.mem_cons_of_mem _ h)
        · rename_i hx
          rcases List.mem_cons.mp h with h | h
          · exact .inr ⟨by rw [h, heq], hx⟩
          · exact .inl (List.mem_cons_of_mem _ h)
      · rcases List.mem_cons.mp h with h | h
        · exact .inl (h ▸ List.mem_cons_self)
        · rcases ih h with h | h
          · exact .inl (List.mem_cons_of_mem _ h)
          · exact .inr h

/-- The ring's write keeps the canonical form of the store. -/
theorem wf_writeRing (s : State) (x : Vector Sample 24) (h : s.ring.wf = true) : (s.writeRing x).ring.wf = true := by
  unfold Ring.wf at h ⊢
  rw [Bool.and_eq_true] at h ⊢
  refine ⟨risingFrom_writeSlot h.1, ?_⟩
  rw [List.all_eq_true] at h ⊢
  intro c hc
  rcases mem_writeSlot hc with hc | ⟨rfl, hx⟩
  · exact h.2 c hc
  · have hs : slotOf s.ring.p < Config.ringSlots := Nat.mod_lt _ (by decide)
    simp [hs, hx]

/-- The ring's write, read back: the slot of P holds what was written, every other slot what it held. -/
theorem readSlot_writeRing (s : State) (x : Vector Sample 24) (slot : Nat) (h : s.ring.wf = true) :
    readSlot (s.writeRing x).ring.cells slot =
      if slot = slotOf s.ring.p then x else readSlot s.ring.cells slot := by
  unfold Ring.wf at h
  rw [Bool.and_eq_true] at h
  split
  · rename_i hs
    subst hs
    exact readSlot_writeSlot_same h.1
  · rename_i hs
    exact readSlot_writeSlot_other hs

/-! ## The sample read (R61) -/

theorem retains_iff (r : Ring) (p : Nat) : r.retains p = true ↔ r.p - 2097152 ≤ p ∧ p < r.p := by
  rw [Ring.retains, Bool.and_eq_true, decide_eq_true_iff, decide_eq_true_iff]
  exact Iff.rfl

/-- A run inside the retained range is read whole. -/
theorem read_retained (r : Ring) {a n : Nat} (mask : TrackSet) (h : r.p - 2097152 ≤ a) (k : a + n ≤ r.p) :
    r.read a n mask = { groups := (List.range n).map fun i => r.group mask (a + i), short := false } := by
  have hrun : r.retainedRun a n = (List.range n).map fun i => a + i := by
    refine List.filter_eq_self.mpr fun p hp => ?_
    obtain ⟨i, hi, rfl⟩ := List.mem_map.mp hp
    have := List.mem_range.mp hi
    exact (retains_iff r _).mpr ⟨by omega, by omega⟩
  simp [Ring.read, hrun, Function.comp_def]

/-- The positions that a read answers with are those of the run inside the retained range. -/
theorem mem_retainedRun (r : Ring) (a n p : Nat) :
    p ∈ r.retainedRun a n ↔ (a ≤ p ∧ p < a + n) ∧ r.p - 2097152 ≤ p ∧ p < r.p := by
  rw [Ring.retainedRun, List.mem_filter, retains_iff, List.mem_map]
  refine and_congr_left fun _ => ⟨?_, fun h => ⟨p - a, ?_, ?_⟩⟩
  · rintro ⟨i, hi, rfl⟩
    have := List.mem_range.mp hi
    omega
  · exact List.mem_range.mpr (by omega)
  · omega

/-- A read is reported short where its run reaches outside the retained range, and only there. -/
theorem read_short (r : Ring) (a n : Nat) (mask : TrackSet) :
    (r.read a n mask).short = true ↔ 0 < n ∧ (a < r.p - 2097152 ∨ r.p < a + n) := by
  have hlen : ((List.range n).map fun i => a + i).length = n := by simp
  have key : (r.read a n mask).short = true ↔ ∃ p ∈ (List.range n).map fun i => a + i, ¬r.retains p = true := by
    rw [← List.length_filter_lt_length_iff_exists, hlen]
    exact decide_eq_true_iff
  rw [key]
  constructor
  · rintro ⟨p, hp, hr⟩
    obtain ⟨i, hi, rfl⟩ := List.mem_map.mp hp
    have := List.mem_range.mp hi
    rw [retains_iff] at hr
    omega
  · rintro ⟨hn, h⟩
    rcases h with h | h
    · exact ⟨a + 0, List.mem_map.mpr ⟨0, List.mem_range.mpr hn, rfl⟩, by rw [retains_iff]; omega⟩
    · exact ⟨a + (n - 1), List.mem_map.mpr ⟨n - 1, List.mem_range.mpr (by omega), rfl⟩, by rw [retains_iff]; omega⟩

/-- Power-on reset and RSET ENGINE keep the canonical form: the slots are not cleared (R64). -/
theorem wf_ringReset (r : Ring) (h : r.wf = true) : r.reset.wf = true := h

/-- The store of the reset state is canonical. -/
theorem wf_reset : State.reset.ring.wf = true := rfl

end Sys2Proof.Machine
end

