-- ==== Sys2Proof/Laws/Audio.lean ====
section
/-! SUPPORT. What settling the last advance and taking an audio frame leave in each block, said once. -/

namespace Sys2Proof.Machine

/-! ## The edges -/

theorem confined_lineRequest (s : State) (n : Line) (q : TrigRequest) (pos : Nat) :
    Confined s (s.lineRequest n q pos).1 := by
  cases q
  · exact confined_rollReq ..
  · exact confined_cutReq ..
  · unfold State.lineRequest
    dsimp only
    split
    · exact confined_cutReq ..
    · exact confined_rollReq ..

/-- A request handed for an edge changes, beyond what its roll or cut changes, the trigger unit alone. -/
theorem handEdge_spec (s : State) (n : Line) (c : Option ConfirmedEdge) :
    ∃ u f, Confined s u ∧ s.handEdge n c = u.modTriggers f := by
  unfold State.handEdge
  split
  · exact ⟨s, id, Confined.refl s, rfl⟩
  · split
    · exact ⟨s, id, Confined.refl s, rfl⟩
    · exact ⟨_, _, confined_lineRequest .., rfl⟩

/-- With no edge confirmed nothing is done. -/
theorem takeEdges_none {s : State} (h1 : s.triggers.line1.confirmed = none) (h2 : s.triggers.line2.confirmed = none) :
    s.takeEdges = s := by
  unfold State.takeEdges
  simp [TrigLine.settleEdge, h1, h2, State.handEdge, State.modTriggers]

/-- Acting on edges leaves the audio path, the ring, the timeline, the notes and the line. -/
theorem takeEdges_frame (s : State) :
    s.takeEdges.pending = s.pending ∧ s.takeEdges.inputs = s.inputs ∧ s.takeEdges.router = s.router
    ∧ s.takeEdges.timeline = s.timeline ∧ s.takeEdges.ring = s.ring ∧ s.takeEdges.notes = s.notes
    ∧ s.takeEdges.freeCount = s.freeCount ∧ s.takeEdges.link.conds.audioLost = s.link.conds.audioLost
    ∧ s.takeEdges.link.replies = s.link.replies := by
  unfold State.takeEdges
  obtain ⟨u, f, hu, hf⟩ := handEdge_spec
    (s.modTriggers fun t => { line1 := t.line1.settleEdge, line2 := t.line2.settleEdge }) .one s.triggers.line1.confirmed
  obtain ⟨v, g, hv, hg⟩ := handEdge_spec (u.modTriggers f) .two s.triggers.line2.confirmed
  rw [hf, hg]
  simp [hv.pending, hv.inputs, hv.router, hv.timeline, hv.ring, hv.notes, hv.freeCount, hv.audioLost, hv.replies,
    hu.pending, hu.inputs, hu.router, hu.timeline, hu.ring, hu.notes, hu.freeCount, hu.audioLost, hu.replies]

/-! ## Settling the last advance -/

/-- The loss of the reference is confined, but for the timeline unit. -/
theorem takeRefLost_frame (s : State) :
    s.takeRefLost.pending = s.pending ∧ s.takeRefLost.inputs = s.inputs ∧ s.takeRefLost.router = s.router
    ∧ s.takeRefLost.triggers = s.triggers ∧ s.takeRefLost.ring = s.ring ∧ s.takeRefLost.notes = s.notes
    ∧ s.takeRefLost.freeCount = s.freeCount ∧ s.takeRefLost.link.conds.audioLost = s.link.conds.audioLost
    ∧ s.takeRefLost.link.replies = s.link.replies := by
  unfold State.takeRefLost
  split
  · dsimp only
    split
    · exact ⟨rfl, rfl, rfl, rfl, rfl, rfl, rfl, rfl, rfl⟩
    · have h := (confined_report (s.modTimeline fun t => { t with candidate := none, ref := .holdover, regain := false })
        .refLost s.ring.p 0).trans (confined_raiseReference _)
      exact ⟨h.pending, h.inputs, h.router, h.triggers, h.ring, h.notes, h.freeCount, h.audioLost, h.replies⟩
  · exact ⟨rfl, rfl, rfl, rfl, rfl, rfl, rfl, rfl, rfl⟩

/-- What settling the last advance leaves in the blocks of the audio path. -/
theorem settleAdvance_frame (s : State) :
    s.settleAdvance.pending = s.pending
    ∧ s.settleAdvance.inputs = s.inputs
    ∧ s.settleAdvance.router = s.router
    ∧ s.settleAdvance.ring = s.ring ∧ s.settleAdvance.notes = s.notes ∧ s.settleAdvance.freeCount = s.freeCount
    ∧ s.settleAdvance.link.conds.audioLost = s.link.conds.audioLost := by
  unfold State.settleAdvance
  have e := takeEdges_frame s.takeTailEnd.takeLimitCut.takeWindowEnd.takeRefLost.takeMarksFired
  have m := confined_takeMarksFired s.takeTailEnd.takeLimitCut.takeWindowEnd.takeRefLost
  have r := takeRefLost_frame s.takeTailEnd.takeLimitCut.takeWindowEnd
  have c := ((confined_takeTailEnd s).trans (confined_takeLimitCut _)).trans (confined_takeWindowEnd _)
  refine ⟨?_, ?_, ?_, ?_, ?_, ?_, ?_⟩
  · rw [e.1, m.pending, r.1, c.pending]
  · rw [e.2.1, m.inputs, r.2.1, c.inputs]
  · rw [e.2.2.1, m.router, r.2.2.1, c.router]
  · rw [e.2.2.2.2.1, m.ring, r.2.2.2.2.1, c.ring]
  · rw [e.2.2.2.2.2.1, m.notes, r.2.2.2.2.2.1, c.notes]
  · rw [e.2.2.2.2.2.2.1, m.freeCount, r.2.2.2.2.2.2.1, c.freeCount]
  · rw [e.2.2.2.2.2.2.2.1, m.audioLost, r.2.2.2.2.2.2.2.1, c.audioLost]

/-- With no edge confirmed, settling the last advance leaves the trigger unit. -/
theorem settleAdvance_triggers {s : State} (h1 : s.triggers.line1.confirmed = none)
    (h2 : s.triggers.line2.confirmed = none) : s.settleAdvance.triggers = s.triggers := by
  unfold State.settleAdvance
  have m := confined_takeMarksFired s.takeTailEnd.takeLimitCut.takeWindowEnd.takeRefLost
  have r := takeRefLost_frame s.takeTailEnd.takeLimitCut.takeWindowEnd
  have c := ((confined_takeTailEnd s).trans (confined_takeLimitCut _)).trans (confined_takeWindowEnd _)
  have t : s.takeTailEnd.takeLimitCut.takeWindowEnd.takeRefLost.takeMarksFired.triggers = s.triggers := by
    rw [m.triggers, r.2.2.2.1, c.triggers]
  rw [takeEdges_none (by rw [t]; exact h1) (by rw [t]; exact h2)]
  exact t

/-- Settling the last advance leaves the track samples of the frame. -/
theorem settleAdvance_trackSamples (s : State) (slots : Vector (BitVec 32) 16) :
    s.settleAdvance.trackSamples slots = s.trackSamples slots := by
  have f := settleAdvance_frame s
  have o : s.settleAdvance.inputs.outputs slots = s.inputs.outputs slots := by
    simp [Inputs.outputs, f.2.1]
  simp [State.trackSamples, State.sumL, State.sumR, o, f.2.2.1]

/-! ## The frame -/

/-- The audio-link sync at a frame. -/
theorem takeSync_spec (s : State) :
    s.takeSync.inputs = { s.inputs with sync := .synced, syncTimer := Timer.zero }
    ∧ s.takeSync.router = s.router ∧ s.takeSync.ring = s.ring ∧ s.takeSync.takes = s.takes
    ∧ s.takeSync.delivery = s.delivery ∧ s.takeSync.triggers = s.triggers ∧ s.takeSync.timeline = s.timeline
    ∧ s.takeSync.pending = s.pending ∧ s.takeSync.notes = s.notes ∧ s.takeSync.freeCount = s.freeCount
    ∧ s.takeSync.binding = s.binding
    ∧ (s.inputs.sync = .lost → s.takeSync.link.conds.audioLost = false) := by
  unfold State.takeSync
  dsimp only
  split
  · exact ⟨rfl, rfl, rfl, rfl, rfl, rfl, rfl, rfl, rfl, rfl, rfl, fun _ => rfl⟩
  · rename_i h
    exact ⟨rfl, rfl, rfl, rfl, rfl, rfl, rfl, rfl, rfl, rfl, rfl, fun k => absurd k h⟩

/-- The frame in the conditioner and the mixer: beyond the two blocks, only the open take's event list can change. -/
theorem conditionFrame_frame (s : State) (slots : Vector (BitVec 32) 16) :
    Confined ((s.modInputs fun i => i.takeSlots slots).modRouter fun _ => s.routerAfter slots) (s.conditionFrame slots) :=
  confined_runAll _ (fun e s => confined_intake s e) _ _

theorem runAll_intake_frame (l : List Event) (s : State) :
    (runAll (fun e s => s.intake e) l s).link = s.link ∧ (runAll (fun e s => s.intake e) l s).delivery = s.delivery
    ∧ (runAll (fun e s => s.intake e) l s).binding = s.binding := by
  induction l generalizing s with
  | nil => exact ⟨rfl, rfl, rfl⟩
  | cons e l ih =>
    obtain ⟨h1, h2, h3⟩ := ih (s.intake e)
    exact ⟨h1.trans (intake_link s e), h2.trans (intake_delivery s e), h3.trans (intake_binding s e)⟩

/-- The blocks that take the new position: the trigger filters, the loss count and the mark latch alone change (R59). -/
theorem takePosition_frame (s : State) (l1 l2 : Bool) (w : Nat) :
    (s.takePosition l1 l2 w).pending = s.pending ∧ (s.takePosition l1 l2 w).inputs = s.inputs
    ∧ (s.takePosition l1 l2 w).router = s.router ∧ (s.takePosition l1 l2 w).ring = s.ring
    ∧ (s.takePosition l1 l2 w).triggers = s.triggers.sample l1 l2 w ∧ (s.takePosition l1 l2 w).notes = s.notes
    ∧ (s.takePosition l1 l2 w).freeCount = s.freeCount ∧ (s.takePosition l1 l2 w).link = s.link
    ∧ (s.takePosition l1 l2 w).delivery = s.delivery ∧ (s.takePosition l1 l2 w).takes.table = s.takes.table
    ∧ (s.takePosition l1 l2 w).binding = s.binding :=
  ⟨rfl, rfl, rfl, rfl, rfl, rfl, rfl, rfl, rfl, rfl, rfl⟩

/-- What the ring's write leaves outside the ring. -/
theorem writeRing_frame (s : State) (x : Vector Sample 24) :
    (s.writeRing x).pending = s.pending ∧ (s.writeRing x).inputs = s.inputs ∧ (s.writeRing x).router = s.router
    ∧ (s.writeRing x).triggers = s.triggers ∧ (s.writeRing x).notes = s.notes ∧ (s.writeRing x).link = s.link
    ∧ (s.writeRing x).delivery = s.delivery ∧ (s.writeRing x).takes = s.takes :=
  ⟨rfl, rfl, rfl, rfl, rfl, rfl, rfl, rfl⟩

/-- What an audio frame leaves in the blocks of the audio path, the ring, the trigger unit and the line, from the state in
which the last advance has been settled. -/
theorem takeAudio_frame (s : State) (slots : Vector (BitVec 32) 16) (l1 l2 : Bool) :
    (s.takeAudio slots l1 l2).pending = s.pending
    ∧ (s.takeAudio slots l1 l2).inputs =
        { s.inputs.takeSlots slots with sync := .synced, syncTimer := Timer.zero }
    ∧ (s.takeAudio slots l1 l2).router = s.routerAfter slots
    ∧ (s.takeAudio slots l1 l2).ring = (s.writeRing (s.trackSamples slots)).ring
    ∧ (s.takeAudio slots l1 l2).triggers = s.triggers.sample l1 l2 s.ring.p
    ∧ (s.takeAudio slots l1 l2).notes = s.notes
    ∧ (s.takeAudio slots l1 l2).freeCount = (s.writeRing (s.trackSamples slots)).freeCount
    ∧ (s.inputs.sync = .lost → (s.takeAudio slots l1 l2).link.conds.audioLost = false) := by
  have y := takeSync_spec s
  have c := conditionFrame_frame s.takeSync slots
  have o := confined_overrun ((s.takeSync.conditionFrame slots).writeRing (s.trackSamples slots))
  have hr : s.takeSync.routerAfter slots = s.routerAfter slots := by
    simp [State.routerAfter, State.sumL, State.sumR, Inputs.outputs, y.1, y.2.1]
  unfold State.takeAudio
  generalize hw : (s.takeSync.conditionFrame slots).writeRing (s.trackSamples slots) = w at o ⊢
  have q := takePosition_frame w.overrun l1 l2 s.ring.p
  have f := writeRing_frame (s.takeSync.conditionFrame slots) (s.trackSamples slots)
  have g : w.ring = (s.writeRing (s.trackSamples slots)).ring
      ∧ w.freeCount = (s.writeRing (s.trackSamples slots)).freeCount := by
    rw [← hw]
    simp [State.writeRing, c.ring, c.freeCount, y]
  rw [hw] at f
  refine ⟨?_, ?_, ?_, ?_, ?_, ?_, ?_, ?_⟩
  · rw [q.1, o.pending, f.1, c.pending]
    simp [y]
  · rw [q.2.1, o.inputs, f.2.1, c.inputs]
    simp [Inputs.takeSlots, y.1]
  · rw [q.2.2.1, o.router, f.2.2.1, c.router, State.modRouter_router, hr]
  · rw [q.2.2.2.1, o.ring, g.1]
  · rw [q.2.2.2.2.1, o.triggers, f.2.2.2.1, c.triggers]
    simp [y]
  · rw [q.2.2.2.2.2.1, o.notes, f.2.2.2.2.1, c.notes]
    simp [y]
  · rw [q.2.2.2.2.2.2.1, o.freeCount, g.2]
  · intro h
    rw [q.2.2.2.2.2.2.2.1, o.audioLost, f.2.2.2.2.2.1, c.audioLost]
    simp [y.2.2.2.2.2.2.2.2.2.2.2 h]

end Sys2Proof.Machine
end

