-- ==== Sys2Proof/Laws/Operands.lean ====
section
/-! SUPPORT. What the operand fields give: the clamps as minima and maxima, and the settings that the fields of a DRAN set
spell. -/

namespace Sys2Proof.Machine

/-- A clamp to a range is a minimum and a maximum. -/
theorem clamp_eq {low high : Nat} (n : Nat) (h : low ≤ high) : clamp low high n = max low (min n high) := by
  unfold clamp
  split
  · omega
  · split <;> omega

/-- The settings that a DRAN set stores, by its codes and its clamped lengths (R113). -/
theorem drainSettingsOf_eq {f : DrainFields} {x : DrainSettings} (enable : f.enable = if x.enabled = true then 1 else 0)
    (wordSize : f.wordSize = match x.wordSize with | .w16 => 16 | .w24 => 24)
    (byteOrder : f.byteOrder = if x.highFirst = true then 1 else 0)
    (blockLength : x.blockLength = max 256 (min f.blockLength.toNat 8192))
    (holdTimeout : x.holdTimeout = max 1 (min f.holdTimeout.toNat 60)) : drainSettingsOf f = some x := by
  obtain ⟨enabled, size, highFirst, _, _⟩ := x
  subst blockLength holdTimeout
  unfold drainSettingsOf
  rw [clamp_eq _ (by decide), clamp_eq _ (by decide), enable, wordSize, byteOrder]
  cases enabled <;> cases size <;> cases highFirst <;> rfl

end Sys2Proof.Machine
end

