-- ==== Sys2Proof/Laws/Sweep.lean ====
section
/-! SUPPORT. What the bookkeeping of the delivery list can do: activating sections, making records DONE and FINAL, and
sweeping the list. One relation says it once, each operation has one lemma, and the relation composes. -/

namespace Sys2Proof.Machine

/-- A section after bookkeeping: its state and its abandoned count alone can differ, and the state only of a section in
PENDING or ACTIVE. -/
structure SectionFollows (x y : Section) : Prop where
  same : y = { x with state := y.state, abandoned := y.abandoned }
  settled : x.live = false → y.state = x.state

/-- The states that `live` tells apart. -/
theorem live_congr {x y : Section} (h : y.state = x.state) : y.live = x.live := by
  unfold Section.live
  rw [h]

/-- A record after bookkeeping: its sections as above, and a CLOSED record may have become FINAL. -/
structure RecordFollows (r q : TakeRecord) : Prop where
  same : q = { r with state := q.state, earlyFinal := q.earlyFinal, sections := q.sections }
  state : q.state = r.state ∨ (r.state = .closed ∧ q.state = .final)
  sections : ∀ d : Drain, SectionFollows (r.sections.get d) (q.sections.get d)

theorem SectionFollows.refl (x : Section) : SectionFollows x x := ⟨rfl, fun _ => rfl⟩

theorem SectionFollows.trans {x y z : Section} (h : SectionFollows x y) (k : SectionFollows y z) :
    SectionFollows x z := by
  refine ⟨by rw [k.same, h.same], fun hx => ?_⟩
  have hy := h.settled hx
  exact (k.settled ((live_congr hy).trans hx)).trans hy

theorem RecordFollows.refl (r : TakeRecord) : RecordFollows r r := ⟨rfl, .inl rfl, fun _ => SectionFollows.refl _⟩

theorem RecordFollows.trans {r q p : TakeRecord} (h : RecordFollows r q) (k : RecordFollows q p) :
    RecordFollows r p := by
  refine ⟨?_, ?_, fun d => (h.sections d).trans (k.sections d)⟩
  · rw [k.same, h.same]
  · rcases h.state with hs | ⟨hs, hs'⟩
    · rcases k.state with ks | ⟨ks, ks'⟩
      · exact .inl (ks.trans hs)
      · exact .inr ⟨hs ▸ ks, ks'⟩
    · rcases k.state with ks | ⟨ks, _⟩
      · exact .inr ⟨hs, ks.trans hs'⟩
      · rw [hs'] at ks
        cases ks

/-- `t` follows `s` by bookkeeping of the delivery list. -/
structure Sweeps (s t : State) : Prop where
  confined : Confined s t
  binding : t.binding = s.binding
  takes : t.takes = { s.takes with table := t.takes.table }
  conds : t.link.conds.deliveryGap = s.link.conds.deliveryGap ∧ t.link.conds.referenceLost = s.link.conds.referenceLost
    ∧ t.link.conds.drainStalled = s.link.conds.drainStalled
  list : t.delivery.list.Sublist s.delivery.list
  ids : t.takes.table.map (fun r => r.id) = s.takes.table.map fun r => r.id
  notices : s.link.notices <+: t.link.notices
  drains : ∀ d : Drain, t.drain d = { s.drain d with inFlight := (t.drain d).inFlight }
    ∧ ((s.drain d).inFlight = none → (t.drain d).inFlight = none)
  missing : ∀ id, s.record? id = none → t.record? id = none
  records : ∀ id r, s.record? id = some r → ∃ q, t.record? id = some q ∧ RecordFollows r q
    ∧ ∀ d : Drain, (s.drain d).inFlight = none → (q.sections.get d).abandoned = (r.sections.get d).abandoned

theorem Sweeps.refl (s : State) : Sweeps s s :=
  ⟨Confined.refl s, rfl, rfl, ⟨rfl, rfl, rfl⟩, List.Sublist.refl _, rfl, List.prefix_rfl, fun _ => ⟨rfl, id⟩, fun _ h => h,
    fun _ r h => ⟨r, h, RecordFollows.refl r, fun _ _ => rfl⟩⟩

theorem Sweeps.trans {s t u : State} (h : Sweeps s t) (k : Sweeps t u) : Sweeps s u := by
  refine ⟨h.confined.trans k.confined, k.binding.trans h.binding, ?_, ?_, k.list.trans h.list, k.ids.trans h.ids,
    h.notices.trans k.notices, ?_, ?_, ?_⟩
  · rw [k.takes, h.takes]
  · exact ⟨k.conds.1.trans h.conds.1, k.conds.2.1.trans h.conds.2.1, k.conds.2.2.trans h.conds.2.2⟩
  · intro d
    refine ⟨?_, fun hn => (k.drains d).2 ((h.drains d).2 hn)⟩
    rw [(k.drains d).1, (h.drains d).1]
  · exact fun id hn => k.missing id (h.missing id hn)
  · intro id r hr
    obtain ⟨q, hq, hf, ha⟩ := h.records id r hr
    obtain ⟨p, hp, kf, ka⟩ := k.records id q hq
    exact ⟨p, hp, hf.trans kf, fun d hn => (ka d ((h.drains d).2 hn)).trans (ha d hn)⟩

/-- Bookkeeping, written as an update. -/
theorem Sweeps.eq {s t : State} (h : Sweeps s t) :
    t = { s with link := t.link, takes := t.takes, delivery := t.delivery } := by
  have := h.confined.eq
  rw [h.binding] at this
  exact this

/-- The end position, the identity and the slate of a record survive bookkeeping. -/
theorem RecordFollows.kept {r q : TakeRecord} (h : RecordFollows r q) :
    q.id = r.id ∧ q.start = r.start ∧ q.roll = r.roll ∧ q.cut = r.cut ∧ q.endTarget = r.endTarget
    ∧ q.endPos = r.endPos ∧ q.windowEnd = r.windowEnd ∧ q.mask = r.mask ∧ q.slate = r.slate ∧ q.events = r.events := by
  rw [h.same]
  exact ⟨rfl, rfl, rfl, rfl, rfl, rfl, rfl, rfl, rfl, rfl⟩

/-- The cursors and the counts of a section but for the abandoned one survive bookkeeping. -/
theorem SectionFollows.kept {x y : Section} (h : SectionFollows x y) :
    y.formation = x.formation ∧ y.confirmed = x.confirmed ∧ y.nextSeq = x.nextSeq ∧ y.delivered = x.delivered
    ∧ y.gapTotal = x.gapTotal ∧ y.gaps = x.gaps ∧ y.notListed = x.notListed ∧ y.gapPending = x.gapPending
    ∧ y.owing = x.owing := by
  rw [h.same]
  exact ⟨rfl, rfl, rfl, rfl, rfl, rfl, rfl, rfl, rfl⟩

/-! ## The operations -/

/-- A change of one record that keeps its id keeps the ids of the table. -/
theorem ids_updRecord (s : State) (id : Nat) (f : TakeRecord → TakeRecord) (hid : ∀ r, (f r).id = r.id) :
    (s.updRecord id f).takes.table.map (fun r => r.id) = s.takes.table.map fun r => r.id := by
  simp only [State.updRecord, State.modTakes_takes, List.map_map]
  refine List.map_congr_left fun r _ => ?_
  simp only [Function.comp_apply]
  split
  · exact hid r
  · rfl

/-- A change of one record that bookkeeping allows, and that keeps its abandoned counts. -/
theorem sweeps_updRecord {s : State} {id : Nat} {f : TakeRecord → TakeRecord} (hid : ∀ r, (f r).id = r.id)
    (hf : ∀ r, s.record? id = some r → RecordFollows r (f r))
    (ha : ∀ r d, ((f r).sections.get d).abandoned = (r.sections.get d).abandoned) : Sweeps s (s.updRecord id f) := by
  refine ⟨confined_updRecord .., rfl, rfl, ⟨rfl, rfl, rfl⟩, List.Sublist.refl _, ids_updRecord s id f hid,
    List.prefix_rfl, fun _ => ⟨rfl, fun h => h⟩, ?_, ?_⟩
  · intro j h
    rw [record?_updRecord s id j f hid, h]
    rfl
  · intro j r h
    rw [record?_updRecord s id j f hid, h]
    refine ⟨_, rfl, ?_, ?_⟩
    · dsimp only
      split
      · rename_i he
        refine hf r ?_
        rw [← he, record?_id h]
        exact h
      · exact RecordFollows.refl r
    · intro d _
      dsimp only
      split
      · exact ha r d
      · rfl

theorem sections_modify_follows (p : PerDrain Section) (d : Drain) (f : Section → Section)
    (hf : ∀ x, SectionFollows x (f x)) (e : Drain) : SectionFollows (p.get e) ((p.modify d f).get e) := by
  cases d <;> cases e <;> first | exact hf _ | exact SectionFollows.refl _

/-- A change of one section's state. -/
theorem sweeps_updSection {s : State} {id : Nat} {d : Drain} {f : Section → Section}
    (hf : ∀ x, SectionFollows x (f x)) (ha : ∀ x, (f x).abandoned = x.abandoned) : Sweeps s (s.updSection id d f) := by
  refine sweeps_updRecord (fun _ => rfl) (fun r _ => ⟨rfl, .inl rfl, sections_modify_follows _ _ _ hf⟩) ?_
  intro r e
  cases d <;> cases e <;> first | exact ha _ | rfl

theorem sweeps_activateOn (s : State) (d : Drain) : Sweeps s (s.activateOn d) := by
  unfold State.activateOn
  split
  · refine sweeps_updSection ?_ ?_
    · intro x
      split
      · rename_i hx
        exact ⟨rfl, fun hl => by simp [Section.live, hx] at hl⟩
      · exact SectionFollows.refl x
    · intro x
      split <;> rfl
  · exact Sweeps.refl s

theorem sweeps_activate (s : State) : Sweeps s s.activate := (sweeps_activateOn s .a).trans (sweeps_activateOn _ .b)

/-- A notice handed over. -/
theorem sweeps_notify (s : State) (n : Notice) : Sweeps s (s.notify n) := by
  refine ⟨confined_notify .., rfl, rfl, ?_, List.Sublist.refl _, rfl, ?_, fun _ => ⟨rfl, fun h => h⟩, fun _ h => h,
    fun _ r h => ⟨r, h, RecordFollows.refl r, fun _ _ => rfl⟩⟩
  all_goals
    unfold State.notify
    simp only [State.modLink_link]
    split
  · exact ⟨rfl, rfl, rfl⟩
  · exact ⟨rfl, rfl, rfl⟩
  · exact List.prefix_append _ _
  · exact List.prefix_rfl

/-- An unsettled block in flight is settled: its count is abandoned in the section of its drain. -/
theorem sweeps_settleOn (s : State) (id : Nat) (d : Drain) : Sweeps s (s.settleOn id d) := by
  unfold State.settleOn
  split
  · rename_i b hb
    have hne : (s.drain d).inFlight ≠ none := by
      intro h
      simp [DrainState.unsettledOf, h] at hb
    refine ⟨(confined_updSection ..).trans (confined_modDrain ..), rfl, rfl, ⟨rfl, rfl, rfl⟩, List.Sublist.refl _,
      ids_updRecord s id _ fun _ => rfl, List.prefix_rfl, ?_, ?_, ?_⟩
    · intro e
      by_cases he : e = d
      · subst he
        simp [hne]
      · simp [State.drain_modDrain_other _ _ _ _ he]
    · intro j h
      simp [record?_updSection, h]
    · intro j r h
      simp only [State.record?_modDrain, record?_updSection, h, Option.map_some, Option.some.injEq, exists_eq_left']
      split
      · refine ⟨⟨rfl, .inl rfl, sections_modify_follows _ _ _ fun x => ⟨rfl, fun _ => rfl⟩⟩, ?_⟩
        intro e he
        have hed : e ≠ d := by
          intro h'
          subst h'
          exact hne he
        simp [PerDrain.get_modify_other _ _ _ _ hed]
      · exact ⟨RecordFollows.refl r, fun _ _ => rfl⟩
  · exact Sweeps.refl s

/-- A CLOSED record becomes FINAL (R91, R130). -/
theorem sweeps_makeFinal {s : State} {id : Nat} {early : Bool}
    (h : ∀ r, s.record? id = some r → r.state = .closed) : Sweeps s (s.makeFinal id early) := by
  have h1 := (sweeps_settleOn s id .a).trans (sweeps_settleOn _ id .b)
  have h2 : Sweeps s (((s.settleOn id .a).settleOn id .b).updRecord id fun r =>
      { r with state := .final, earlyFinal := r.earlyFinal || early }) := by
    refine h1.trans (sweeps_updRecord (fun _ => rfl) ?_ fun _ _ => rfl)
    intro q hq
    refine ⟨rfl, .inr ⟨?_, rfl⟩, fun _ => SectionFollows.refl _⟩
    cases hs : s.record? id with
    | none =>
      rw [h1.missing id hs] at hq
      cases hq
    | some r =>
      obtain ⟨q', hq', hf, _⟩ := h1.records id r hs
      rw [hq'] at hq
      cases hq
      rcases hf.state with hstate | ⟨_, hstate⟩
      · exact hstate.trans (h r hs)
      · -- settling alone makes no record FINAL
        exfalso
        have : q.state = r.state := by
          have key : ∀ (u : State) (d : Drain) (p : TakeRecord), u.record? id = some p →
              ∃ p', (u.settleOn id d).record? id = some p' ∧ p'.state = p.state := by
            intro u d p hp
            unfold State.settleOn
            split
            · simp only [State.record?_modDrain, record?_updSection, hp, Option.map_some, Option.some.injEq,
                exists_eq_left']
              split <;> rfl
            · exact ⟨p, hp, rfl⟩
          obtain ⟨p1, hp1, hs1⟩ := key s .a r hs
          obtain ⟨p2, hp2, hs2⟩ := key _ .b p1 hp1
          rw [hp2] at hq'
          cases hq'
          exact hs2.trans hs1
        rw [this, h r hs] at hstate
        cases hstate
  unfold State.makeFinal
  dsimp only
  split
  · exact h2.trans (sweeps_notify ..)
  · exact h2

theorem sweeps_finalTest (s : State) (id : Nat) : Sweeps s (s.finalTest id) := by
  unfold State.finalTest
  split
  · rename_i r hr
    split
    · rename_i hd
      refine sweeps_makeFinal ?_
      intro q hq
      rw [hr] at hq
      cases hq
      simp only [State.isDueFinal, Bool.and_eq_true, beq_iff_eq] at hd
      exact hd.1.1
    · exact Sweeps.refl s
  · exact Sweeps.refl s

theorem sweeps_runAll {α : Type} (f : α → State → State) (hf : ∀ x s, Sweeps s (f x s)) (xs : List α) (s : State) :
    Sweeps s (runAll f xs s) := by
  induction xs generalizing s with
  | nil => exact Sweeps.refl s
  | cons x xs ih => exact (hf x s).trans (ih (f x s))

/-- The sweep of the delivery list (R90, R91, R109, R111). -/
theorem sweeps_sweepList (s : State) : Sweeps s s.sweepList := by
  unfold State.sweepList
  refine Sweeps.trans ?_ (sweeps_activate _)
  refine Sweeps.trans ?_ (sweeps_runAll _ (fun id s => sweeps_finalTest s id) _ _)
  refine ⟨confined_modDelivery .., rfl, rfl, ⟨rfl, rfl, rfl⟩, List.filter_sublist, rfl, List.prefix_rfl,
    fun d => ⟨?_, ?_⟩, fun _ h => h,
    fun _ r h => ⟨r, h, RecordFollows.refl r, fun _ _ => rfl⟩⟩
  · cases d <;> rfl
  · cases d <;> exact id

theorem sweeps_testDone (s : State) (id : Nat) (d : Drain) : Sweeps s (s.testDone id d) := by
  unfold State.testDone
  split
  · exact Sweeps.refl s
  · rename_i r hr
    split
    · rename_i hd
      refine sweeps_updRecord (fun _ => rfl) (fun q hq => ⟨rfl, .inl rfl, fun e => ?_⟩) fun q e => ?_
      · rw [hr] at hq
        cases hq
        by_cases he : e = d
        · subst he
          rw [PerDrain.get_modify_same]
          exact ⟨rfl, fun hl => by simp [hd.2.1] at hl⟩
        · rw [PerDrain.get_modify_other _ _ _ _ he]
          exact SectionFollows.refl _
      · cases d <;> cases e <;> rfl
    · exact Sweeps.refl s

/-- The test for DONE and the sweep that follows it (R117). -/
theorem sweeps_settleDone (s : State) (id : Nat) (d : Drain) : Sweeps s (s.settleDone id d) :=
  (sweeps_testDone s id d).trans (sweeps_sweepList _)

/-- The records whose window end P has reached (R91). -/
theorem sweeps_takeWindowEnd (s : State) : Sweeps s s.takeWindowEnd :=
  sweeps_runAll _ (fun id s => sweeps_finalTest s id) _ _

end Sys2Proof.Machine
end

