-- ==== Sys2Proof/Laws/Takes.lean ====
section
/-! SUPPORT. What opening, closing and cutting a take leave in the take controller, said once for each operation. -/

namespace Sys2Proof.Machine

/-- Beyond the take table, the take controller and the binding unit are as before. -/
structure SameController (s t : State) : Prop where
  state : t.takes.state = s.takes.state
  caps : t.takes.caps = s.takes.caps
  nextId : t.takes.nextId = s.takes.nextId
  lastSlate : t.takes.lastSlate = s.takes.lastSlate
  startMark : t.takes.startMark = s.takes.startMark
  stopMark : t.takes.stopMark = s.takes.stopMark
  markDue : t.takes.markDue = s.takes.markDue
  binding : t.binding = s.binding

theorem SameController.refl (s : State) : SameController s s := ⟨rfl, rfl, rfl, rfl, rfl, rfl, rfl, rfl⟩

theorem SameController.trans {s t u : State} (h : SameController s t) (k : SameController t u) : SameController s u :=
  ⟨k.state.trans h.state, k.caps.trans h.caps, k.nextId.trans h.nextId, k.lastSlate.trans h.lastSlate,
    k.startMark.trans h.startMark, k.stopMark.trans h.stopMark, k.markDue.trans h.markDue, k.binding.trans h.binding⟩

/-- The controller after such a change, written as an update of its table. -/
theorem SameController.takes_eq {s t : State} (h : SameController s t) :
    t.takes = { s.takes with table := t.takes.table } := by
  obtain ⟨h1, h2, h3, h4, h5, h6, h7, _⟩ := h
  simp only [← h1, ← h2, ← h3, ← h4, ← h5, ← h6, ← h7]

/-- Bookkeeping of the delivery list keeps the controller. -/
theorem Sweeps.sameController {s t : State} (h : Sweeps s t) : SameController s t := by
  have k := h.takes
  exact ⟨by rw [k], by rw [k], by rw [k], by rw [k], by rw [k], by rw [k], by rw [k], h.binding⟩

theorem sameController_updRecord (s : State) (id : Nat) (f : TakeRecord → TakeRecord) :
    SameController s (s.updRecord id f) :=
  ⟨rfl, rfl, rfl, rfl, rfl, rfl, rfl, rfl⟩

theorem sameController_notify (s : State) (n : Notice) : SameController s (s.notify n) :=
  ⟨rfl, rfl, rfl, rfl, rfl, rfl, rfl, rfl⟩

theorem sameController_intake (s : State) (e : Event) : SameController s (s.intake e) := by
  unfold State.intake
  split
  · exact SameController.refl s
  · split
    · exact sameController_updRecord ..
    · exact SameController.refl s

theorem sameController_makeFinal (s : State) (id : Nat) (early : Bool) : SameController s (s.makeFinal id early) := by
  have h := (((sweeps_settleOn s id .a).trans (sweeps_settleOn _ id .b)).sameController).trans
    (sameController_updRecord _ id fun r => { r with state := .final, earlyFinal := r.earlyFinal || early })
  unfold State.makeFinal
  dsimp only
  split
  · exact h.trans (sameController_notify ..)
  · exact h

theorem sameController_truncateOldest (s : State) : SameController s s.truncateOldest := by
  unfold State.truncateOldest
  split
  · exact SameController.refl s
  · exact (sameController_updRecord ..).trans (sweeps_sweepList _).sameController

theorem sameController_enterList (s : State) (id : Nat) : SameController s (s.enterList id) := by
  have h : ∀ (u : State) (f : Delivery → Delivery), SameController u (u.modDelivery f) := fun _ _ =>
    ⟨rfl, rfl, rfl, rfl, rfl, rfl, rfl, rfl⟩
  unfold State.enterList
  split
  · exact h ..
  · exact (sameController_truncateOldest s).trans (h ..)

theorem sameController_evict (s : State) : SameController s s.evict := by
  have h : ∀ (u : State) (l : TakeCtl → List TakeRecord),
      SameController u (u.modTakes fun t => { t with table := l t }) := fun _ _ =>
    ⟨rfl, rfl, rfl, rfl, rfl, rfl, rfl, rfl⟩
  unfold State.evict
  split
  · exact SameController.refl s
  · split
    · exact SameController.refl s
    · split
      · exact (sameController_makeFinal ..).trans (h _ _)
      · exact h s _

/-- The end of a take handed to the delivery engine keeps the controller. -/
theorem sameController_handEnd (s : State) (id : Nat) (e : Nat) : SameController s (s.handEnd id e) := by
  unfold State.handEnd
  exact (((sameController_updRecord ..).trans (sweeps_testDone ..).sameController).trans
    (sweeps_testDone ..).sameController).trans (sweeps_sweepList _).sameController

/-- Making room for a new take uses the id and keeps the rest of the controller (R75, R78). -/
theorem rollMakesRoom_controller (s : State) :
    SameController (s.modTakes fun t => { t with nextId := followingId t.nextId }) s.rollMakesRoom := by
  unfold State.rollMakesRoom
  dsimp only
  split
  · exact (sameController_enterList _ _).trans (sameController_evict _)
  · exact sameController_evict _

/-- The last record of the table after activation: its sections alone can differ. -/
theorem activateOn_last (s : State) (d : Drain) (q : TakeRecord) (h : s.takes.table.getLast? = some q) :
    ∃ p, (s.activateOn d).takes.table.getLast? = some p ∧ p = { q with sections := p.sections } := by
  unfold State.activateOn
  split
  · simp only [State.updSection, State.updRecord, State.modTakes_takes, List.getLast?_map, h, Option.map_some,
      Option.some.injEq, exists_eq_left']
    split <;> rfl
  · exact ⟨q, h, rfl⟩

/-- What a roll that opens a take leaves in the take controller and the binding unit (R75, R78, R92, R157). -/
theorem rollOpens_spec (s : State) (cause : Cause) (r : Nat) : ∃ q,
    (s.rollOpens cause r).takes.table.getLast? = some q ∧ q = { s.newRecord cause r with sections := q.sections }
    ∧ (s.rollOpens cause r).takes.state = .rolling
    ∧ (s.rollOpens cause r).takes.caps = s.takes.caps
    ∧ (s.rollOpens cause r).takes.nextId = followingId s.takes.nextId
    ∧ (s.rollOpens cause r).takes.lastSlate = some { id := q.id, scene := q.slate.scene, number := q.slate.number }
    ∧ (s.rollOpens cause r).takes.startMark = s.takes.startMark
    ∧ (s.rollOpens cause r).takes.stopMark = s.takes.stopMark
    ∧ (s.rollOpens cause r).binding = s.binding.taken := by
  have k := rollMakesRoom_controller s
  unfold State.rollOpens
  generalize s.rollMakesRoom = u at k
  dsimp only
  generalize hv : (u.modTakes fun t =>
      { t with table := t.table ++ [s.newRecord cause r], state := .rolling
               lastSlate := some { id := (s.newRecord cause r).id, scene := (s.newRecord cause r).slate.scene
                                   number := (s.newRecord cause r).slate.number } }).modBinding Binding.taken = v
  have hl : v.takes.table.getLast? = some (s.newRecord cause r) := by
    rw [← hv]
    simp
  obtain ⟨q1, h1, e1⟩ := activateOn_last v .a _ hl
  obtain ⟨q2, h2, e2⟩ := activateOn_last _ .b _ h1
  have c := (sweeps_activate v).sameController
  have e3 : q2 = { s.newRecord cause r with sections := q2.sections } := by
    rw [e2, e1]
  refine ⟨q2, h2, e3, ?_, ?_, ?_, ?_, ?_, ?_, ?_⟩
  · rw [notify_takes, c.state, ← hv]
    rfl
  · rw [notify_takes, c.caps, ← hv]
    exact k.caps
  · rw [notify_takes, c.nextId, ← hv]
    exact k.nextId
  · rw [notify_takes, c.lastSlate, ← hv, e3]
    rfl
  · rw [notify_takes, c.startMark, ← hv]
    exact k.startMark
  · rw [notify_takes, c.stopMark, ← hv]
    exact k.stopMark
  · rw [notify_binding, c.binding, ← hv]
    exact congrArg Binding.taken k.binding

/-- The end of a close, in the words of the statements (R87). -/
theorem closingEnd_eq (r : TakeRecord) (e : Nat) : r.closingEnd e = r.endRaised e := by
  unfold TakeRecord.closingEnd TakeRecord.endRaised Section.raiseEnd
  split <;> split <;> omega

/-- What a close leaves of the record that was open, of its sections and in the take controller, and the CLOS notice it
queues first (R87, R117). -/
theorem closeOpen_spec {s : State} {r : TakeRecord} (e : Nat) (ho : s.openRecord? = some r)
    (hr : s.record? r.id = some r) : ∃ q, (s.closeOpen e).record? r.id = some q
      ∧ (s.closeOpen e).takes.state = .stopped ∧ (s.closeOpen e).takes.nextId = s.takes.nextId
      ∧ (s.closeOpen e).takes.lastSlate = s.takes.lastSlate ∧ (s.closeOpen e).takes.caps = s.takes.caps
      ∧ (s.closeOpen e).binding = s.binding
      ∧ (q.state = .closed ∨ q.state = .final)
      ∧ q.endPos = some (r.closingEnd e) ∧ q.windowEnd = some (r.closingEnd e + s.takes.caps.window)
      ∧ q.endTarget = none ∧ q.cut = r.cut ∧ q.cutCause = r.cutCause ∧ q.slate = r.slate ∧ q.events = r.events
      ∧ q.start = r.start ∧ q.mask = r.mask ∧ q.limited = r.limited ∧ q.tailShortened = r.tailShortened
      ∧ (∀ d : Drain, SectionFollows ((r.sections.get d).settleOwing (r.closingEnd e)) (q.sections.get d)
        ∧ ((s.drain d).inFlight = none →
            (q.sections.get d).abandoned = ((r.sections.get d).settleOwing (r.closingEnd e)).abandoned))
      ∧ (NoticeRoom s → s.link.notices ++ [{ seq := s.link.nextSeq
                                             notice := r.closNotice (r.closingEnd e) s.takes.caps.window }]
          <+: (s.closeOpen e).link.notices) := by
  unfold State.closeOpen
  rw [ho]
  dsimp only
  generalize hu : ((s.updRecord r.id (TakeRecord.close (r.closingEnd e) s.takes.caps.window)).modTakes
    fun t => { t with state := .stopped }).notify (r.closNotice (r.closingEnd e) s.takes.caps.window) = u
  have hur : u.record? r.id = some (r.close (r.closingEnd e) s.takes.caps.window) := by
    rw [← hu, notify_record?]
    exact record?_updRecord_same (s := s) (fun _ => rfl) hr
  have huc : u.takes.state = .stopped ∧ u.takes.nextId = s.takes.nextId ∧ u.takes.lastSlate = s.takes.lastSlate
      ∧ u.takes.caps = s.takes.caps ∧ u.binding = s.binding := by
    rw [← hu]
    exact ⟨rfl, rfl, rfl, rfl, rfl⟩
  have sc := (sameController_handEnd u r.id (r.closingEnd e)).trans (sweeps_finalTest _ r.id).sameController
  have hset : (u.updRecord r.id fun q =>
      { q with sections := { a := q.sections.a.settleOwing (r.closingEnd e)
                             b := q.sections.b.settleOwing (r.closingEnd e) } }).record? r.id =
      some { r.close (r.closingEnd e) s.takes.caps.window with
        sections := { a := (r.close (r.closingEnd e) s.takes.caps.window).sections.a.settleOwing (r.closingEnd e)
                      b := (r.close (r.closingEnd e) s.takes.caps.window).sections.b.settleOwing (r.closingEnd e) } } :=
    record?_updRecord_same (s := u) (fun _ => rfl) hur
  have sw := (((sweeps_testDone (u.updRecord r.id fun q =>
      { q with sections := { a := q.sections.a.settleOwing (r.closingEnd e)
                             b := q.sections.b.settleOwing (r.closingEnd e) } }) r.id .a).trans
    (sweeps_testDone _ r.id .b)).trans (sweeps_sweepList _)).trans (sweeps_finalTest _ r.id)
  obtain ⟨q, hq, hf, ha⟩ := sw.records r.id _ hset
  have hd : ∀ d : Drain, (s.drain d).inFlight = none → (q.sections.get d).abandoned =
      ((r.sections.get d).settleOwing (r.closingEnd e)).abandoned := fun d hi => by
    refine (ha d ?_).trans (by cases d <;> rfl)
    rw [← hu]
    exact hi
  have hsec : ∀ d : Drain, SectionFollows ((r.sections.get d).settleOwing (r.closingEnd e))
      (q.sections.get d) := fun d => by
    have h := hf.sections d
    cases d <;> exact h
  have hk := hf.kept
  have hs := hf.state
  refine ⟨q, hq, sc.state.trans huc.1, sc.nextId.trans huc.2.1, sc.lastSlate.trans huc.2.2.1,
    sc.caps.trans huc.2.2.2.1, sc.binding.trans huc.2.2.2.2, ?_, hk.2.2.2.2.2.1, hk.2.2.2.2.2.2.1, hk.2.2.2.2.1,
    hk.2.2.2.1, ?_, hk.2.2.2.2.2.2.2.2.1, hk.2.2.2.2.2.2.2.2.2, hk.2.1, hk.2.2.2.2.2.2.2.1,
    ?_, ?_, fun d => ⟨hsec d, hd d⟩, ?_⟩
  · rcases hs with hs | ⟨_, hs⟩
    · exact .inl hs
    · exact .inr hs
  iterate 3
    · rw [hf.same]
      rfl
  · intro room
    have hn : u.link.notices = s.link.notices ++ [{ seq := s.link.nextSeq
                                                    notice := r.closNotice (r.closingEnd e) s.takes.caps.window }] := by
      rw [← hu]
      exact congrArg (fun v : State => v.link.notices) (notify_room (r.closNotice (r.closingEnd e) s.takes.caps.window)
        (s := (s.updRecord r.id (TakeRecord.close (r.closingEnd e) s.takes.caps.window)).modTakes
          fun t => { t with state := .stopped }) room)
    rw [← hn]
    exact sw.notices

end Sys2Proof.Machine
end

