-- ==== Sys2Proof/Tests/Slice0.lean ====
section
/-! SUPPORT. Tests on fixed values: the well-formedness checks, figures that the manual works out, and for every statement
with hypotheses a state and operands that meet them. Each test names the place its expected result comes from. -/

namespace Sys2Proof.Tests

open Sys2Proof Sys2Proof.Machine

-- One test at a time: each proof is a kernel evaluation, and many at once ask for more threads than the check allows.
set_option Elab.async false

/-- The state after one command. -/
def nx (c : Instr) (s : State) : State :=
  match exec c s with
  | .next t => t
  | .fault _ => s
  | .refused _ => s

/-- The reset state at a position. -/
def atP (p : Nat) : State := { State.reset with ring := { p := p, cells := [] } }

/-- An open record. -/
def openRec (id start roll : Nat) (mask : TrackSet) : TakeRecord :=
  { State.reset.newRecord .command roll with id := id, start := start, mask := mask }

/-- A section that delivers. -/
def activeSec (formation confirmed : Nat) : Section :=
  { newSection true 0 with state := .active, formation := formation, confirmed := confirmed }

/-- A state with one record open in ROLLING. -/
def rolling (p : Nat) (r : TakeRecord) : State :=
  { atP p with takes := { TakeCtl.initial with state := .rolling, table := [r], nextId := r.id + 1 } }

/-- The statuses of the waiting replies. -/
def statuses (s : State) : List Status := s.link.replies.map fun r => r.status

/-! ## Well-formedness -/

theorem test_wf_character_starts_high : (Instr.character 0x001#11).wf = false := by decide +kernel
theorem test_wf_character_starts_low : (Instr.character 0x602#11).wf = true := by decide +kernel
theorem test_wf_note_too_long : (Instr.note 0 (List.replicate 241 0x41#8)).wf = false := by decide +kernel
theorem test_wf_note_longest : (Instr.note 0 (List.replicate 240 0x41#8)).wf = true := by decide +kernel
theorem test_wf_badKind_names_a_request : (Instr.badKind 0 ReqKind.iden.word).wf = false := by decide +kernel
theorem test_wf_badKind_three_bytes : (Instr.badKind 0 [0x41, 0x41, 0x41]).wf = false := by decide +kernel
theorem test_wf_badKind_names_none : (Instr.badKind 0 [0x41, 0x41, 0x41, 0x41]).wf = true := by decide +kernel

/-! ## Positions and Timecode: worked figures of chapter 01 -/

/-- The 29.97 cadence, above and below the anchor. -/
theorem test_cadence : [1, 2, 3, 4, 5, -1, -2, -3].map (frameStart .r2997) =
    [1601, 3203, 4804, 6406, 8008, -1602, -3204, -4805] := by decide +kernel

/-- The timeline of the hour-boundary figure. -/
def dropLine : Timeline := { Timeline.initial with rate := .r2997drop, anchor := { pos := 1000000, count := 107890 } }

/-- A drop label at an hour boundary: count 107,892, phase 797, label 01:00:00;00. -/
theorem test_hour_boundary : dropLine.readingAt 1004000 =
    { count := 107892, phase := 797, label := { label := ⟨1, 0, 0, 0⟩, drop := true }, rate := .r2997drop } := by
  decide +kernel

/-- The start label of a pre-rolled take: count 107,742, phase 1,037, label 00:59:55;00. -/
theorem test_start_label : dropLine.readingAt 764000 =
    { count := 107742, phase := 1037, label := { label := ⟨0, 59, 55, 0⟩, drop := true }, rate := .r2997drop } := by
  decide +kernel

/-- Labels left out at a minute boundary: 01:01:00;02 is count 109,692, and 01:01:00;00 is no label. -/
theorem test_minute_boundary : labelCount .r2997drop ⟨1, 1, 0, 2⟩ = 109692
    ∧ validLabel .r2997drop ⟨1, 1, 0, 0⟩ = false := by decide +kernel

/-- Midnight at 25: the mark at count 5 is 15 frames ahead, and E(5) is 28,800. -/
theorem test_midnight : dist .r25 2159990 5 = 15
    ∧ ({ Timeline.initial with rate := .r25, anchor := { pos := 0, count := 2159990 } } : Timeline).expected 5 = 28800 := by
  decide +kernel

/-- Positions before the anchor: count 9 and phase 1,999, and count 2,073,595 with phase 0. -/
theorem test_before_anchor :
    let t : Timeline := { Timeline.initial with anchor := { pos := 100000, count := 10 } }
    t.countAt 99999 = 9 ∧ t.phaseAt 99999 = 1999 ∧ t.countAt 70000 = 2073595 ∧ t.phaseAt 70000 = 0 := by decide +kernel

/-! ## Reference and Jam: worked figures of chapter 02 -/

/-- Rate 25, FOLLOW, LOCKED, anchor (0, 0). -/
def locked25 : State :=
  { atP 962500 with timeline := { Timeline.initial with rate := .r25, mode := .follow, ref := .locked } }

/-- The stray frame 500 at 960,100 becomes the candidate. -/
theorem test_frame_disagrees : (nx (.frameArrival ⟨0, 0, 20, 0⟩ false 960100) locked25).timeline =
    { locked25.timeline with ref := .verifying, candidate := some { pos := 960100, count := 500 } } := by decide +kernel

/-- The jump: frame 501 at 962,020 is consistent with the candidate, and the anchor moves. -/
theorem test_frame_jump : (nx (.frameArrival ⟨0, 0, 20, 1⟩ false 962020) { locked25 with timeline :=
      { locked25.timeline with ref := .verifying, candidate := some { pos := 960100, count := 500 } } }).timeline =
    { locked25.timeline with anchor := { pos := 962020, count := 501 } } := by decide +kernel

/-- Loss at 24 frames per second: at the loss count 4,000 the state becomes HOLDOVER and the condition is set. -/
theorem test_ref_lost : let t := nx .refLost { atP 2105990 with timeline :=
      { Timeline.initial with mode := .follow, ref := .locked, loss := 4000, anchor := { pos := 2000000, count := 864000 } } }
    t.timeline.ref = .holdover ∧ t.link.conds.referenceLost = true
    ∧ t.link.notices.map (fun n => n.notice) =
        [.tref .refLost 2105990 .holdover { pos := 2000000, count := 864000 } 0] := by decide +kernel

/-- A TCST of a label left out is refused with LABEL (the minute-boundary figure). -/
theorem test_tcst_refuses : statuses (nx (.tcst 7 ⟨1, 1, 0, 0⟩) { atP 5 with timeline := dropLine }) = [.label] := by
  decide +kernel

/-- JAMS in FREE is refused with STATE (R32). -/
theorem test_jams_in_free : statuses (nx (.jams 7) State.reset) = [.state] := by decide +kernel

/-- A TLMD with a new rate sets the anchor to (P, 0) and the reference state to SEEKING in FOLLOW (R30). -/
theorem test_tlmd : (nx (.tlmd 1 2 2 600) (atP 77)).timeline =
    { Timeline.initial with rate := .r25, mode := .follow, tolerance := 480, anchor := { pos := 77, count := 0 }
                            ref := .seeking } := by decide +kernel

/-! ## Inputs, Mix and Tracks: worked figures of chapter 03 -/

/-- Input 3's settings in the dropout figure. -/
def input3 : ChannelSettings :=
  { ChannelSettings.initial with hold := 2, high := 8000000, low := 1000, dwell := 3 }

/-- Position 102: the hold yields -800, and the dropout and silent episodes start. -/
theorem test_input_dropout :
    let c : Channel := { Channel.initial with settings := input3, lastGood := BitVec.ofInt 24 (-800), silence := 2 }
    (c.output 0).toInt = -800 ∧ (c.takeSlot 0).holdCount = 1 ∧ (c.takeSlot 0).dropout = true
    ∧ (c.takeSlot 0).silence = 3 ∧ (c.takeSlot 0).silentFlag = true
    ∧ (c.newEvents (c.takeSlot 0) 3 102).map (fun e => e.kind) = [.dropout, .silent] := by decide +kernel

/-- Position 105: a flagged slot passes its own sample through, clips, and ends the silent episode. -/
theorem test_input_flagged :
    let c : Channel := { Channel.initial with
      settings := input3, lastGood := BitVec.ofInt 24 (-800), holdCount := 2, dropout := true, silence := 5,
      silentFlag := true }
    let w : BitVec 32 := (8100000#24 ++ 0xC0#8)
    (c.output w).toInt = 8100000 ∧ (c.takeSlot w).clip = true ∧ (c.takeSlot w).silentFlag = false
    ∧ (c.takeSlot w).holdCount = 2 ∧ (c.newEvents (c.takeSlot w) 3 105).map (fun e => e.kind) = [.clip] := by
  decide +kernel

/-- Polarity and gain at the limits. -/
theorem test_conditioning :
    (conditionSample { ChannelSettings.initial with inverted := true } (BitVec.ofInt 24 (-8388608))).toInt = 8388607
    ∧ (conditionSample { ChannelSettings.initial with gain := 32768 } 5000000#24).toInt = 8388607
    ∧ (conditionSample { ChannelSettings.initial with gain := 8192 } (BitVec.ofInt 24 (-1))).toInt = 0
    ∧ (conditionSample { ChannelSettings.initial with gain := 8192 } (BitVec.ofInt 24 (-3))).toInt = -1 := by
  decide +kernel

/-- A bus sum that saturates: 9,500,001 is clamped to 8,388,607, and this is a bus clip. -/
theorem test_bus_clip :
    let sum := busSum (Vector.ofFn fun k : Fin 16 => if k = 0 then 24576#16 else if k = 1 then 16384#16 else 0#16)
      (Vector.ofFn fun k : Fin 16 => if k = 0 then 5000000#24 else if k = 1 then 2000001#24 else 0#24)
    sum = 9500001 ∧ (busSample sum).toInt = 8388607 ∧ (MixBus.initial.takeSum sum).clip = true := by decide +kernel

/-- The clip episode of input 3 ends in the 4,800th consecutive period without a clip, with no event. -/
theorem test_clip_end :
    let c (n : Nat) : Channel := { Channel.initial with settings := input3, clip := true, quiet := n }
    let w : BitVec 32 := 2000#24 ++ 0x80#8
    ((c 4798).takeSlot w).clip = true ∧ ((c 4799).takeSlot w).clip = false ∧ ((c 4799).takeSlot w).quiet = 0
    ∧ (c 4799).newEvents ((c 4799).takeSlot w) 3 4905 = [] := by decide +kernel

/-- Links 3 and 24 of the arming figure. -/
def linked : State := { State.reset with router := { Router.initial with links := 0x800004#24 } }

/-- ARMT of tracks 1 and 3 brings 24 and 4. -/
theorem test_armt : (nx (.armt 1 0x000005#24) linked).router.armed = 0x80000D#24 := by decide +kernel

/-- A link on track 4 is refused with LINKED, and one on track 5 joins 5 and 6. -/
theorem test_trak_link : statuses (nx (.trakLink 1 4) linked) = [.linked]
    ∧ (nx (.trakLink 1 5) linked).router.links = 0x800014#24 := by decide +kernel

/-- UNLINK of track 24 breaks link 24. -/
theorem test_trak_unlink : (nx (.trakUnlink 1 24) linked).router.links = 0x000004#24 := by decide +kernel

/-- A frame is written at the slot of P, and P moves on (R57, R58): input 1 on track 1 by its default source. -/
theorem test_audio_frame :
    let t := nx (.audioFrame (Vector.ofFn fun k : Fin 16 => if k = 0 then 0x00012380#32 else 0x00000080#32) false true)
      State.reset
    t.ring.p = 1 ∧ (t.ring.samplesAt 0)[0] = 0x123#24 ∧ (t.ring.samplesAt 0)[1] = 0#24
    ∧ t.triggers.line1.level = some false ∧ t.triggers.line2.level = some true ∧ t.inputs.sync = .synced := by
  decide +kernel

/-- The sync is lost at the fourth tick: AUDIO LOST is set (R36). -/
theorem test_sync_loss :
    (nx .audioSyncLoss { State.reset with inputs := { Inputs.initial with sync := .synced } }).link.conds.audioLost = true := by
  decide +kernel

/-! ## Takes: worked sequence of chapter 05 -/

/-- The state before step 1: pre-roll 96,000, post-roll 48,000, tracks 1 to 4 armed, next take id 7. -/
def beforeSeven : State :=
  { atP 10000000 with
    router := { Router.initial with armed := 0xF#24 }
    takes := { TakeCtl.initial with nextId := 7 }
    delivery := { Delivery.initial true true with drains :=
      { a := { DrainState.initial true with settings := { DrainSettings.initial with enabled := true } }
        b := DrainState.initial true } } }

/-- Step 1: take 7 opens with start 9,904,000, and drain A is ACTIVE on it. -/
theorem test_roll : let t := nx (.roll 9) beforeSeven
    t.takes.state = .rolling ∧ t.takes.nextId = 8 ∧ t.delivery.list = [7]
    ∧ t.takes.table.map (fun r => (r.id, r.start, r.roll, r.mask, r.sections.a.state, r.sections.b.state)) =
        [(7, 9904000, 10000000, 0xF#24, .active, .off)]
    ∧ t.link.replies.map (fun r => r.result) = [.rollTaken 7 9904000 10000000] := by decide +kernel

/-- Take 7 in TAIL, cut at 10,479,904, at P = 10,500,000. -/
def tailSeven : State :=
  { atP 10500000 with
    router := { Router.initial with armed := 0xF#24 }
    takes := { TakeCtl.initial with
      state := .tail, nextId := 8
      table := [{ openRec 7 9904000 10000000 0xF with
        cut := some 10479904, cutCause := some .trigger1, endTarget := some 10527904 }] } }

/-- Step 3: the re-roll closes take 7 at 10,500,000 with TAIL SHORTENED and opens take 8 from 10,404,000. -/
theorem test_reroll : (nx (.roll 9) tailSeven).takes.table.map
      (fun r => (r.id, r.start, r.endPos, r.windowEnd, r.tailShortened)) =
    [(7, 9904000, some 10500000, some 11940000, true), (8, 10404000, none, none, false)] := by decide +kernel

/-- Step 4: a CUT request sets the cut and the end target, and the state becomes TAIL. -/
theorem test_cut : let t := nx (.cut 9) (rolling 10600000 (openRec 8 10404000 10500000 0xF))
    t.takes.state = .tail ∧ t.takes.table.map (fun r => (r.cut, r.endTarget)) = [(some 10600000, some 10648000)] := by
  decide +kernel

/-- Step 5: at P = 10,648,000 take 8 closes, with window end 12,088,000. -/
theorem test_tail_end :
    let s : State := { atP 10648000 with takes := { TakeCtl.initial with
      state := .tail
      table := [{ openRec 8 10404000 10500000 0xF with cut := some 10600000, endTarget := some 10648000 }] } }
    (nx .tailEnd s).takes.state = .stopped
    ∧ (nx .tailEnd s).takes.table.map (fun r => (r.state, r.endPos, r.windowEnd)) =
        [(.closed, some 10648000, some 12088000)] := by decide +kernel

/-- A CLOSED record. -/
def closedRec (id endPos windowEnd : Nat) : TakeRecord :=
  { openRec id 0 0 0xF with state := .closed, endPos := some endPos, windowEnd := some windowEnd }

/-- Step 7: at P = 11,940,000 take 7 becomes FINAL. -/
theorem test_window_end :
    (nx .windowEnd { atP 11940000 with takes := { TakeCtl.initial with
      table := [closedRec 7 10500000 11940000, closedRec 8 10648000 12088000] } }).takes.table.map (fun r => r.state) =
    [.final, .closed] := by decide +kernel

/-- The LIMIT cut of R85: at roll + M, with LIMITED set. -/
theorem test_limit_cut :
    (nx .limitCut { rolling 2980000 (openRec 8 0 100000 0xF) with takes :=
      { (rolling 2980000 (openRec 8 0 100000 0xF)).takes with caps := { Captures.initial with maxLength := 2880000 } } }
      ).takes.table.map (fun r => (r.cut, r.cutCause, r.limited)) = [(some 2980000, some .limit, true)] := by
  decide +kernel

/-- The full table and the full list: record 21 is removed, take 33 is truncated, and take 37 enters. -/
theorem test_full_table :
    let live (id : Nat) : TakeRecord := { closedRec id 40960000 90000000 with
      sections := { a := activeSec 40502048 40500000, b := activeSec 40200000 40200000 } }
    let s : State := { beforeSeven with takes := { TakeCtl.initial with
        nextId := 37
        table := (List.range' 21 11).map (fun id => { closedRec id 1 2 with state := .final })
          ++ [closedRec 32 1 90000000] ++ [33, 34, 35, 36].map live }
                                        delivery := { beforeSeven.delivery with list := [33, 34, 35, 36] } }
    let t := (s.rollReq .trigger1 10000000).1
    t.takes.table.map (fun r => r.id) = List.range' 22 16 ∧ t.delivery.list = [34, 35, 36, 37]
    ∧ (t.record? 33).map (fun r => (r.truncated, r.sections.a.abandoned, r.sections.b.abandoned)) =
        some (true, 457952, 760000) := by decide +kernel

/-! ## Roll and Cut Sources: worked sequences of chapter 06 -/

/-- Step 4 of the two cameras: line 1's release is HELD while line 2 is in LEVEL mode and asserted. -/
theorem test_edge_held :
    let s : State := { rolling 2000096 (openRec 12 904000 1000000 0xFF) with triggers :=
      { line1 := { TrigLine.initial with
          mode := .level, level := some true, edgeCount := 1,
          confirmed := some
            { level := false, first := 2000000, direction := .released, request := some .levelCut } }
        line2 := { TrigLine.initial with mode := .level, level := some true } } }
    let t := nx .edgeConfirmed s
    t.takes.state = .rolling ∧ t.triggers.line1.lastOutcome = some .held ∧ t.triggers.line1.edgeCount = 2
    ∧ t.triggers.line1.lastEdge = some (2000000, .released) := by decide +kernel

/-- Marks across a reference jump: the start mark is skipped, the stop mark kept. -/
theorem test_mark_skipped :
    let s : State := { atP 2602500 with
      timeline := { Timeline.initial with anchor := { pos := 2602001, count := 900001 } }
      takes := { TakeCtl.initial with
        startMark := { armed := true, count := 881280 }, stopMark := { armed := true, count := 907200 } } }
    let t := s.markHandoff 864301 900001
    t.takes.startMark = { armed := false, count := 881280 } ∧ t.takes.stopMark = { armed := true, count := 907200 }
    ∧ t.link.notices.length = 1 ∧ (s.markReport .stop).distance = some 7199 := by decide +kernel

/-- A start mark that a frame boundary has entered opens a take with the cause MARK and reports after OPEN (R100, R102). -/
theorem test_mark_fired :
    let s : State := { atP 5000000 with
      router := { Router.initial with armed := 1 }
      takes := { TakeCtl.initial with
        startMark := { armed := true, count := 12 },
        markDue := some { count := 12, pos := 4999990, start := true, stop := false } } }
    let t := nx .markFired s
    t.takes.state = .rolling ∧ t.takes.startMark.armed = false
    ∧ t.takes.table.map (fun r => (r.roll, r.rollCause)) = [(4999990, .mark)]
    ∧ t.link.notices.map (fun n => n.notice.noticeKind) = [.opening, .mrke] := by decide +kernel

/-- A TRIG set with a filter above 4,800 is clamped (R108). -/
theorem test_trig_set : (nx (.trigSet 1 2 1 1 5000) State.reset).triggers.line2 =
    { TrigLine.initial with mode := .level, assertedLow := true, filter := 4800 } := by decide +kernel

/-! ## Delivery and Formats: worked figures of chapters 07 and 11 -/

/-- Take 40 of the held mirror writer, on drain B. -/
def forty : TakeRecord :=
  { openRec 40 20000000 20096000 0x3F with sections :=
      { a := newSection false 20000000
        b := { activeSec 20004096 20004096 with nextSeq := 2, delivered := 4096 } } }

/-- Drain B, enabled, with a block length and a hold flag. -/
def drainB (n : Nat) (hold : Bool) : DrainState :=
  { DrainState.initial true with
    settings := { DrainSettings.initial with enabled := true, blockLength := n }, hold := hold }

/-- Take 40 in delivery on drain B. -/
def delivering (p : Nat) (r : TakeRecord) (x : DrainState) : State :=
  { rolling p r with delivery := { list := [r.id], drains := { a := DrainState.initial true, b := x } } }

/-- Step 2: the timer reaches 8,000 ms; DRNE STALLED is queued with the reason HELD. -/
theorem test_stalled : let t := nx (.stalled .b) (delivering 21384000 forty (drainB 2048 true))
    t.link.conds.drainStalled = true
    ∧ t.link.notices.map (fun n => n.notice) = [.drne .b .stalled 40 21384000 0 .held 8] := by decide +kernel

/-- Step 3: the write that makes P 22,101,249 pushes the section by 1. -/
theorem test_push :
    let t := (delivering 22101249 forty (drainB 2048 true)).overrun
    (t.record? 40).map (fun r => (r.sections.b.formation, r.sections.b.confirmed, r.sections.b.gaps)) =
      some (20004097, 20004097, [{ offset := 4096, length := 1 }])
    ∧ t.link.conds.deliveryGap = true
    ∧ t.link.notices.map (fun n => n.notice) = [.drne .b .gap 40 20004096 4096 .push 8] := by decide +kernel

/-- Step 4, with a block of 2 for the kernel's sake: the block starts at offset 102,848 with AFTER GAP and sequence 2. -/
theorem test_form_block :
    let t := nx (.formBlock .b) (delivering 22200000
      { forty with sections := { forty.sections with b :=
        { forty.sections.b with formation := 20102848, confirmed := 20102848, gapPending := true } } } (drainB 2 false))
    (t.drain .b).inFlight.map (fun b => (b.header.seq, b.header.offset, b.header.afterGap, b.payload.length)) =
      some (2, 102848, true, 36)
    ∧ (t.record? 40).map (fun r => (r.sections.b.formation, r.sections.b.nextSeq)) = some (20102850, 3) := by
  decide +kernel

/-- The block header of R185's figure. -/
theorem test_block_header :
    ({ takeId := 40, seq := 2, offset := 102848, count := 2048, mask := 0x3F, wordSize := .w24, highFirst := false,
       last := false, afterGap := true } : BlockHeader).bytes =
    [0x28, 0, 2, 0, 0, 0, 0xC0, 0x91, 1, 0, 0, 0, 0, 8, 0x3F, 0, 0, 0x18, 0, 2] := by decide +kernel

/-- The block of the abort figure: sequence 500, first position 30,000,000, count 2,048. -/
def block500 : Block :=
  { header := { takeId := 40, seq := 500, offset := 1000000, count := 2048, mask := 0x3F, wordSize := .w24,
                highFirst := false, last := false, afterGap := false }
    first := 30000000, settled := false, payload := [] }

/-- Case 3 of the abort figure: the whole block is lost, and the entry is widened backward. -/
theorem test_link_down :
    let r : TakeRecord := { openRec 40 29000000 29100000 0x3F with sections :=
      { a := newSection false 0
        b := { activeSec 30010000 30007952 with
          nextSeq := 501, delivered := 1000000, gapTotal := 7952, gaps := [{ offset := 1002048, length := 7952 }] } } }
    let t := nx (.linkDown .b) (delivering 32107152 r { drainB 2048 false with inFlight := some block500 })
    (t.record? 40).map (fun r => (r.sections.b.formation, r.sections.b.confirmed, r.sections.b.nextSeq,
        r.sections.b.gapTotal, r.sections.b.gaps)) =
      some (30010000, 30010000, 500, 10000, [{ offset := 1000000, length := 10000 }])
    ∧ (t.drain .b).linkUp = false := by decide +kernel

/-- A completion counts the block of the truncation figure: delivered becomes 502,048. -/
theorem test_completion :
    let r : TakeRecord := { closedRec 40 40960000 90000000 with sections :=
      { a := newSection false 0
        b := { activeSec 40502048 40500000 with state := .abandoned, delivered := 500000, abandoned := 457952 } } }
    (((nx (.completion .b) { delivering 50000000 r { drainB 2048 false with inFlight := some block500 } with
      takes := { TakeCtl.initial with table := [r] } }).record? 40).map fun r =>
        (r.sections.b.delivered, r.sections.b.abandoned)) = some (502048, 457952) := by decide +kernel

/-- Narrowing to 16 bits (R119): halves round up, and the top is held at 32,767. -/
theorem test_narrow : narrow16 128#24 = 1 ∧ narrow16 127#24 = 0 ∧ narrow16 0x7FFFFF#24 = 32767
    ∧ sampleBytes .w24 true 0x010203#24 = [1, 2, 3] := by decide +kernel

/-- A line whose last edge was asserted at 1: the position and the direction are each behind a Flag of their own (R103,
R183); and the numbering's codes, EXPLICIT 0 in the list of R72 and AUTO 0 in a header (R183, R184). -/
theorem test_trig_line_bytes :
    (({ TrigLine.initial with lastEdge := some (1, .asserted) } : TrigLine).bytes.drop 14).take 9 =
      [1, 1, 0, 0, 0, 0, 0, 1, 0]
    ∧ Numbering.explicit.bytes = [0] ∧ Numbering.auto.headerBytes = [0] := by decide +kernel

/-- HOLD and GO on an enabled drain (R123). -/
theorem test_hold_go : ((nx (.hold .b) (delivering 5 forty (drainB 2048 false))).drain .b).hold = true
    ∧ ((nx (.go .b) (delivering 5 forty (drainB 2048 true))).drain .b).hold = false := by decide +kernel

/-! ## Notes: chapters 08 and 09 -/

/-- A receiver in OPEN for station 5 with the text "F". -/
def openNote : State :=
  { atP 100 with notes := { NoteRx.initial true with line := .opened, station := some 5, buffer := [0x46] } }

/-- The terminator completes the note at P (R140). -/
theorem test_terminator : (nx (.character 0x41A#11) openNote).notes.completed =
    [{ station := 5, text := [0x46], long := false, position := 100 }] := by decide +kernel

/-- An address of station 1 opens a note (R138). -/
theorem test_address : (nx (.character 0x602#11) State.reset).notes.station = some 1 := by decide +kernel

/-- Traced session, step 2: "F" from station 5 reaches the open take in TAIL and sets FALSE on it. -/
theorem test_bind_false : let t := nx .bindNote { tailSeven with notes := { NoteRx.initial true with
      completed := [{ station := 5, text := [0x46], long := false, position := 10500000 }] } }
    t.takes.table.map (fun r => r.slate.falseTake) = [true]
    ∧ t.link.notices.map (fun n => n.notice.noticeKind) = [.bind] := by decide +kernel

/-- A rejected text: an unknown kind letter (R152). -/
theorem test_bind_rejected : (nx .bindNote { State.reset with notes := { NoteRx.initial true with
      completed := [{ station := 5, text := [0x58], long := false, position := 1 }] } }).link.notices.map
      (fun n => n.notice) = [.nrej 5 .unknownKind 0x58 1 1 false] := by decide +kernel

/-- Traced session, step 15: "M plane" with no take open goes to the pending slate. -/
theorem test_note_comment : (nx (.note 3 [0x4D, 0x20, 0x70, 0x6C]) (atP 9)).binding.comments =
    [{ station := 0, position := 9, text := [0x70, 0x6C] }] := by decide +kernel

/-- NLIN set names each station once (R137). -/
theorem test_nlin_set : (nx (.nlinSet 1 3 (Vector.ofFn fun k : Fin 8 => if k.val = 1 then 9#8 else 5#8)) State.reset
    ).notes.accept = [5, 9] := by decide +kernel

/-! ## Control Link: worked sequence of chapter 10 -/

/-- The check value of the CRC with generator 0x1021 and initial value 0xFFFF over the digits 1 to 9 (R167). -/
theorem test_crc : crc [0x31, 0x32, 0x33, 0x34, 0x35, 0x36, 0x37, 0x38, 0x39] = 0x29B1#16 := by decide +kernel

/-- The state before step 5 of the noisy line. -/
def noisy : State :=
  { State.reset with link := { Link.initial with
      rx := .length, errorLimit := 2, consecutive := 1, nextSeq := 141
      conds := { Conds.clear with deliveryGap := true } } }

/-- Step 5: a length byte of 250 reaches the limit; LINK FAULT is set and LFLT has sequence 141. -/
theorem test_link_fault : let t := nx (.controlByte 250 true) noisy
    t.link.rx = .hunt ∧ t.link.consecutive = 2 ∧ t.link.conds.linkFault = true
    ∧ t.link.notices = [{ seq := 141, notice := .lflt 2 2 .length }] := by decide +kernel

/-- Step 6: STAT reports LINK FAULT as the highest condition and clears it with DELIVERY GAP. -/
theorem test_stat :
    let s : State := { State.reset with link := { Link.initial with
      errorLimit := 2, consecutive := 2, nextSeq := 142
      conds := { Conds.clear with linkFault := true, deliveryGap := true } } }
    (nx (.stat 0x22) s).link.conds = Conds.clear ∧ (nx (.stat 0x22) s).link.consecutive = 0
    ∧ s.statReport.highest = some .linkFault ∧ s.statReport.nextSeq = 142 := by decide +kernel

/-- The last byte of a good frame: IDEN with tag 5 is answered (R166, R169). -/
theorem test_frame_complete :
    let check := crc (frameBody ReqKind.iden.word 5 [])
    statuses (nx (.controlByte (check.extractLsb' 8 8) true) { State.reset with link := { Link.initial with
      rx := .crc 0 ReqKind.iden.word 5 [] (some (check.extractLsb' 0 8)) } }) = [.ok] := by decide +kernel

/-- The frame in transmission is the oldest reply's (R172). -/
theorem test_transmit : (nx .transmitFrame (nx (.cut 9) State.reset)).link.tx.map (fun f => f.bytes.take 10) =
    some [0xA7, 9, 0x52, 0x50, 0x4C, 0x59, 9, 0x43, 0x55, 0x54] := by decide +kernel

/-! ## Witnesses: for each statement with hypotheses, states and operands that meet all of them -/

/-- The reset state with other inputs' settings and channel state on input 1. -/
def input1 (f : Channel → Channel) : State :=
  { State.reset with inputs := { Inputs.initial with channels := Inputs.initial.channels.set 0 (f Channel.initial) } }

/-- The reset state with another timeline. -/
def timed (f : Timeline → Timeline) : State := { atP 5 with timeline := f Timeline.initial }

/-- The reset state with another link block. -/
def onLine (f : Link → Link) : State := { State.reset with link := f Link.initial }

/-- The reset state with another note receiver. -/
def onNotes (f : NoteRx → NoteRx) : State := { State.reset with notes := f State.reset.notes }

/-- Eight waiting replies. -/
def eightReplies : State :=
  onLine fun l => { l with replies := List.replicate 8 { tag := 1, kind := ReqKind.cut.word, status := .ok, result := .none } }

/-- A state in STOPPED with tracks armed. -/
def armedState : State := { atP 100 with router := { Router.initial with armed := 5 } }

theorem witness_IdleStepRunsWhatIsDueOrTicks :
    (State.reset.pending = [] ∧ State.reset.dueCommand = none)
    ∧ (eightReplies.pending = [] ∧ eightReplies.dueCommand = some .transmitFrame) := by decide +kernel

/-- Each timer one short of its limit, and at it: AUDIO_SYNC_LOSS at 4 (R36), LVLS_REPORT at the period (R46), IDLE_TIMEOUT at
44 (R142), STALLED at 8 s (R125), and SILENCE_DISCARD past 200 (R166). -/
theorem test_timers_become_due :
    let at' (n : Nat) : Timer := { count := n, frac := 0 }
    let sync (n : Nat) : State := { State.reset with inputs := { Inputs.initial with sync := .synced, syncTimer := at' n } }
    let report (n : Nat) : State :=
      { State.reset with inputs := { Inputs.initial with reportPeriod := 50, reportTimer := at' n } }
    let idle (n : Nat) : State := onNotes fun x => { x with line := .opened, idleTimer := at' n }
    let held (n : Nat) : State := { State.reset with delivery :=
      { list := [], drains := { a := DrainState.initial true, b := { drainB 2048 true with timer := at' n } } } }
    let silent (n : Nat) : State := onLine fun l => { l with rx := .length, silenceTimer := at' n }
    [sync 3, sync 4, report 49, report 50, idle 43, idle 44, held 7999, held 8000, silent 200, silent 201].map
        State.dueCommand =
      [none, some .audioSyncLoss, none, some .lvlsReport, none, some .idleTimeout, none, some (.stalled .b), none,
       some .silenceDiscard] := by decide +kernel

theorem witness_RsetEngineResetsTheRuntimeState :
    (HasRoom beforeSeven ∧ beforeSeven.ring.p ≠ 0 ∧ beforeSeven.notes.lineHigh = true)
    ∧ (let s (arriving : Bool) := onNotes fun x => { x with receiving := arriving, lineHigh := false }
       HasRoom (s true) ∧ (s true).notes.receiving = true ∧ (s false).notes.receiving = false
       ∧ (s false).notes.lineHigh = false) := by decide +kernel

theorem witness_RsetConfigRestoresTheDefaults :
    (HasRoom tailSeven ∧ tailSeven.takes.state ≠ .stopped)
    ∧ (HasRoom beforeSeven ∧ beforeSeven.takes.state = .stopped ∧ beforeSeven.delivery.list = []) := by decide +kernel

/-- RSET CONFIG with block 500 of a truncated take in flight on drain B: the block is aborted, and its 2,048 sample periods
join the abandoned count (R94, R115). -/
theorem test_rset_config_aborts_the_block :
    let r : TakeRecord := { closedRec 40 31000000 40000000 with truncated := true, sections :=
      { a := newSection false 0
        b := { activeSec 30002048 30000000 with state := .abandoned, nextSeq := 501, abandoned := 997952 } } }
    let s : State := { atP 32000000 with
      takes := { TakeCtl.initial with table := [r] }
      delivery := { list := [], drains :=
        { a := DrainState.initial true, b := { drainB 2048 false with inFlight := some block500 } } } }
    let t := nx (.rsetConfig 1) s
    (t.drain .b).inFlight = none ∧ statuses t = [.ok]
    ∧ t.takes.table.map (fun q => (q.sections.b.abandoned, q.sections.b.formation, q.sections.b.nextSeq)) =
      [(1000000, 30000000, 500)] := by decide +kernel

theorem witness_SamplesAreConditionedAndRouted :
    ((0x80#32).getLsbD 7 = true ∧ (0x80#32).getLsbD 6 = false ∧ Channel.initial.settings.subOn = false)
    ∧ ({ ChannelSettings.initial with subOn := true, subValue := 7 } : ChannelSettings).subOn = true
    ∧ ((0x7F#32).getLsbD 7 = false ∧ 47 < Channel.initial.settings.hold ∧ Channel.initial.settings.hold ≤ 48)
    ∧ (let r := Router.initial
       r.sources[0] = (0 : Fin 16).val + 1 ∧ r.sources[15] = (15 : Fin 16).val + 1 ∧ r.sources[16] = 17
       ∧ r.sources[17] = 18 ∧ r.sources[23] = 0) := by decide +kernel

theorem witness_AudioFrameWritesTheSlotOfP :
    let s : State := { atP 281474976710654 with inputs := { Inputs.initial with sync := .lost } }
    s.ring.p + 1 < 281474976710656 ∧ s.ring.wf = true ∧ s.inputs.sync = .lost
    ∧ s.triggers.line1.confirmed = none ∧ s.triggers.line2.confirmed = none := by decide +kernel

/-- At 24 frames per second P = 2,000 begins frame 1: a start mark armed there is due, and the loss count of LOCKED rises
from 5 to 6 (R26, R100). -/
theorem test_frame_enters_a_mark :
    let t := nx (.audioFrame (Vector.replicate 16 0) false false) { atP 1999 with
      timeline := { Timeline.initial with mode := .follow, ref := .locked, loss := 5 }
      takes := { TakeCtl.initial with startMark := { armed := true, count := 1 }, stopMark := { armed := true, count := 2 } } }
    t.timeline.loss = 6 ∧ t.takes.markDue = some { count := 1, pos := 2000, start := true, stop := false } := by
  decide +kernel

theorem witness_AudioFrameUpdatesEveryInput :
    ((0x80#32).getLsbD 7 = true ∧ (0x80#32).getLsbD 6 = false)
    ∧ ((0xC0#32).getLsbD 7 = true ∧ (0xC0#32).getLsbD 6 = true) ∧ (0x40#32).getLsbD 7 = false := by decide +kernel

/-- The levels of input 3 at which the clip and the silence clauses meet: 8,000,000 and 7,999,999, 1,000 and 999. -/
theorem witness_AudioFrameUpdatesEveryInput_levels :
    let c (n : Nat) : Channel := { Channel.initial with settings := input3, clip := true, quiet := n }
    let m (x : Sample) : Nat := ((c 0).output (x ++ 0x80#8)).toInt.natAbs
    input3.high ≤ m 8000000#24 ∧ m 7999999#24 < input3.high ∧ (c 4798).quiet + 1 < 4800 ∧ (c 4799).quiet + 1 = 4800
    ∧ Channel.initial.clip = false ∧ Channel.initial.settings.low = 0 ∧ Channel.initial.settings.dwell = 0
    ∧ input3.low ≤ m 1000#24 ∧ m 999#24 < input3.low ∧ 0 < input3.dwell := by decide +kernel

/-- Take 40, pushed to the oldest retained position by the frame at P = 22,101,248. -/
theorem witness_AudioFrameLeavesCursorsRetained :
    let s := delivering 22101248 forty (drainB 2048 true)
    let c : Instr := .audioFrame (Vector.replicate 16 0) false false
    exec c s = .next (nx c s) ∧ 40 ∈ (nx c s).delivery.list
    ∧ ((nx c s).record? 40).map (fun r => ((r.sections.get .b).live, (r.sections.get .b).formation)) =
        some (true, 20004097) := ⟨rfl, by decide +kernel⟩

theorem witness_TriggerSampleFiltersTheLevel :
    let l (v : Option Bool) (n : Nat) : TrigLine :=
      { TrigLine.initial with level := v, pending := some { first := 3, counter := n } }
    (l none 0).level = none ∧ (l (some true) 0).level = some true ∧ (l (some false) 0).level = some (!true)
    ∧ 94 + 1 < max (l (some false) 94).filter 1 ∧ max (l (some false) 95).filter 1 ≤ 95 + 1
    ∧ max ({ TrigLine.initial with filter := 0 } : TrigLine).filter 1 ≤ 1 := by decide +kernel

/-- A take in ROLLING whose track 1 carries input 1, with its event list at 31 or at 32, beside a CLOSED record. -/
def eventTake (n : Nat) : State :=
  let r := { openRec 8 0 5 1 with
    events := List.replicate n { kind := .tcJump, source := 0, position := 7, error := 0 }, eventsLost := 255 }
  { rolling 9 r with takes := { (rolling 9 r).takes with table := [closedRec 7 4 90, r] } }

theorem witness_AudioRowsTakeEffect :
    (let s := input1 fun c => { c with clip := true, quiet := 4800 }
    let t := input1 fun c => { c with clip := true, quiet := 4799 }
    let b : MixBus := { MixBus.initial with clip := true, quiet := 4800 }
    let u : State := { State.reset with router := { Router.initial with busL := b, busR := b } }
    (s.inputs.channels[0].clip = true ∧ s.inputs.channels[0].quiet = 4800) ∧ t.inputs.channels[0].quiet < 4800
    ∧ u.router.busL.clip = true ∧ u.router.busL.quiet = 4800 ∧ u.router.busR.clip = true
    ∧ u.router.busR.quiet = 4800)
    ∧ (let s := input1 fun c => { c with settings := { c.settings with low := 1, dwell := 1 }, silence := 1 }
     (∀ r ∈ s.takes.table, r.state ≠ .opened) ∧ 0 < s.inputs.channels[0].settings.low
     ∧ 0 < s.inputs.channels[0].settings.dwell ∧ s.inputs.channels[0].settings.dwell ≤ s.inputs.channels[0].silence
     ∧ s.inputs.channels[0].silentFlag = false ∧ s.inputs.sync ≠ .synced)
    ∧ (let s : State := { State.reset with inputs := { Inputs.initial with sync := .synced } }
       (∀ r ∈ s.takes.table, r.state ≠ .opened) ∧ s.inputs.sync = .synced)
    ∧ (let r (n : Nat) := { openRec 8 0 5 1 with
         events := List.replicate n { kind := .tcJump, source := 0, position := 7, error := 0 } }
       let s (n : Nat) : State := { rolling 9 (r n) with inputs := { Inputs.initial with sync := .synced } }
       ((s 31).inputs.sync = .synced ∧ (s 31).openRecord? = some (r 31) ∧ (s 31).record? (r 31).id = some (r 31)
         ∧ (r 31).events.length < 32)
       ∧ (s 32).openRecord? = some (r 32) ∧ (s 32).record? (r 32).id = some (r 32) ∧ ¬(r 32).events.length < 32) := by
  decide +kernel

/-- The sync loss in LOST with a take open, and in SYNCED beside a CLOSED record. -/
theorem witness_AudioRowsTakeEffect_syncLoss :
    let s (x : SyncState) : State := { eventTake 31 with inputs := { Inputs.initial with sync := x } }
    ((s .lost).inputs.sync ≠ .synced ∧ (s .lost).openRecord?.isSome = true)
    ∧ (s .synced).openRecord? = (s .synced).record? 8 ∧ (s .synced).record? 7 = some (closedRec 7 4 90) := by decide +kernel

/-- SILENT due on an input, at a dwell of 2 and a silence of 1 and 2, with a take open that input 1 feeds by its track and
input 2 does not, its event list at 31 and at 32, beside a CLOSED record. -/
theorem witness_AudioRowsTakeEffect_silent :
    let c (n : Nat) : Channel :=
      { Channel.initial with settings := { ChannelSettings.initial with low := 1, dwell := 2 }, silence := n }
    let s (n : Nat) : State := { eventTake n with inputs := { Inputs.initial with channels := Vector.replicate 16 (c 2) } }
    ((c 1).silence < (c 1).settings.dwell)
    ∧ (∀ n ∈ [31, 32], ∀ k : Fin 16, (s n).inputs.channels[k] = c 2 ∧ 0 < (c 2).settings.low ∧ 0 < (c 2).settings.dwell
        ∧ (c 2).settings.dwell ≤ (c 2).silence ∧ (c 2).silentFlag = false ∧ (s n).openRecord? = (s n).record? 8
        ∧ ((s n).record? 8).map (fun r => r.events.length) = some n ∧ (s n).record? 7 = some (closedRec 7 4 90))
    ∧ FeedsTake (s 31).router 1 ((0 : Fin 16).val + 1) ∧ ¬FeedsTake (s 31).router 1 ((1 : Fin 16).val + 1)
    ∧ FeedsTake { (s 31).router with
        sources := (s 31).router.sources.set 0 17
        busL := { (s 31).router.busL with gains := (s 31).router.busL.gains.set 1 1 } } 1 ((1 : Fin 16).val + 1) := by
  decide +kernel

theorem witness_AudioFrameEventsReachTheOpenTake :
    let t (n : Nat) := nx (.audioFrame (Vector.replicate 16 0) false false) (eventTake n)
    ∀ n ∈ [31, 32], ∃ r, (eventTake n).settleAdvance.openRecord? = some r
      ∧ (eventTake n).settleAdvance.record? r.id = some r ∧ r.events.length = n ∧ r.events.length ≤ 32 ∧ r.eventsLost ≤ 255
      ∧ (eventTake n).inputs.channels[0].dropout = false ∧ (t n).inputs.channels[0].dropout = true
      ∧ r.mask.getLsbD (0 : Fin 24).val = true ∧ (eventTake n).router.sources[0] = 1
      ∧ (eventTake n).settleAdvance.record? 7 = some (closedRec 7 4 90) ∧ r.id ≠ 7 := by
  intro t n hn
  obtain rfl | rfl : n = 31 ∨ n = 32 := by simpa using hn
  all_goals exact ⟨_, by rfl, by decide +kernel, by decide, by decide, by decide, by decide +kernel, by decide +kernel,
    by decide, by decide, by decide +kernel, by decide⟩

theorem witness_LevelReportsAndMeterReadsClearPeaks :
    (State.reset.inputs.reportPeriod = 0 ∧ HasRoom State.reset)
    ∧ (let s : State := { State.reset with inputs := { Inputs.initial with reportPeriod := 50 } }
       s.inputs.reportPeriod ≠ 0 ∧ NoticeRoom s) := by decide +kernel

theorem witness_RequestsAreAnsweredOnceOrDiscarded :
    (HasRoom State.reset ∧ requestFrame (.roll 4) = some (.roll, 4, []))
    ∧ (eightReplies.link.replies.length = 8 ∧ requestFrame (.roll 4) = some (.roll, 4, []))
    ∧ (HasRoom State.reset ∧ ([0x41, 0x41, 0x41, 0x41] : Text).length = 4
       ∧ requestFrame (.badKind 0 [0x41, 0x41, 0x41, 0x41]) = none)
    ∧ (HasRoom armedState ∧ armedState.link.rx = .hunt ∧ armedState.link.silenceTimer = { count := 0, frac := 0 }
       ∧ (∀ n ∈ [0, 2, 4, 240], (List.replicate n 0#8).length ≤ 240 ∧ (List.replicate n 0#8).length ≠ 3))
    ∧ (eightReplies.link.rx = .hunt ∧ eightReplies.link.silenceTimer = { count := 0, frac := 0 }) := by decide +kernel

theorem witness_RequestsAreAnsweredOnceOrDiscarded_kind : ∀ k : ReqKind, k.word ≠ [0x41, 0x41, 0x41, 0x41] := by
  intro k
  cases k <;> decide

theorem witness_FrameBytesDoWhatTheRequestDoes :
    (Instr.armt 9 0x00000D).wf = true ∧ requestFrame (.armt 9 0x00000D) = some (.armt, 9, [0x0D, 0, 0])
    ∧ armedState.link.rx = .hunt ∧ armedState.link.silenceTimer = { count := 0, frac := 0 }
    ∧ ([0x41, 0x41, 0x41, 0x41] : Text).length = 4 ∧ (List.replicate 240 0#8).length ≤ 240 := by decide +kernel

/-- An INPT read frame one byte short is answered BAD_LENGTH, and a LINK frame with the action 3 RANGE (R169, R178). -/
theorem test_bad_length_and_action :
    let after (k : ReqKind) (p : List Byte) : List Status :=
      match feedBytes (frameBytes k.word 9 p) armedState with
      | .next t => statuses t
      | _ => []
    after .inpt (1 :: 4 :: List.replicate 20 0) = [.badLength] ∧ after .link [3, 0] = [.range] := by decide +kernel

/-- The reset state at a position with its marks armed at two counts. -/
def markedAt (p start stop : Nat) (startArmed stopArmed : Bool) : State :=
  { atP p with takes := { TakeCtl.initial with
      startMark := { armed := startArmed, count := start }, stopMark := { armed := stopArmed, count := stop } } }

theorem witness_ReadRequestsReportAndChangeNothing :
    HasRoom tailSeven ∧ (tailSeven.record? (7#16).toNat).isSome = true
    ∧ (∀ armed ∈ [false, true], ∀ m ∈ [MarkName.start, .stop], let s := markedAt 1990 3 5 armed armed
        s.markReport m = { armed := (s.mark m).armed, count := (s.mark m).count
                           label := labelOf s.timeline.rate (s.mark m).count
                           distance := if (s.mark m).armed = true then
                               some (dist s.timeline.rate (s.timeline.countAt s.ring.p) (s.mark m).count) else none }) := by
  decide +kernel

/-- The MARK read with the start mark at count 3 and P in frame 0 (R12, R99). -/
theorem test_mark_read : (nx (.markRead 4 0) (markedAt 1990 3 5 true false)).link.replies.map (fun r => r.result) =
    [.mark { armed := true, count := 3, label := { label := ⟨0, 0, 0, 3⟩, drop := false }, distance := some 3 }
           { armed := false, count := 5, label := { label := ⟨0, 0, 0, 5⟩, drop := false }, distance := none }] := by
  decide +kernel

theorem witness_NamesOutsideTheirSetAreRefused :
    HasRoom tailSeven ∧ 16 < (17#8).toNat ∧ (16#8 ≠ 17 ∧ 16#8 ≠ 18) ∧ (19#8 ≠ 17 ∧ 19#8 ≠ 18) ∧ 24 < (25#8).toNat
    ∧ 18 < (19#8).toNat ∧ 6 < (7#8).toNat ∧ tailSeven.record? (8#16).toNat = none ∧ 1 < (2#8).toNat
    ∧ (0#8 ≠ 1 ∧ 0#8 ≠ 2) ∧ 3 < (4#8).toNat ∧ 8 < (9#8).toNat
    ∧ (∀ p ∈ [(2, 0, 2), (1, 0, 1), (23, 0, 1), (3, 1, 3), (3, 0, 1), (11, 0, 1), (6, 1, 2), (6, 1, 1), (9, 1, 1), (10, 0, 2)],
        let payload : List Byte := (List.replicate p.1 0).set p.2.1 (BitVec.ofNat 8 (p.2.2 + 1))
        payload.length = p.1 ∧ payload[p.2.1]? = some (BitVec.ofNat 8 (p.2.2 + 1))
        ∧ p.2.2 < (BitVec.ofNat 8 (p.2.2 + 1)).toNat)
    ∧ tailSeven.link.rx = .hunt ∧ tailSeven.link.silenceTimer = { count := 0, frac := 0 } := by decide +kernel

theorem witness_StatusAndLinkRequestsReportThenClear : HasRoom noisy := by decide +kernel

theorem witness_InputAndBusSettingsAreStored :
    let f : InputFields := { gain := 65535, polarity := 1, hold := 481, high := 0, low := 8388608, dwell := 480001
                             substitute := 0, value := 3 }
    HasRoom State.reset ∧ (16#8).toNat ≤ 16 ∧ f.polarity = (if true = true then 1 else 0)
    ∧ f.substitute = (if false = true then 1 else 0)
    ∧ ({ gain := 65535, inverted := true, hold := 480, high := 1, low := 8388607, dwell := 480000, subOn := false
         subValue := 3 } : ChannelSettings) =
       { gain := f.gain, inverted := true, hold := min f.hold.toNat 480, high := max 1 (min f.high.toNat 8388608)
         low := min f.low.toNat 8388607, dwell := min f.dwell.toNat 480000, subOn := false, subValue := f.value } := by
  decide +kernel

/-- Links 3 and 24 with the armed mask closed over them, and track 5 armed beside. -/
def linkedArmed : State := { linked with router := { linked.router with armed := 0x80001D#24 } }

theorem witness_TracksAreRoutedLinkedAndArmed :
    (let s := rolling 9 (openRec 8 0 5 2)
     HasRoom s ∧ (18#8).toNat ≤ 18 ∧ s.openRecord? = some (openRec 8 0 5 2)
     ∧ (openRec 8 0 5 2).mask.getLsbD (1 : Fin 24).val = true ∧ (openRec 8 0 5 2).mask.getLsbD (2 : Fin 24).val = false)
    ∧ (HasRoom linked ∧ linked.openRecord? = none ∧ linked.router.links.getLsbD (2 : Fin 24).val = true
       ∧ linked.router.links.getLsbD (3 : Fin 24).val = false ∧ linked.router.links.getLsbD ((3 : Fin 24) - 1).val = true
       ∧ linked.router.links.getLsbD (0 : Fin 24).val = false
       ∧ linked.router.links.getLsbD ((0 : Fin 24) - 1).val = true
       ∧ linked.router.links.getLsbD (4 : Fin 24).val = false
       ∧ linked.router.links.getLsbD ((4 : Fin 24) - 1).val = false
       ∧ linked.router.links.getLsbD ((4 : Fin 24) + 1).val = false
       ∧ linked.router.armed.getLsbD (4 : Fin 24).val = false
       ∧ linked.router.armed.getLsbD ((4 : Fin 24) + 1).val = false)
    ∧ (linkedArmed.router.armed.getLsbD (4 : Fin 24).val = true
       ∧ (∀ j : Fin 24, linkedArmed.router.links.getLsbD j.val = true →
           linkedArmed.router.armed.getLsbD j.val = linkedArmed.router.armed.getLsbD (j + 1).val)
       ∧ HasRoom linkedArmed ∧ linkedArmed.openRecord? = none) := by decide +kernel

theorem witness_PositionsLieInTheirFrame :
    dropLine.anchor.count < dropLine.rate.day ∧ 107892 < dropLine.rate.day
    ∧ dropLine.expected 107892 = ((1003203 : Nat) : Int) := by decide +kernel

theorem witness_LabelsAndCountsConvertBack :
    validLabel .r2997drop ⟨23, 59, 59, 29⟩ = true ∧ labelCount .r2997drop ⟨23, 59, 59, 29⟩ = 2589407
    ∧ 2589407 < Rate.r2997drop.day := by decide +kernel

theorem witness_FrameArrivalsSetTheReferenceState :
    ((true ≠ Rate.r24.isDrop) ∧ (false = Rate.r24.isDrop) ∧ validLabel .r24 ⟨0, 0, 0, 24⟩ = false
      ∧ validLabel .r24 ⟨0, 0, 0, 23⟩ = true ∧ Timeline.initial.rate = .r24 ∧ Timeline.initial.ref = .freeRun)
    ∧ (let s (r : RefState) (g : Bool) := timed fun t => { t with mode := .follow, ref := r, regain := g }
       validLabel (s .seeking false).timeline.rate ⟨0, 0, 0, 1⟩ = true
       ∧ labelCount (s .seeking false).timeline.rate ⟨0, 0, 0, 1⟩ = 1 ∧ (s .seeking false).timeline.expected 1 = 2000
       ∧ (s .seeking false).timeline.candidate = none ∧ (s .seeking false).timeline.ref = .seeking
       ∧ (s .locked false).timeline.ref = .locked ∧ (s .holdover false).timeline.ref = .holdover
       ∧ (s .verifying false).timeline.ref = .verifying ∧ (s .verifying false).timeline.regain = false
       ∧ (s .verifying true).timeline.ref = .verifying ∧ (s .verifying true).timeline.regain = true
       ∧ ¬OutsideTolerance (s .locked false).timeline (((2024#48).toNat : Int) - 2000)
       ∧ OutsideTolerance (s .locked false).timeline (((2025#48).toNat : Int) - 2000)
       ∧ NoticeRoom (s .holdover false) ∧ (s .holdover false).openRecord? = none)
    ∧ (let s := timed fun t => { t with mode := .follow, ref := .verifying, candidate := some { pos := 25, count := 7 } }
       ∀ first, s.timeline.candidate = some first → ¬FollowsFrame s.timeline first 1 (2025#48).toNat)
    ∧ (let r := openRec 8 0 5 2
       let s := { rolling 9 r with timeline := { Timeline.initial with mode := .follow, ref := .holdover } }
       s.openRecord? = some r ∧ s.record? r.id = some r) := by
  refine ⟨by decide +kernel, by decide +kernel, ?_, by decide +kernel⟩
  intro s first h
  obtain rfl : ({ pos := 25, count := 7 } : Anchor) = first := Option.some.inj h
  decide +kernel

/-- A candidate at (pos, 0) in a reference state, with a take rolling. -/
def candidateAt (pos : Nat) (ref : RefState) (mode : TimeMode) (regain : Bool) : State :=
  { rolling 9 (openRec 8 0 5 2) with timeline :=
    { Timeline.initial with mode := mode, ref := ref, candidate := some { pos := pos, count := 0 }, regain := regain } }

/-- Frame 1, expected at 2,000: at 2,024 after a candidate at 0, the last arrival that is consistent with it, and at 2,025
after a candidate at 1, the first whose error lies outside the tolerance. -/
theorem witness_FramesMoveTheAnchor :
    let label : Label := ⟨0, 0, 0, 1⟩
    let follows (s : State) (first : Anchor) (a : BitVec 48) : Prop :=
      validLabel s.timeline.rate label = true ∧ 1 = labelCount s.timeline.rate label ∧ s.timeline.expected 1 = 2000
      ∧ s.timeline.candidate = some first ∧ FollowsFrame s.timeline first 1 a.toNat
    (∀ mode ∈ [TimeMode.follow, .jamOnce], (candidateAt 0 .seeking mode false).timeline.ref = .seeking
      ∧ follows (candidateAt 0 .seeking mode false) { pos := 0, count := 0 } 2024
      ∧ ¬OutsideTolerance (candidateAt 0 .seeking mode false).timeline (((2024#48).toNat : Int) - 2000)
      ∧ follows (candidateAt 1 .seeking mode false) { pos := 1, count := 0 } 2025
      ∧ OutsideTolerance (candidateAt 1 .seeking mode false).timeline (((2025#48).toNat : Int) - 2000))
    ∧ (∀ g ∈ [false, true], (candidateAt 1 .verifying .follow g).timeline.ref = .verifying
      ∧ (candidateAt 1 .verifying .follow g).timeline.regain = g
      ∧ follows (candidateAt 1 .verifying .follow g) { pos := 1, count := 0 } 2025
      ∧ OutsideTolerance (candidateAt 1 .verifying .follow g).timeline (((2025#48).toNat : Int) - 2000)
      ∧ NoticeRoom (candidateAt 1 .verifying .follow g) ∧ (candidateAt 1 .verifying .follow g).link.notices.length + 2 ≤ 32
      ∧ (candidateAt 1 .verifying .follow g).openRecord? = some (openRec 8 0 5 2)
      ∧ (candidateAt 1 .verifying .follow g).record? 8 = some (openRec 8 0 5 2)) := by decide +kernel

theorem witness_RefLostEntersHoldover :
    let s (n : Nat) (r : RefState) (g : Bool) := timed fun t => { t with mode := .follow, ref := r, loss := n, regain := g }
    let limit := 2 * ((Rate.r24.num + Rate.r24.den - 1) / Rate.r24.den)
    (s 3999 .locked false).timeline.loss < limit
    ∧ ((s 4000 .locked false).timeline.ref = .locked ∧ limit ≤ (s 4000 .locked false).timeline.loss
       ∧ (s 4000 .locked false).timeline.regain = false ∧ NoticeRoom (s 4000 .locked false))
    ∧ ((s 4000 .verifying true).timeline.ref = .verifying ∧ (s 4000 .verifying true).timeline.regain = true) := by
  decide +kernel

/-- The loss with a take open and the reference LOCKED, with the notice queue at 31 and at 32; and in FREE RUN. -/
theorem witness_RefLostEntersHoldover_open :
    let s (n : Nat) : State := { eventTake 31 with
      timeline := { Timeline.initial with mode := .follow, ref := .locked, loss := 4000 }
      link := { Link.initial with notices := List.replicate n { seq := 0, notice := .refu .mark 3 } } }
    (NoticeRoom (s 31) ∧ ¬NoticeRoom (s 32) ∧ (s 32).timeline.regain = false
      ∧ 2 * (((s 32).timeline.rate.num + (s 32).timeline.rate.den - 1) / (s 32).timeline.rate.den) ≤ (s 32).timeline.loss
      ∧ (s 32).openRecord?.isSome = true ∧ (s 32).openRecord? = (s 32).record? 8 ∧ (s 32).record? 7 = some (closedRec 7 4 90))
    ∧ (State.reset.timeline.ref ≠ .locked ∧ State.reset.timeline.ref ≠ .verifying ∧ State.reset.openRecord? = none) := by
  decide +kernel

theorem witness_TlmdSetsRateModeAndTolerance :
    (HasRoom tailSeven ∧ rateOf 2 = some .r25 ∧ timeModeOf 2 = some .follow ∧ Rate.r25 ≠ tailSeven.timeline.rate
      ∧ tailSeven.takes.state ≠ .stopped)
    ∧ (HasRoom State.reset ∧ Rate.r25 ≠ State.reset.timeline.rate ∧ State.reset.takes.state = .stopped)
    ∧ (rateOf 1 = some State.reset.timeline.rate ∧ timeModeOf 0 = some State.reset.timeline.mode
       ∧ TimeMode.follow ≠ State.reset.timeline.mode) := by decide +kernel

theorem witness_TimecodeIsSetByHandOrJammed :
    (HasRoom State.reset ∧ validLabel State.reset.timeline.rate ⟨24, 0, 0, 0⟩ = false
      ∧ validLabel State.reset.timeline.rate ⟨23, 59, 59, 23⟩ = true ∧ State.reset.timeline.mode = .free)
    ∧ (let s := timed fun t => { t with mode := .follow, ref := .locked }
       HasRoom s ∧ validLabel s.timeline.rate ⟨0, 0, 0, 0⟩ = true ∧ s.timeline.mode ≠ .free)
    ∧ (let r := openRec 8 0 5 2
       0 = labelCount (rolling 24 r).timeline.rate ⟨0, 0, 0, 0⟩ ∧ (rolling 24 r).timeline.expected 0 = 0
       ∧ ¬OutsideTolerance (rolling 24 r).timeline (((rolling 24 r).ring.p : Int) - 0)
       ∧ OutsideTolerance (rolling 25 r).timeline (((rolling 25 r).ring.p : Int) - 0) ∧ NoticeRoom (rolling 25 r)
       ∧ (rolling 25 r).openRecord? = some r ∧ (rolling 25 r).record? r.id = some r) := by decide +kernel

/-- TCST of 00:00:00:01 at P = 1,990, where P has count 0; of 00:00:00:00 there, the same count; and of 00:00:00:03 at P = 0,
which skips a mark at count 2 and keeps one at count 4. -/
theorem witness_AnchorMovesLandSkipOrKeepMarks :
    let l (f : BitVec 8) : Label := ⟨0, 0, 0, f⟩
    let s := markedAt 1990 1 1 true false
    (HasRoom s ∧ validLabel s.timeline.rate (l 1) = true ∧ s.timeline.mode = .free ∧ s.timeline.countAt s.ring.p = 0
      ∧ labelCount s.timeline.rate (l 1) = 1 ∧ labelCount s.timeline.rate (l 0) = 0
      ∧ ¬OutsideTolerance s.timeline ((s.ring.p : Int) - s.timeline.expected 1)
      ∧ (s.mark .start).armed = true ∧ (s.mark .stop).armed = false ∧ (s.mark .start).count = 1)
    ∧ ((State.reset.mark .start).armed = false ∧ (State.reset.mark .stop).armed = false)
    ∧ (let s (m : Nat) := markedAt 0 9 m false true
       (s 2).timeline.countAt (s 2).ring.p = 0 ∧ labelCount (s 2).timeline.rate (l 3) = 3
       ∧ ((s 2).mark .stop).armed = true ∧ ((s 2).mark .start).armed = false ∧ ((s 2).mark .stop).count ≠ 3
       ∧ 0 < dist (s 2).timeline.rate 0 ((s 2).mark .stop).count ∧ dist (s 2).timeline.rate 3 ((s 2).mark .stop).count ≤ 0
       ∧ NoticeRoom (s 2)
       ∧ ((s 4).mark .stop).count ≠ 3 ∧ 0 < dist (s 4).timeline.rate 3 ((s 4).mark .stop).count
       ∧ ((s 0).mark .stop).count ≠ 3 ∧ dist (s 0).timeline.rate 0 ((s 0).mark .stop).count ≤ 0)
    ∧ (let s := markedAt 1990 1 1 true true
       ∀ m ∈ [MarkName.start, .stop], (s.mark m).armed = true ∧ (s.mark m).count = 1)
    ∧ (∀ stop ∈ [2, 9], let s := markedAt 0 3 stop true true
       s.timeline.countAt s.ring.p = 0 ∧ labelCount s.timeline.rate (l 3) = 3 ∧ (s.mark .start).armed = true
       ∧ (s.mark .stop).armed = true ∧ (s.mark .start).count = 3
       ∧ (if stop = 2 then 0 < dist s.timeline.rate 0 stop ∧ dist s.timeline.rate 3 stop ≤ 0
          else 0 < dist s.timeline.rate 3 stop)) := by decide +kernel

/-- A TCST of 00:00:00:03 at P = 0 that the start mark lands on: the roll is refused, and the stop mark at count 2 is skipped,
the start mark's notice first; the jump's error is 0 - 6,000 (R31, R101, R102). -/
theorem test_landed_then_skipped :
    (nx (.tcst 1 ⟨0, 0, 0, 3⟩) (markedAt 0 3 2 true true)).link.notices.map (fun n => n.notice) =
    [.tref .tcJump 0 .freeRun { pos := 0, count := 3 } (-6000), .refu .mark 0,
     .mrke .start true 3 { label := ⟨0, 0, 0, 3⟩, drop := false } 0 0 3 (some .notArmed) 0,
     .mrke .stop false 2 { label := ⟨0, 0, 0, 2⟩, drop := false } 0 0 3 none 0] := by decide +kernel

theorem witness_RollOpensATake :
    (HasRoom armedState ∧ armedState.takes.state = .stopped ∧ armedState.router.armed ≠ 0)
    ∧ (HasRoom tailSeven ∧ tailSeven.takes.state = .tail ∧ tailSeven.router.armed ≠ 0
       ∧ tailSeven.openRecord?.isSome = true ∧ tailSeven.openRecord? = tailSeven.record? 7
       ∧ tailSeven.takes.table.length < 16)
    ∧ (State.reset.takes.state ≠ .rolling ∧ State.reset.router.armed = 0)
    ∧ (let s := rolling 9 (openRec 8 0 5 2)
       HasRoom s ∧ s.takes.state = .rolling ∧ s.openRecord? = some (openRec 8 0 5 2)) := by decide +kernel

/-- A roll onto the list with drain A enabled, the list at 3 and the table at 15; and the re-roll with a full table of 16,
whose oldest record is not listed. -/
theorem witness_RollOpensATake_lists :
    (let s : State := { beforeSeven with
       takes := { TakeCtl.initial with nextId := 7, table := (List.range' 101 15).map fun id => closedRec id 1 2 }
       delivery := { beforeSeven.delivery with list := [113, 114, 115] } }
     HasRoom s ∧ s.takes.state = .stopped ∧ s.router.armed ≠ 0 ∧ s.delivery.list.length < 4
     ∧ s.takes.nextId ∉ s.delivery.list ∧ (∀ r ∈ s.takes.table, r.id ≠ s.takes.nextId) ∧ s.takes.table.length < 16
     ∧ NoticeRoom s ∧ (s.drain .a).settings.enabled = true ∧ (s.drain .b).settings.enabled = false)
    ∧ (let r := { openRec 7 9904000 10000000 0xF with
         cut := some 10479904, cutCause := some .trigger1, endTarget := some 10527904 }
       let s : State := { tailSeven with takes := { tailSeven.takes with
         table := (List.range' 101 15).map (fun id => closedRec id 1 2) ++ r :: [] } }
       HasRoom s ∧ NoticeRoom s ∧ s.takes.state = .tail ∧ s.router.armed ≠ 0 ∧ s.openRecord? = some r
       ∧ s.record? r.id = some r ∧ s.takes.table.length = 16
       ∧ ((s.takes.table.map fun q => q.id) ++ [s.takes.nextId]).Nodup
       ∧ closedRec 101 1 2 ∈ (List.range' 101 15).map (fun id => closedRec id 1 2)
       ∧ (closedRec 101 1 2).id ∉ s.delivery.list) := by decide +kernel

theorem witness_SlatesAreTakenAndRenumbered :
    (let s : State := { armedState with takes := { TakeCtl.initial with
        lastSlate := some { id := 3, scene := none, number := 999 } } }
     HasRoom s ∧ s.takes.state = .stopped ∧ s.router.armed ≠ 0 ∧ s.binding.number = none
     ∧ s.takes.lastSlate = some { id := 3, scene := none, number := 999 } ∧ (none : Option Text) = s.binding.scene)
    ∧ (let s : State := { armedState with binding := { State.reset.binding with number := some 4 } }
       HasRoom s ∧ s.takes.state = .stopped ∧ s.router.armed ≠ 0 ∧ s.binding.number = some 4)
    ∧ (let x (n : Nat) : Slate := { newSlate State.reset.binding none with prior := some { scene := none, number := n } }
       (x 998).numbering = .auto ∧ (x 998).prior = some { scene := none, number := 998 } ∧ 998 < 999
       ∧ (x 999).prior = some { scene := none, number := 999 }
       ∧ ({ x 1 with numbering := .explicit } : Slate).numbering = .explicit) := by decide +kernel

theorem witness_RollInRollingHasNoEffect : (rolling 9 (openRec 8 0 5 2)).takes.state = .rolling := by decide +kernel

theorem witness_CutOutsideRollingHasNoEffect :
    State.reset.takes.state ≠ .rolling ∧ tailSeven.takes.state ≠ .rolling := by decide +kernel

theorem witness_RollAssignsTheNextTakeId :
    let s : State := { armedState with takes := { TakeCtl.initial with nextId := 65535 } }
    1 ≤ s.takes.nextId ∧ s.takes.nextId ≤ 65535 ∧ (s.rollReq .command 100).2 = .taken 65535 0
    ∧ (∀ id start, (State.reset.rollReq .command 0).2 ≠ .taken id start) := by
  refine ⟨by decide, by decide, by decide +kernel, ?_⟩
  intro id start
  simp [State.rollReq, State.reset, TakeCtl.initial, Router.initial]

/-- Room in the table and the list for the roll, whose id no record holds, in TAIL and, by mark and by edge, in STOPPED. -/
theorem witness_RollOpensATake_others :
    ∀ s ∈ [tailSeven, { armedState with takes := { armedState.takes with table := [closedRec 6 7 90000000], nextId := 7 } }],
      s.takes.table.length < 16 ∧ s.delivery.list.length < 4 ∧ s.takes.nextId ∉ s.delivery.list
      ∧ (∀ x ∈ s.takes.table, x.id ≠ s.takes.nextId) ∧ (s.drain .a).inFlight = none ∧ (s.drain .b).inFlight = none
      ∧ (s.takes.state = .tail ∨ s.record? 6 = some (closedRec 6 7 90000000)) := by decide +kernel

theorem witness_CutEntersTheTail :
    (let s := rolling 10600000 (openRec 8 10404000 10500000 0xF)
     HasRoom s ∧ s.openRecord? = some (openRec 8 10404000 10500000 0xF)
     ∧ s.record? 8 = some (openRec 8 10404000 10500000 0xF) ∧ s.takes.state = .rolling ∧ 10500000 ≤ s.ring.p
     ∧ 0 < s.takes.caps.postRoll)
    ∧ (let s : State := { rolling 9 (openRec 8 0 5 2) with takes :=
         { (rolling 9 (openRec 8 0 5 2)).takes with caps := { Captures.initial with postRoll := 0 } } }
       s.takes.state = .rolling ∧ s.openRecord? = some (openRec 8 0 5 2) ∧ s.record? 8 = some (openRec 8 0 5 2)
       ∧ 5 ≤ s.ring.p ∧ s.takes.caps.postRoll = 0)
    ∧ (tailSeven.openRecord?.isSome = true ∧ tailSeven.openRecord? = tailSeven.record? 7 ∧ tailSeven.takes.state = .tail)
    ∧ (State.reset.takes.state = .stopped ∧ State.reset.openRecord? = none) := by decide +kernel

theorem witness_LimitCutAndTailEndTakeEffect :
    (let r := openRec 8 0 100000 0xF
     let s (p : Nat) : State := { rolling p r with takes := { (rolling p r).takes with
       caps := { Captures.initial with maxLength := 2880000 } } }
     ((rolling 9 r).takes.caps.maxLength = 0 ∧ (rolling 9 r).openRecord? = some r ∧ (rolling 9 r).record? r.id = some r)
     ∧ ((s 2979999).openRecord? = some r ∧ (s 2979999).record? r.id = some r ∧ (s 2979999).takes.state = .rolling
       ∧ (s 2979999).ring.p < r.roll + (s 2979999).takes.caps.maxLength)
     ∧ ((s 2980000).openRecord? = some r ∧ (s 2980000).record? r.id = some r ∧ (s 2980000).takes.state = .rolling
       ∧ 0 < (s 2980000).takes.caps.maxLength ∧ r.roll + (s 2980000).takes.caps.maxLength ≤ (s 2980000).ring.p
       ∧ (s 2980000).ring.p < r.roll + (s 2980000).takes.caps.maxLength + (s 2980000).takes.caps.postRoll)
     ∧ ((s 3028000).openRecord? = some r ∧ (s 3028000).record? r.id = some r ∧ (s 3028000).takes.state = .rolling
       ∧ r.roll + (s 3028000).takes.caps.maxLength + (s 3028000).takes.caps.postRoll ≤ (s 3028000).ring.p))
    ∧ (let r := { openRec 8 10404000 10500000 0xF with cut := some 10600000, endTarget := some 10648000 }
       let s (p : Nat) : State := { rolling p r with takes := { (rolling p r).takes with state := .tail } }
       ((s 10647999).openRecord? = some r ∧ (s 10647999).record? r.id = some r ∧ (s 10647999).takes.state = .tail
         ∧ r.endTarget = some 10648000 ∧ (s 10647999).ring.p < 10648000)
       ∧ ((s 10648000).openRecord? = some r ∧ (s 10648000).record? r.id = some r ∧ 10648000 ≤ (s 10648000).ring.p)) := by
  decide +kernel

/-- The take in TAIL with no block in flight: on drain A a section left open by an abandonment, and on drain B one that is
PENDING or ACTIVE, with its cursor at the end or below it. -/
theorem witness_LimitCutAndTailEndTakeEffect_sections : ∀ f ∈ [10648000, 10647999],
    let r := { openRec 8 10404000 10500000 0xF with
      cut := some 10600000, endTarget := some 10648000
      sections := { a := { activeSec 10500000 10490000 with state := .abandoned, owing := true }, b := activeSec f f } }
    let s : State := { delivering 10648000 r (drainB 2048 false) with
      takes := { (rolling 10648000 r).takes with state := .tail } }
    s.openRecord? = some r ∧ s.record? r.id = some r ∧ s.takes.state = .tail ∧ 10648000 ≤ s.ring.p ∧ NoticeRoom s
    ∧ (s.drain .a).inFlight = none ∧ (s.drain .b).inFlight = none ∧ (r.sections.get .a).owing = true
    ∧ (r.sections.get .a).live = false ∧ (r.sections.get .b).owing = false ∧ (r.sections.get .b).live = true
    ∧ (r.sections.get .b).formation = f ∧ r.endRaised 10648000 = 10648000 := by decide +kernel

theorem witness_WindowEndMakesRecordsFinal :
    let s : State := { atP 11940000 with takes := { TakeCtl.initial with
      table := [closedRec 7 10500000 11940000, closedRec 8 10648000 11940001] } }
    s.record? 7 = some (closedRec 7 10500000 11940000) ∧ (closedRec 7 10500000 11940000).state = .closed
    ∧ 7 ∉ s.delivery.list ∧ (closedRec 7 10500000 11940000).windowEnd = some 11940000 ∧ 11940000 ≤ s.ring.p
    ∧ s.record? 8 = some (closedRec 8 10648000 11940001)
    ∧ (closedRec 8 10648000 11940001).windowEnd = some 11940001 ∧ s.ring.p < 11940001 := by decide +kernel

/-- Two records that become FINAL, with room for their notices, before one that does not. -/
theorem witness_WindowEndMakesRecordsFinal_notices :
    let s : State := { atP 11940000 with takes := { TakeCtl.initial with
      table := [closedRec 7 10500000 11940000, closedRec 9 10500000 11930000, closedRec 8 10648000 11940001] } }
    (s.takes.table.filter fun r => decide (r.state = .closed ∧ r.id ∉ s.delivery.list
      ∧ (r.windowEnd.map fun w => decide (w ≤ s.ring.p)) = some true)).map (fun r => r.id) = [7, 9]
    ∧ (s.takes.table.map fun r => r.id).Nodup ∧ s.link.notices.length + 2 ≤ 32
    ∧ (nx .windowEnd s).link.notices.map (fun n => n.notice.noticeKind) = [.finl, .finl] := by decide +kernel

/-- Both marks armed at count 12 with the boundary of count 12 entered, in a take state. -/
def markEntered (state : TakeState) (armed : TrackSet) (table : List TakeRecord) (start stop : Bool) : State :=
  { atP 9 with
    router := { Router.initial with armed := armed }
    takes := { TakeCtl.initial with
      state := state, table := table, nextId := 9, startMark := { armed := true, count := 12 }
      stopMark := { armed := true, count := 12 }, markDue := some { count := 12, pos := 7, start := start, stop := stop } } }

theorem witness_MarkFiredDisarmsAndReports :
    let r := openRec 8 0 5 2
    State.reset.takes.markDue = none
    ∧ (∀ start ∈ [false, true], ∀ stop ∈ [false, true],
        let s := markEntered .rolling 2 [r] start stop
        s.takes.markDue = some { count := 12, pos := 7, start := start, stop := stop } ∧ (s.mark .start).armed = true
        ∧ (s.mark .start).count = 12 ∧ (s.mark .stop).armed = true ∧ (s.mark .stop).count = 12)
    ∧ (let s := markEntered .rolling 2 [r] true true
       s.takes.state = .rolling ∧ NoticeRoom s ∧ s.openRecord? = some r ∧ s.record? r.id = some r
       ∧ 7 = max (min 7 s.ring.p) r.roll ∧ s.ring.p < 7 + s.takes.caps.postRoll
       ∧ (let u : State := { s with takes := { s.takes with caps := { s.takes.caps with postRoll := 2 } } }
          7 + u.takes.caps.postRoll ≤ u.ring.p))
    ∧ (let s := markEntered .stopped 0 [] true false
       s.takes.state ≠ .rolling ∧ s.router.armed = 0 ∧ s.link.notices.length + 2 ≤ 32 ∧ NoticeRoom s)
    ∧ (let s := markEntered .stopped 2 [] true false
       s.takes.state ≠ .rolling ∧ s.router.armed ≠ 0 ∧ s.takes.state = .stopped ∧ s.takes.table.length < 16
       ∧ s.delivery.list.length < 4 ∧ s.link.notices.length + 2 ≤ 32) := by decide +kernel

/-- The state of two LEVEL lines: line 1 with a confirmed edge, line 2 asserted. -/
def twoLines (q : Option TrigRequest) : State :=
  { rolling 9 (openRec 8 0 5 2) with triggers :=
      { line1 := { TrigLine.initial with
          mode := .level, level := some true
          confirmed := some { level := true, first := 6, direction := .asserted, request := q } }
        line2 := { TrigLine.initial with mode := .level, level := some true } } }

theorem witness_ConfirmedEdgesAreActedOn :
    (State.reset.triggers.line2.confirmed = none ∧ State.reset.triggers.line1.confirmed = none)
    ∧ ((twoLines none).triggers.line2.confirmed = none ∧ (twoLines none).triggers.line1.confirmed =
        some { level := true, first := 6, direction := .asserted, request := none })
    ∧ ((twoLines (some .roll)).triggers.line1.confirmed =
        some { level := true, first := 6, direction := .asserted, request := some .roll }
       ∧ (twoLines (some .roll)).takes.state = .rolling)
    ∧ ((twoLines none).takes.state = .rolling ∧ (twoLines none).openRecord? = some (openRec 8 0 5 2)
       ∧ (twoLines none).triggers.line2.mode = .level
       ∧ (twoLines none).triggers.line2.level = some (!(twoLines none).triggers.line2.assertedLow)
       ∧ (twoLines none).triggers.line1.mode = .level
       ∧ (twoLines none).triggers.line1.level = some (!(twoLines none).triggers.line1.assertedLow)) := by decide +kernel

/-- The trigger unit that the statement names by its two lines. -/
theorem witness_ConfirmedEdgesAreActedOn_after (s : State) (n : Line) (c : ConfirmedEdge) :
    ∃ after : Option LineOutcome → Triggers, ∀ outcome, (after outcome).get n = { s.triggers.get n with
        level := some c.level, pending := none, lastEdge := some (c.first, c.direction)
        edgeCount := ((s.triggers.get n).edgeCount + 1) % 65536, lastOutcome := outcome, confirmed := none }
      ∧ ∀ o, o ≠ n → (after outcome).get o = s.triggers.get o :=
  ⟨fun outcome => s.triggers.modify n fun l => { l with
      level := some c.level, pending := none, lastEdge := some (c.first, c.direction)
      edgeCount := (l.edgeCount + 1) % 65536, lastOutcome := outcome, confirmed := none }, fun outcome =>
    ⟨by cases n <;> rfl, fun o h => by cases n <;> cases o <;> first | rfl | exact absurd rfl h⟩⟩

/-- An edge of one line, with its request, in a take state at P = 10,600,000; the other line has none. -/
def edgeOn (n : Line) (q : TrigRequest) (state : TakeState) (armed : TrackSet) (first : Nat) : State :=
  let s := rolling 10600000 (openRec 8 10404000 10500000 0xF)
  { s with
    router := { Router.initial with armed := armed }
    takes := { s.takes with state := state, table := if state = .stopped then [] else s.takes.table }
    triggers := State.reset.triggers.modify n fun l => { l with
      mode := .edge, level := some false
      confirmed := some { level := true, first := first, direction := .asserted, request := some q } } }

/-- A roll and a toggle of either line in STOPPED and in TAIL, with a track armed and with none, and in ROLLING. -/
theorem witness_ConfirmedEdgesAreActedOn_rolls : ∀ n ∈ [Line.one, .two], ∀ q ∈ [TrigRequest.roll, .toggle],
    (∀ state ∈ [TakeState.stopped, .tail], ∀ tracks ∈ [1, 0], let s := edgeOn n q state (BitVec.ofNat 24 tracks) 10599905
      (s.triggers.get n).confirmed = some { level := true, first := 10599905, direction := .asserted, request := some q }
      ∧ (s.triggers.get (otherLine n)).confirmed = none ∧ s.takes.state ≠ .rolling
      ∧ s.router.armed.toNat = tracks ∧ NoticeRoom s)
    ∧ (edgeOn n .roll .rolling 0 5).takes.state = .rolling := by decide +kernel

/-- The take that a toggle of line 2 opens in STOPPED rolls at the back-dated edge, 96,000 positions after its start (R60,
R78, R105). -/
theorem test_edge_rolls : (nx .edgeConfirmed (edgeOn .two .toggle .stopped 3 10599905)).takes.table.map
    (fun r => (r.rollCause, r.roll, r.start)) = [(.trigger2, 10599905, 10503905)] := by decide +kernel

/-- A LEVEL cut and a toggle of either line in ROLLING, before and after the post-roll has passed, not held; and outside
ROLLING, where a LEVEL cut has no effect. -/
theorem witness_ConfirmedEdgesAreActedOn_cuts : ∀ n ∈ [Line.one, .two], ∀ q ∈ [TrigRequest.levelCut, .toggle],
    (∀ first ∈ [10552001, 10552000], let s := edgeOn n q .rolling 0 first
      s.openRecord? = s.record? 8 ∧ s.openRecord?.map (fun r => r.roll) = some 10500000 ∧ s.takes.state = .rolling
      ∧ (s.triggers.get (otherLine n)).mode ≠ .level ∧ (s.triggers.get (otherLine n)).confirmed = none
      ∧ (s.ring.p < max first 10500000 + s.takes.caps.postRoll ↔ first = 10552001)
      ∧ (nx .edgeConfirmed s).takes.state = if first = 10552001 then .tail else .stopped)
    ∧ (∀ state ∈ [TakeState.stopped, .tail], (edgeOn n q state 0 5).takes.state ≠ .rolling) := by decide +kernel

/-- Both lines with an edge confirmed: two rolls, in STOPPED with a track armed; and a LEVEL cut of line 1 in ROLLING while
the edge of line 2 asserts it. -/
theorem witness_ConfirmedEdgesAreActedOn_both :
    let c (q : TrigRequest) : ConfirmedEdge := { level := true, first := 10599905, direction := .asserted, request := some q }
    let s (q : TrigRequest) (state : TakeState) : State := { edgeOn .one q state 1 10599905 with triggers :=
      { (edgeOn .one q state 1 10599905).triggers with
        line2 := { TrigLine.initial with mode := .level, level := some false, confirmed := some (c .roll) } } }
    (∀ x ∈ [s .roll .stopped, s .levelCut .rolling], x.triggers.line2.confirmed = some (c .roll)
      ∧ x.triggers.line2.mode = .level ∧ (c .roll).level = !x.triggers.line2.assertedLow)
    ∧ (s .roll .stopped).triggers.line1.confirmed = some (c .roll) ∧ (s .roll .stopped).takes.state ≠ .rolling
    ∧ (s .roll .stopped).router.armed ≠ 0
    ∧ (s .levelCut .rolling).triggers.line1.confirmed = some (c .levelCut) ∧ (s .levelCut .rolling).takes.state = .rolling
    ∧ (s .levelCut .rolling).openRecord?.isSome = true := by decide +kernel

theorem witness_CaptureMarkAndTriggerSettingsAreStored :
    (let f : CaptureFields := { preRoll := 10001, postRoll := 10000, maxLength := 241, window := 120, grace := 61 }
     HasRoom tailSeven ∧ tailSeven.takes.state ≠ .rolling
     ∧ ({ preRoll := 480000, postRoll := 480000, maxLength := 691200000, window := 5760000, grace := 2880000 } : Captures) =
       { preRoll := min f.preRoll.toNat 10000 * 48, postRoll := min f.postRoll.toNat 10000 * 48
         maxLength := min f.maxLength.toNat 240 * 2880000, window := min f.window.toNat 120 * 48000
         grace := min f.grace.toNat 60 * 48000 })
    ∧ (let f : CaptureFields := { preRoll := 0, postRoll := 1, maxLength := 1, window := 0, grace := 0 }
       let r := openRec 8 0 5 2
       (∀ p ∈ [2880004, 2880005, 2880052, 2880053], HasRoom (rolling p r) ∧ (rolling p r).takes.state = .rolling
         ∧ (rolling p r).openRecord? = some r ∧ (rolling p r).record? r.id = some r)
       ∧ min f.maxLength.toNat 240 * 2880000 = 2880000 ∧ min f.postRoll.toNat 10000 * 48 = 48
       ∧ (rolling 2880004 r).ring.p < r.roll + 2880000 ∧ r.roll + 2880000 ≤ (rolling 2880005 r).ring.p
       ∧ (rolling 2880052 r).ring.p < r.roll + 2880000 + 48 ∧ r.roll + 2880000 + 48 ≤ (rolling 2880053 r).ring.p)
    ∧ (HasRoom State.reset ∧ validLabel State.reset.timeline.rate ⟨0, 0, 0, 24⟩ = false
       ∧ validLabel State.reset.timeline.rate ⟨0, 0, 0, 23⟩ = true)
    ∧ trigModeOf 3 = some .edge ∧ flagOf 1 = some true ∧ min (4801#16).toNat 4800 = 4800 := by decide +kernel

/-- Each condition of R116 and R123 fails on its own, with 2,048 sample periods of take 40 available: drain B is disabled,
down, held, or has a block in flight, and in none of them a block is formed; and no take is current. -/
theorem witness_FormBlockSendsABlock_none :
    let x := drainB 2048 false
    ((delivering 20006144 forty x).nextBlock .b).isSome = true
    ∧ (∀ y ∈ [{ x with settings := { x.settings with enabled := false } }, { x with linkUp := false },
          { x with hold := true }, { x with inFlight := some block500 }],
        let s := delivering 20006144 forty y
        (s.drain .b) = y ∧ s.currentTake .b = some 40
        ∧ (y.settings.enabled = false ∨ y.linkUp = false ∨ y.hold = true ∨ y.inFlight ≠ none)
        ∧ nx (.formBlock .b) s = s)
    ∧ (let s := delivering 20006144 forty x
       s.currentTake .a = none)
    ∧ (let s := delivering 22101249 forty x
       s.currentTake .b = some 40 ∧ 2048 = (s.drain .b).settings.blockLength
       ∧ (forty.sections.get .b).formation < s.ring.p - 2097152) := by decide +kernel

theorem witness_FormBlockSendsABlock :
    (let s := delivering 20006144 forty (drainB 2048 false)
     s.currentTake .b = some 40 ∧ s.record? 40 = some forty ∧ (s.drain .b).settings.enabled = true
     ∧ (s.drain .b).linkUp = true ∧ (s.drain .b).hold = false ∧ (s.drain .b).inFlight = none ∧ forty.endPos = none
     ∧ 2048 = (s.drain .b).settings.blockLength ∧ (forty.sections.get .b).formation + 2048 ≤ s.ring.p
     ∧ s.ring.p - 2097152 ≤ (forty.sections.get .b).formation)
    ∧ (let s := delivering 20006143 forty (drainB 2048 false)
       s.currentTake .b = some 40 ∧ s.record? 40 = some forty ∧ forty.state = .opened
       ∧ s.ring.p < (forty.sections.get .b).formation + (s.drain .b).settings.blockLength)
    ∧ (∀ e ∈ [20004096, 20004097], let r := { forty with state := .closed, endPos := some e }
       let s := delivering 20006143 r (drainB 2048 false)
       s.currentTake .b = some 40 ∧ s.record? 40 = some r ∧ r.state ≠ .opened
       ∧ min (e - (r.sections.get .b).formation) (s.drain .b).settings.blockLength = e - 20004096
       ∧ (r.sections.get .b).formation + (e - 20004096) ≤ s.ring.p ∧ (r.sections.get .a).live = false
       ∧ s.ring.p - 2097152 ≤ (r.sections.get .b).formation)
    ∧ (let r := { forty with sections := { forty.sections with a := activeSec 20004096 20004096 } }
       (r.sections.get .a).live = true) := by decide +kernel

/-- The retained range at P = 2,097,160 is 8 to 2,097,159: a run from 7 is short of one group, and so is one up to P. -/
theorem witness_FormBlockSendsABlock_read : let ring : Ring := { p := 2097160, cells := [] }
    ((ring.read 7 3 0x5#24).groups.length = 2 ∧ (ring.read 7 3 0x5#24).short = true)
    ∧ ((ring.read 8 2 0x5#24).groups = [[0, 0], [0, 0]] ∧ (ring.read 8 2 0x5#24).short = false)
    ∧ ((ring.read 2097159 2 0x5#24).groups.length = 1 ∧ (ring.read 2097159 2 0x5#24).short = true)
    ∧ ((ring.read 2097160 1 0x5#24).groups = [] ∧ (ring.read 2097160 1 0x5#24).short = true) := by decide +kernel

theorem witness_CompletionCountsTheBlock :
    let r : TakeRecord := { openRec 40 29000000 29100000 0x3F with sections :=
      { a := newSection false 0, b := { activeSec 30002048 30000000 with nextSeq := 501 } } }
    let s (b : Block) := delivering 30500000 r { drainB 2048 false with inFlight := some b }
    ((State.reset.drain .a).inFlight = none)
    ∧ (((s block500).drain .b).inFlight = some block500 ∧ block500.settled = false
       ∧ (s block500).record? block500.header.takeId = some r)
    ∧ (let r := { r with state := .closed, endPos := some 30002048 }
       r.state ≠ .opened ∧ (r.sections.get .b).live = true ∧ r.endPos = some (r.sections.get .b).formation)
    ∧ (let b := { block500 with settled := true }
       ((s b).drain .b).inFlight = some b ∧ b.settled = true)
    ∧ (let s : State := { s block500 with takes := TakeCtl.initial }
       (s.drain .b).inFlight = some block500 ∧ s.record? block500.header.takeId = none) := by decide +kernel

theorem witness_PortEventsChangeTheDrain :
    let s (hold : Bool) := delivering 5 forty (drainB 2048 hold)
    let down := delivering 5 forty { drainB 2048 false with linkUp := false }
    ((State.reset.drain .b).settings.enabled = false)
    ∧ (((s false).drain .b).settings.enabled = true ∧ ((s false).drain .b).hold = false
       ∧ ((s false).drain .b).linkUp = true)
    ∧ (((s true).drain .b).settings.enabled = true ∧ ((s true).drain .b).hold = true
       ∧ ((s true).drain .b).stalled = false ∧ NoticeRoom (s true))
    ∧ ((down.drain .b).linkUp = false ∧ (down.drain .b).settings.enabled = true)
    ∧ ((delivering 5 forty { drainB 2048 true with stalled := true }).drain .b).stalled = true := by decide +kernel

/-- Beside take 40, whose block is the last, take 41 is listed and PENDING, and take 39 is not listed: at the completion
drain B moves on to take 41, and take 39 stays as it is. -/
theorem witness_CompletionCountsTheBlock_others :
    let r : TakeRecord := { closedRec 40 30002048 90000000 with sections :=
      { a := newSection false 0, b := { activeSec 30002048 30000000 with nextSeq := 501 } } }
    let p : TakeRecord := { openRec 41 30100000 30100000 0x3F with sections :=
      { a := newSection false 30100000, b := newSection true 30100000 } }
    let s : State := { delivering 30500000 r { drainB 2048 false with inFlight := some block500 } with
      takes := { (rolling 30500000 r).takes with table := [closedRec 39 7 90000000, r, p] }
      delivery := { list := [40, 41], drains :=
        { a := DrainState.initial true, b := { drainB 2048 false with inFlight := some block500 } } } }
    s.record? 40 = some r ∧ r.state ≠ .opened ∧ (s.drain .a).inFlight = none
    ∧ p.id ≠ r.id ∧ s.record? p.id = some p ∧ p.live = true
    ∧ (nx (.completion .b) s).record? 41 = some { p with sections := { p.sections with
        b := { p.sections.b with state := .active } } }
    ∧ s.record? 39 = some (closedRec 39 7 90000000) ∧ 39 ∉ s.delivery.list
    ∧ (nx (.completion .b) s).record? 39 = s.record? 39 := by decide +kernel

theorem witness_LinkDownAbortsTheBlock :
    let r (st : SecState) : TakeRecord := { openRec 40 29000000 29100000 0x3F with sections :=
      { a := newSection false 0, b := { activeSec 30002048 30000000 with state := st, nextSeq := 501 } } }
    let s (p : Nat) (st : SecState) (b : Block) := delivering p (r st) { drainB 2048 false with inFlight := some b }
    let settled : Block := { block500 with settled := true }
    ((State.reset.drain .b).inFlight = none)
    ∧ (((s 32097152 .active block500).drain .b).inFlight = some block500 ∧ block500.settled = false
       ∧ (s 32097152 .active block500).record? block500.header.takeId = some (r .active)
       ∧ ((r .active).sections.get .b).live = true
       ∧ min (30000000 + block500.header.count) ((s 32097152 .active block500).ring.p - 2097152) - block500.first = 0)
    ∧ (((s 32097153 .active block500).drain .b).inFlight = some block500
       ∧ (s 32097153 .active block500).record? block500.header.takeId = some (r .active)
       ∧ 0 < min (30000000 + block500.header.count) ((s 32097153 .active block500).ring.p - 2097152) - block500.first
       ∧ ((s 32097153 .active block500).drain .b).gapEpisode = false ∧ NoticeRoom (s 32097153 .active block500))
    ∧ (let t := (s 32097153 .active block500).modDrain .b fun x => { x with gapEpisode := true }
       (t.drain .b).inFlight = some block500 ∧ (t.drain .b).gapEpisode = true
       ∧ t.record? block500.header.takeId = some (r .active))
    ∧ (let q : TakeRecord := { r .active with state := .closed, endPos := some 30000000 }
       q.state ≠ .opened ∧ q.endPos = some (min (q.sections.get .b).formation (max block500.first 30000000)))
    ∧ ((s 9 .abandoned block500).record? block500.header.takeId = some (r .abandoned)
       ∧ ((r .abandoned).sections.get .b).state = .abandoned)
    ∧ (((s 9 .done settled).drain .b).inFlight = some settled ∧ settled.settled = true
       ∧ ((r .done).sections.get .b).live = false ∧ (s 9 .done settled).record? settled.header.takeId = some (r .done))
    ∧ (let t : State := { s 9 .active block500 with takes := TakeCtl.initial }
       (t.drain .b).inFlight = some block500 ∧ t.record? block500.header.takeId = none) := by decide +kernel

/-- Take 40 on drain B: pushed by one at P = 22,101,249 and not before (held mirror writer, chapter 07). -/
theorem witness_LostRunsAreRecordedAsGaps :
    (∀ p ∈ [22101247, 22101248], let s := delivering p forty (drainB 2048 true)
      s.settleAdvance = s ∧ s.delivery.list.Nodup ∧ 40 ∈ s.delivery.list ∧ s.record? 40 = some forty
      ∧ (forty.sections.get .b).live = true ∧ forty.endPos = none ∧ (s.drain .b).gapEpisode = false ∧ NoticeRoom s
      ∧ s.delivery.list = [40] ∧ (forty.sections.get .a).live = false
      ∧ (nx (.audioFrame (Vector.replicate 16 0) false false) s).ring.p - 2097152 - (forty.sections.get .b).formation =
          p - 22101247)
    ∧ (let x (n : Nat) : Section := { forty.sections.b with gaps := List.replicate n { offset := 10, length := 5 } }
       (x 0).gaps = [] ∧ (x 7).gaps = List.replicate 6 { offset := 10, length := 5 } ++ [{ offset := 10, length := 5 }]
       ∧ 15 = 10 + 5 ∧ (7 ≠ 10 + 5 ∧ 7 + 3 = 10) ∧ (16 ≠ 10 + 5 ∧ 16 + 3 ≠ 10) ∧ (x 7).gaps.length < 8
       ∧ 8 ≤ (x 8).gaps.length) := by decide +kernel

/-- A push while the drain is in a gap episode, and one that begins an episode: DRNE GAP in the second alone (R128). -/
theorem witness_LostRunsAreRecordedAsGaps_episode :
    let s (episode : Bool) := delivering 22101248 forty { drainB 2048 true with gapEpisode := episode }
    let t (episode : Bool) := nx (.audioFrame (Vector.replicate 16 0) false false) (s episode)
    (exec (.audioFrame (Vector.replicate 16 0) false false) (s true) = .next (t true))
    ∧ (s true).settleAdvance = s true ∧ ((s true).drain .b).gapEpisode = true
    ∧ (t true).link.notices = [] ∧ (t true).link.conds.deliveryGap = false
    ∧ (t false).link.notices.map (fun n => isGapOf .b n.notice) = [true] ∧ (t false).link.conds.deliveryGap = true :=
  ⟨rfl, by decide +kernel, by decide +kernel, by decide +kernel, by decide +kernel, by decide +kernel, by decide +kernel⟩

/-- A DRAN set of drain B with a block length and the longest hold timeout, and the settings it stands for. -/
def dranFields (enable : BitVec 8) (blockLength : BitVec 16) : DrainFields :=
  { enable := enable, wordSize := 24, byteOrder := 0, blockLength := blockLength, holdTimeout := 61 }

def dranStored (enabled : Bool) (blockLength : Nat) : DrainSettings :=
  { enabled := enabled, wordSize := .w24, highFirst := false, blockLength := blockLength, holdTimeout := 60 }

/-- The fields of a DRAN set spell settings: the codes, and the clamped lengths (R113). -/
abbrev DranSpells (f : DrainFields) (x : DrainSettings) : Prop :=
  f.enable = (if x.enabled = true then 1 else 0) ∧ f.wordSize = (match x.wordSize with | .w16 => 16 | .w24 => 24)
    ∧ f.byteOrder = (if x.highFirst = true then 1 else 0) ∧ x.blockLength = max 256 (min f.blockLength.toNat 8192)
    ∧ x.holdTimeout = max 1 (min f.holdTimeout.toNat 60)

theorem witness_DranSetStoresOrIsBusy :
    (let s := delivering 5 forty (drainB 2048 false)
     HasRoom s ∧ DranSpells (dranFields 1 255) (dranStored true 256) ∧ ¬DranFree s .b (dranStored true 256)
     ∧ DranSpells (dranFields 1 2048) (dranStored true 2048) ∧ DranFree s .b (dranStored true 2048)
     ∧ (s.drain .b).settings.enabled = true ∧ (s.drain .b).hold = false ∧ (s.drain .b).linkUp = true)
    ∧ (∀ n ∈ [59999, 60000], let s := delivering 5 forty { drainB 2048 true with timer := { count := n, frac := 0 } }
       (s.drain .b).hold = true ∧ (s.drain .b).stalled = false ∧ NoticeRoom s ∧ (s.drain .b).timer.count = n
       ∧ 59999 < (dranStored true 2048).holdTimeout * 1000 ∧ (dranStored true 2048).holdTimeout * 1000 ≤ 60000
       ∧ DranFree s .b (dranStored true 2048))
    ∧ (DranFree State.reset .a (dranStored true 256) ∧ (State.reset.drain .a).settings.enabled = false
       ∧ HasRoom State.reset ∧ DranSpells (dranFields 0 8193) (dranStored false 8192)
       ∧ DranFree State.reset .a (dranStored false 8192)) := by decide +kernel

/-- Disabling drain B while take 40 is in delivery on it, with and without a block in flight. -/
theorem witness_DranSetStoresOrIsBusy_disable :
    DranSpells (dranFields 0 2048) (dranStored false 2048)
    ∧ (let s := delivering 5 forty (drainB 2048 false)
       DranFree s .b (dranStored false 2048) ∧ (s.drain .b).settings.enabled = true ∧ 40 ∈ s.delivery.list
       ∧ s.record? 40 = some forty ∧ (forty.sections.get .b).live = true)
    ∧ (∀ settled ∈ [false, true], let b : Block := { block500 with settled := settled }
       let s := delivering 5 forty { drainB 2048 false with inFlight := some b }
       (s.drain .b).inFlight = some b ∧ b.header.takeId = 40 ∧ b.settled = settled ∧ s.record? 40 = some forty)
    ∧ (let r := { forty with sections := { forty.sections with b := { forty.sections.b with state := .abandoned } } }
       let s := delivering 5 r { drainB 2048 false with inFlight := some block500 }
       s.record? block500.header.takeId = some r ∧ (r.sections.get .b).state = .abandoned
       ∧ DranFree s .b (dranStored false 2048)) := by decide +kernel

/-- Takes 33 to 36 in delivery, with their window end, and 11 FINAL records before them. -/
def fullHouse (w : Nat) : State :=
  let live (id : Nat) : TakeRecord := { closedRec id 40960000 w with
    sections := { a := activeSec 40502048 40500000, b := activeSec 40200000 40200000 } }
  { beforeSeven with
    takes := { TakeCtl.initial with
      nextId := 37
      table := (List.range' 21 11).map (fun id => { closedRec id 1 2 with state := .final }) ++ [33, 34, 35, 36].map live }
    delivery := { beforeSeven.delivery with list := [33, 34, 35, 36] } }

/-- A full table: two listed records, then record 21, then thirteen more. -/
def crowded (state : RecState) : State :=
  { beforeSeven with
    takes := { TakeCtl.initial with
      nextId := 37
      table := [closedRec 34 1 2, closedRec 35 1 2] ++ { closedRec 21 1 90000000 with state := state }
        :: (List.range' 42 13).map (fun id => closedRec id 1 2) }
    delivery := { beforeSeven.delivery with list := [34, 35] } }

theorem witness_FullListAndTableMakeRoom :
    (∀ w ∈ [10000000, 10000001], let s := fullHouse w
      HasRoom s ∧ s.takes.state = .stopped ∧ s.router.armed ≠ 0 ∧ (s.drain .a).settings.enabled = true
      ∧ s.delivery.list = 33 :: [34, 35, 36] ∧ ([34, 35, 36] : List Nat).length = 3 ∧ 33 ∉ ([34, 35, 36] : List Nat)
      ∧ (∀ j ∈ [34, 35, 36], (s.record? j).map (fun q => q.live) = some true) ∧ s.takes.table.length < 16
      ∧ (s.record? 33).map (fun r => (r.state, r.endPos, r.windowEnd)) = some (.closed, some 40960000, some w)
      ∧ s.ring.p = 10000000 ∧ (s.drain .b).inFlight = none)
    ∧ (∀ state ∈ [RecState.closed, .final], let s := crowded state
       HasRoom s ∧ s.takes.state = .stopped ∧ s.router.armed ≠ 0 ∧ s.delivery.list.length < 4
       ∧ s.takes.table = [closedRec 34 1 2, closedRec 35 1 2] ++ { closedRec 21 1 90000000 with state := state }
         :: (List.range' 42 13).map (fun id => closedRec id 1 2)
       ∧ s.takes.table.length = 16 ∧ ((s.takes.table.map fun q => q.id) ++ [s.takes.nextId]).Nodup
       ∧ (∀ q ∈ [closedRec 34 1 2, closedRec 35 1 2], q.id ∈ s.delivery.list) ∧ 21 ∉ s.delivery.list ∧ NoticeRoom s)
    ∧ (let r := closedRec 40 30002048 32000000
       let s : State := { delivering 32000000 r { drainB 2048 false with inFlight := some block500 } with
         takes := { TakeCtl.initial with table := [r] } }
       let u : State := { s with delivery := { s.delivery with list := [] } }
       u.record? r.id = some r ∧ r.state = .closed ∧ r.id ∉ u.delivery.list ∧ r.windowEnd = some 32000000
       ∧ 32000000 ≤ u.ring.p ∧ (u.drain .b).inFlight = some block500 ∧ block500.header.takeId = r.id
       ∧ block500.settled = false) := by decide +kernel

theorem witness_CharactersAssembleNotes :
    (State.reset.notes.waitHigh = false ∧ State.reset.notes.line = .idle ∧ State.reset.notes.accept = []
      ∧ 0x602#11 = 1#1 ++ 1#1 ++ 1#8 ++ 0#1 ∧ 0x402#11 = 1#1 ++ 0#1 ++ 1#8 ++ 0#1 ∧ 1 ≤ (30#8).toNat ∧ (30#8).toNat ≤ 30
      ∧ 30 < (31#8).toNat ∧ (0#8).toNat < 1)
    ∧ (let s := onNotes fun x => { x with accept := [5] }
       s.notes.accept ≠ [] ∧ (30#8).toNat ∉ s.notes.accept ∧ (5#8).toNat ∈ s.notes.accept)
    ∧ (openNote.notes.line = .opened ∧ openNote.notes.waitHigh = false ∧ 0x20 ≤ (0x7E#8).toNat ∧ (0x7E#8).toNat ≤ 0x7E
       ∧ 0x7E < (0x7F#8).toNat ∧ 0x7F#8 ≠ 0x0D ∧ openNote.notes.accept = [])
    ∧ (let s : State := { openNote with notes := { openNote.notes with accept := [5] } }
       s.notes.line = .opened ∧ s.notes.accept ≠ [] ∧ (30#8).toNat ∉ s.notes.accept) := by decide +kernel

theorem witness_NoteLineStepsOfOpenAndBreak :
    (State.reset.notes.line ≠ .breaking ∧ State.reset.notes.waitHigh = false ∧ State.reset.notes.line ≠ .opened
      ∧ State.reset.notes.line = .idle)
    ∧ (openNote.notes.line = .opened ∧ openNote.notes.receiving = false)
    ∧ ((onNotes fun x => { x with line := .breaking }).notes.line = .breaking)
    ∧ ((0x202#11).getLsbD 0 = false ∧ (0x202#11).getLsbD 10 = false)
    ∧ (let s : State := { State.reset with notes := NoteRx.initial false }
       s.notes.line ≠ .breaking ∧ s.notes.waitHigh = true ∧ (0x602#11).getLsbD 0 = false ∧ (0x602#11).getLsbD 10 = true)
    ∧ (let s : State := { openNote with notes := { openNote.notes with lineHigh := false } }
       s.pending = [] ∧ s.dueCommand = none ∧ s.notes.lineHigh = false ∧ openNote.dueCommand = none) := by decide +kernel

/-- Over power-on reset a character whose bits are arriving is not taken, and not counted; the next one is (R147). -/
theorem test_power_on_drops_character :
    let s := nx .powerOnReset (nx .startBitEdge State.reset)
    let t := nx (.character 0x602#11) s
    t.notes.line = .idle ∧ (nx (.character 0x002#11) s).notes.counts = NoteCounts.zero
    ∧ (nx (.character 0x602#11) (nx .startBitEdge s)).notes.line = .opened
    ∧ (nx (.character 0x602#11) t).notes.line = .opened := by decide +kernel

/-- A character that arrives while the engine is reset is taken in IDLE: after a framing error its start bit shows the line
high, RSET ENGINE does not interrupt it, and its address opens a note (R135, R147); without the start bit it is not taken. -/
theorem test_reset_keeps_character :
    let s := nx (.character 0x002#11) openNote
    s.notes.lineHigh = false
    ∧ (nx (.character 0x602#11) (nx (.rsetEngine 1) (nx .startBitEdge s))).notes.line = .opened
    ∧ (nx (.character 0x602#11) (nx (.rsetEngine 1) s)).notes.line = .idle := by decide +kernel

theorem witness_NotesAreBoundAndReported :
    State.reset.notes.completed = []
    ∧ (∀ text ∈ [[0x58], [0x46], [0x57]], let note : CompletedNote := { station := 5, text := text, long := false, position := 1 }
       let s := onNotes fun x => { x with completed := [note] }
       s.notes.completed = note :: [] ∧ NoticeRoom s)
    ∧ parseNote [0x58] = .rejected .unknownKind
    ∧ (State.reset.bindNote { station := 5, text := [0x46], long := false, position := 1 }).2 = .orphaned .falseTake 0 .noWindow
    ∧ ((State.reset.bindNote { station := 5, text := [0x57], long := false, position := 1 }).1.binding.wild = true)
    ∧ (let body : Text := List.replicate 48 0x70
       HasRoom State.reset ∧ (0x4D :: 0x20 :: body).length ≤ 240 ∧ (∀ b ∈ body, 0x20 ≤ b.toNat ∧ b.toNat ≤ 0x7E)
       ∧ body.length ≤ 48 ∧ State.reset.openRecord? = none ∧ State.reset.recentClosed? = none
       ∧ State.reset.binding.comments.length < 8) := by decide +kernel

/-- Texts after the kind letter: no target, a space skipped, targets 1 and 65,535, and a target that ends the text. -/
theorem witness_NotesAreBoundAndReported_targets :
    (∀ k ∈ kindLetters, k ≠ 0x58) ∧ (0x58 ∉ kindLetters) ∧ kindLetters.length = 8
    ∧ SpellsTargetAndBody [] none [] ∧ SpellsTargetAndBody [0x20, 0x41] none [0x41] ∧ SpellsTargetAndBody [0x41] none [0x41]
    ∧ SpellsTargetAndBody [0x23, 0x31, 0x20, 0x41] (some 1) [0x41]
    ∧ SpellsTargetAndBody [0x23, 0x36, 0x35, 0x35, 0x33, 0x35] (some 65535) [] :=
  ⟨by decide, by decide, rfl, .inl ⟨rfl, .inr ⟨rfl, by decide, by decide⟩⟩, .inl ⟨rfl, .inl rfl⟩,
    .inl ⟨rfl, .inr ⟨rfl, by decide, by decide⟩⟩,
    .inr ⟨[0x31], by decide, by decide, by decide, rfl, .inl rfl⟩,
    .inr ⟨[0x36, 0x35, 0x35, 0x33, 0x35], by decide, by decide, by decide, rfl, .inr ⟨rfl, rfl⟩⟩⟩

/-- A target of no digits is malformed (R150). -/
theorem witness_NotesAreBoundAndReported_badTarget (target : Option Nat) (body : Text) :
    ¬SpellsTargetAndBody [0x23] target body := by
  rintro (⟨_, h | ⟨_, _, h⟩⟩ | ⟨digits, hd, _, _, _, h | ⟨h, _⟩⟩)
  · exact absurd h (by simp)
  · exact h rfl
  · simp at h
  · obtain rfl : digits = [] := by simpa using h.symm
    exact absurd hd.1 (by decide)

/-- Take numbers 1 and 999 and none of 0, of four digits, of no digits or of a letter; tracks 01 and 24. -/
theorem witness_NotesAreBoundAndReported_bodies :
    (SpellsTakeNumber [0x31] ∧ SpellsTakeNumber [0x39, 0x39, 0x39] ∧ digitsValue [0x39, 0x39, 0x39] = 999
      ∧ ¬SpellsTakeNumber [0x30] ∧ ¬SpellsTakeNumber [0x31, 0x30, 0x30, 0x30] ∧ ¬SpellsTakeNumber []
      ∧ ¬SpellsTakeNumber [0x41])
    ∧ SpellsTrackName [0x30, 0x31, 0x3D] 0 [] ∧ SpellsTrackName [0x32, 0x34, 0x3D, 0x41] 23 [0x41] :=
  ⟨by decide, ⟨[0x30, 0x31], by decide, by decide, rfl⟩, ⟨[0x32, 0x34], by decide, by decide, rfl⟩⟩

/-- Track 25 is a bad track (R151). -/
theorem witness_NotesAreBoundAndReported_badTrack (track : Fin 24) (name : Text) :
    ¬SpellsTrackName [0x32, 0x35, 0x3D] track name := by
  rintro ⟨digits, hd, hv, hb⟩
  match digits, hd, hv, hb with
  | [a, b], _, hv, hb =>
    obtain ⟨rfl, rfl, _⟩ : 0x32 = a ∧ 0x35 = b ∧ 0x3D = 0x3D := by
      simp only [List.cons_append, List.nil_append, List.cons.injEq] at hb
      exact ⟨hb.1, hb.2.1, rfl⟩
    have : digitsValue [0x32, 0x35] = 25 := by decide
    omega

/-- The texts of one note of each kind, a targeted one last, and the states that decide between their destinations: a take
within grace and one past it, a CLOSED record at the last position of its window and at its end, and a FINAL record. -/
theorem witness_NotesReachTheirDestination :
    (∀ x ∈ [([0x53, 0x39], NoteKind.scene), ([0x54, 0x35], .takeNum), ([0x4B, 0x30, 0x33, 0x3D, 0x42], .trackName), ([0x57], .wild),
        ([0x43], .circle), ([0x4E], .noGood), ([0x46], .falseTake), ([0x4D, 0x20, 0x70], .comment)],
      (match parseNote x.1 with | .note n => some (n.body.kind, n.target) | .rejected _ => none) = some (x.2, none))
    ∧ (match parseNote [0x4D, 0x23, 0x37, 0x20, 0x70] with | .note n => n.target | .rejected _ => none) = some 7
    ∧ (let r := openRec 7 0 5 1
       (∀ p ∈ [720005, 720006], (rolling p r).openRecord? = some r ∧ (rolling p r).record? r.id = some r)
       ∧ (rolling 720005 r).ring.p - r.roll ≤ (rolling 720005 r).takes.caps.grace
       ∧ ¬(rolling 720006 r).ring.p - r.roll ≤ (rolling 720006 r).takes.caps.grace)
    ∧ (let r := closedRec 7 5 90
       let s (p : Nat) : State := { atP p with takes := { TakeCtl.initial with table := [r] } }
       (s 89).openRecord? = none ∧ (s 89).recentClosed? = some r ∧ r.windowEnd = some 90 ∧ (s 89).ring.p < 90
       ∧ ¬(s 90).ring.p < 90 ∧ (s 89).record? 7 = some r ∧ r.state ≠ .final ∧ (s 89).record? 8 = none)
    ∧ ({ closedRec 7 5 90 with state := .final } : TakeRecord).state = .final := by decide +kernel

theorem witness_NotesLeaveFinalRecords :
    let r := { closedRec 7 10500000 11940000 with state := .final }
    let s : State := { atP 11950000 with takes := { TakeCtl.initial with table := [r] } }
    r ∈ s.takes.table ∧ r.state = .final ∧ (∀ q ∈ s.takes.table, q.id = r.id → q = r)
    ∧ exec (.note 3 [0x46, 0x37]) s = .next (nx (.note 3 [0x46, 0x37]) s) := by
  refine ⟨by decide +kernel, by decide, ?_, rfl⟩
  intro q hq _
  exact List.mem_singleton.mp hq

/-- A SCENE on an AUTO record is reported as renumbered, with the number after it, and a ninth comment as lost (R161). -/
theorem test_bound_reports :
    let r : TakeRecord := { openRec 7 0 5 1 with slate := { (openRec 7 0 5 1).slate with
      comments := List.replicate 8 { station := 1, position := 3, text := [] } } }
    let out (text : Text) := ((rolling 9 r).bindNote { station := 5, text := text, long := false, position := 9 }).2
    out [0x53, 0x39] = .bound { kind := .scene, dest := .takeAndPending, takeId := 7, targeted := false, commentLost := false
                                number := 1, numbering := some .auto, renumbered := true, cut := false }
    ∧ out [0x4D, 0x23, 0x37, 0x20, 0x70] = .bound { kind := .comment, dest := .take, takeId := 7, targeted := true
                                                    commentLost := true, number := 0, numbering := none
                                                    renumbered := false, cut := false } := by decide +kernel

theorem witness_NlinSetsTheAcceptList :
    let v : Vector (BitVec 8) 8 := Vector.ofFn fun k => if k.val = 7 then 31 else 30
    HasRoom State.reset ∧ (8#8).toNat ≤ 8 ∧ (∃ k : Fin 8, k.val < (8#8).toNat ∧ (v[k] = 0 ∨ 30 < v[k].toNat))
    ∧ (∀ k : Fin 8, k.val < (7#8).toNat → 1 ≤ v[k].toNat ∧ v[k].toNat ≤ 30)
    ∧ ((List.finRange 8).filter fun k => decide (k.val < (7#8).toNat ∧ ∀ j : Fin 8, j < k → v[j] ≠ v[k])).map
        (fun k => v[k].toNat) = [30] := by decide +kernel

theorem witness_ControlBytesAndFrameErrorsAreCounted :
    ((State.reset.link.rx = .hunt ∧ 0xA6#8 ≠ 0xA7)
    ∧ (noisy.link.rx = .length ∧ (240#8).toNat ≤ 240 ∧ noisy.link.rx ≠ .hunt)
    ∧ (240 < (241#8).toNat ∧ noisy.link.consecutive < 255 ∧ NoticeRoom noisy
       ∧ noisy.link.consecutive + 1 = noisy.link.errorLimit)
    ∧ (onLine fun l => { l with rx := .length, errorLimit := 8 }).link.consecutive + 1 ≠ 8)
    ∧ (let s := onLine fun l => { l with errorLimit := 2 }
    s.link.rx = .hunt ∧ ReqKind.iden.word.length = 4 ∧ ([] : List Byte).length ≤ 240
    ∧ 0#8 ++ 0#8 ≠ crc (frameBody ReqKind.iden.word 5 []) ∧ s.link.consecutive + 1 ≠ s.link.errorLimit
    ∧ State.reset.link.consecutive < 255 ∧ State.reset.link.consecutive + 1 = State.reset.link.errorLimit
    ∧ NoticeRoom State.reset ∧ 255 ≤ (onLine fun l => { l with consecutive := 255 }).link.consecutive) := by decide +kernel

theorem witness_RepliesGoFirstAndNoticesQueueInOrder :
    (eightReplies.link.replies ≠ [] ∧ eightReplies.link.tx = none)
    ∧ (let s := onLine fun l => { l with notices := [{ seq := 0, notice := .refu .mark 3 }] }
       s.link.replies = [] ∧ s.link.notices = { seq := 0, notice := .refu .mark 3 } :: [])
    ∧ (State.reset.link.replies = [] ∧ State.reset.link.notices = [])
    ∧ (let f : TxFrame := { frame := .notice { seq := 0, notice := .refu .mark 3 }, bytes := [1, 2] }
       let s (n : Nat) := onLine fun l => { l with tx := some f, txTimer := { count := n, frac := 0 } }
       (s 1).link.tx = some f ∧ (s 1).link.txTimer.count < f.bytes.length ∧ f.bytes.length ≤ (s 2).link.txTimer.count)
    ∧ (let l (n : Nat) : Link := { Link.initial with notices := List.replicate n { seq := 0, notice := .refu .mark 3 } }
       let s (n : Nat) : State := { State.reset with link := l n, inputs := { Inputs.initial with reportPeriod := 50 } }
       (s 31).link.notices.length < 32 ∧ (s 32).link.notices.length = 32 ∧ (s 32).inputs.reportPeriod ≠ 0) := by
  decide +kernel

/-- A legal state: tracks 1 to 4 armed and linked in pairs, a FINAL record in the table, and a roll waiting. -/
def legalState : State :=
  { beforeSeven with
    pending := [.roll 9]
    router := { Router.initial with armed := 0xF#24, links := 0x000005#24 }
    takes := { TakeCtl.initial with nextId := 7, table := [{ closedRec 6 1 2 with state := .final }] } }

theorem witness_EveryStepKeepsTheStateLegal :
    Legal legalState ∧ TableLegal legalState ∧ NextIdsFree legalState.takes
    ∧ step legalState = .next (nx (.roll 9) (legalState.withPending []))
    ∧ (nx (.roll 9) (legalState.withPending [])).takes.table.map (fun r => r.id) = [6, 7] := by
  refine ⟨?_, ?_, by decide +kernel, rfl, by decide +kernel⟩
  · constructor
    · show 10000000 < 281474976710656
      decide
    · rfl
    · constructor <;> decide +kernel
    · constructor <;> decide +kernel
    · intro k
      constructor <;> revert k <;> decide +kernel
    · constructor <;> decide +kernel
    · constructor <;> decide +kernel
    · decide +kernel
    · constructor <;> decide +kernel
  · constructor <;> decide +kernel

/-- Take 6 is FINAL and whole on drain A, and given up with 5 sample periods delivered on drain B; take 40 is closed, with the
block in flight on drain B; a mark is due, and line 1 has a pending edge. -/
def accountedState : State :=
  { legalState with
    takes := { legalState.takes with
      nextId := 41, markDue := some { count := 9, pos := 10000000, start := true, stop := false }
      table :=
        [{ closedRec 6 100 200 with
            state := .final, roll := 10, cut := some 40, cutCause := some .mark
            sections := { a := { newSection false 0 with
                                 state := .done, formation := 100, confirmed := 100, delivered := 90, gapTotal := 10 }
                          b := { newSection false 0 with
                                 state := .abandoned, formation := 5, confirmed := 5, delivered := 5, abandoned := 95 } } },
         { closedRec 40 9999000 20000000 with
            start := 9900000, roll := 9990000, cut := some 9995000, cutCause := some .command
            sections := { a := newSection false 9900000
                          b := { activeSec 9904096 9902048 with delivered := 2048 } } }] }
    delivery := { list := [40], drains :=
      { a := DrainState.initial true
        b := { drainB 2048 false with inFlight := some { block500 with first := 9902048 } } } }
    triggers := { line1 := { TrigLine.initial with
                             level := some true, pending := some { first := 9999990, counter := 10 } }
                  line2 := TrigLine.initial } }

/-- The premises of the accounting: positions in order, sections and blocks accounted for, and a P that has a next value. -/
theorem witness_EveryStepKeepsTheStateLegal_accounted :
    TableLegal accountedState ∧ NextIdsFree accountedState.takes ∧ TakesAccounted accountedState
    ∧ accountedState.ring.p + 1 < 281474976710656 := by
  refine ⟨by constructor <;> decide +kernel, by decide +kernel, ?_, by decide⟩
  have table : accountedState.takes.table = [accountedState.takes.table[0]'(by decide),
    accountedState.takes.table[1]'(by decide)] := rfl
  constructor
  · rw [table]
    intro r hr
    simp only [List.mem_cons, List.not_mem_nil, or_false] at hr
    rcases hr with rfl | rfl <;> constructor <;>
      first | exact fun _ => ⟨rfl, _, _, _, rfl, rfl, rfl, by decide +kernel⟩ | decide +kernel
  · rw [table]
    intro r hr d
    simp only [List.mem_cons, List.not_mem_nil, or_false] at hr
    rcases hr with rfl | rfl <;> cases d <;> constructor <;>
      decide +kernel
  · intro d b hb
    cases d
    · cases hb
    · cases hb
      exact ⟨rfl, fun _ => ⟨_, rfl, by decide +kernel⟩⟩
  · decide +kernel
  · decide +kernel
  · decide +kernel
  · decide +kernel
  · intro due h
    cases h
    rfl
  · intro n
    cases n <;> constructor <;> decide +kernel

/-- The premises of the first clause, met together: the accounted state is legal, a roll waits in its queue, and take 6 in
it is FINAL. -/
theorem witness_NotesLeaveFinalRecords_everyStep :
    Legal accountedState ∧ step accountedState = .next (nx (.roll 9) (accountedState.withPending []))
    ∧ accountedState.takes.table.map (fun r => (r.id, r.state)) = [(6, .final), (40, .closed)]
    ∧ (nx (.roll 9) (accountedState.withPending [])).takes.table.map (fun r => (r.id, r.state)) =
        [(6, .final), (40, .closed), (41, .opened)] := by
  refine ⟨?_, rfl, by decide +kernel, by decide +kernel⟩
  constructor
  · show 10000000 < 281474976710656
    decide
  · rfl
  · constructor <;> decide +kernel
  · constructor <;> decide +kernel
  · intro k
    constructor <;> revert k <;> decide +kernel
  · constructor <;> decide +kernel
  · constructor <;> decide +kernel
  · decide +kernel
  · constructor <;> decide +kernel

/-- An RSET ENGINE frame with the tag 5 has come but for the high byte of its CRC. -/
def lastOfReset : State :=
  { atP 7 with link := { Link.initial with rx := .crc 1 ReqKind.rset.word 5 [0] (some 0xB9) } }

theorem witness_OnlyAudioFramesAndResetsMoveP :
    exec (.rsetEngine 1) (atP 7) = .next (nx (.rsetEngine 1) (atP 7)) ∧ (nx (.rsetEngine 1) (atP 7)).ring.p = 0
    ∧ exec (.roll 1) (atP 7) = .next (nx (.roll 1) (atP 7)) ∧ (nx (.roll 1) (atP 7)).ring.p = 7
    ∧ exec (.controlByte 0xE6 true) lastOfReset = .next (nx (.controlByte 0xE6 true) lastOfReset)
    ∧ lastOfReset.ring.p = 7 ∧ (nx (.controlByte 0xE6 true) lastOfReset).ring.p = 0 :=
  ⟨rfl, by decide +kernel, rfl, by decide +kernel, rfl, by decide +kernel, by decide +kernel⟩

end Sys2Proof.Tests
end

section
/-! SUPPORT. The frame grid: the start of a frame and the index of a position are adjoint (R5, R6), so a position lies in the
frame of its index and a frame's start has that frame's index; and the circular distance is a step to the count it is taken
to, in the half-open half day (R8). -/

namespace Sys2Proof.Machine

/-! ## The frame grid (R5, R6) -/

theorem Rate.den_pos (r : Rate) : 0 < (r.den : Int) := by cases r <;> decide

theorem Rate.num_pos (r : Rate) : 0 < (r.num : Int) := by cases r <;> decide

/-- A frame is at least one sample period long at every rate. -/
theorem Rate.den_le_num (r : Rate) : (r.den : Int) ≤ r.num := by cases r <;> decide

/-- R6: the index of an offset is the largest frame that starts at or before it. -/
theorem frameStart_le_iff (r : Rate) (n d : Int) : frameStart r n ≤ d ↔ n ≤ frameIndex r d := by
  calc frameStart r n ≤ d
      ↔ n * (r.num : Int) / r.den < d + 1 := Int.lt_add_one_iff.symm
    _ ↔ n * (r.num : Int) < (d + 1) * r.den := Int.ediv_lt_iff_lt_mul r.den_pos
    _ ↔ n * (r.num : Int) ≤ (d + 1) * r.den - 1 := Int.le_sub_one_iff.symm
    _ ↔ n ≤ frameIndex r d := (Int.le_ediv_iff_mul_le r.num_pos).symm

theorem lt_frameStart_iff (r : Rate) (n d : Int) : d < frameStart r n ↔ frameIndex r d < n := by
  rw [← not_le, frameStart_le_iff, not_le]

theorem frameStart_frameIndex_le (r : Rate) (d : Int) : frameStart r (frameIndex r d) ≤ d :=
  (frameStart_le_iff r _ d).2 le_rfl

theorem lt_frameStart_frameIndex_add_one (r : Rate) (d : Int) : d < frameStart r (frameIndex r d + 1) :=
  (lt_frameStart_iff r _ d).2 (Int.lt_add_one_iff.2 le_rfl)

theorem frameStart_lt_frameStart_add_one (r : Rate) (n : Int) : frameStart r n < frameStart r (n + 1) := by
  have floor : frameStart r n * r.den ≤ n * r.num := Int.ediv_mul_le _ r.den_pos.ne'
  have room : (frameStart r n + 1) * r.den ≤ (n + 1) * r.num := by linarith [r.den_le_num]
  exact Int.add_one_le_iff.1 ((Int.le_ediv_iff_mul_le r.den_pos).2 room)

@[simp] theorem frameIndex_frameStart (r : Rate) (n : Int) : frameIndex r (frameStart r n) = n := by
  have atLeast : n ≤ frameIndex r (frameStart r n) := (frameStart_le_iff r n _).1 le_rfl
  have below : frameIndex r (frameStart r n) < n + 1 :=
    (lt_frameStart_iff r (n + 1) _).1 (frameStart_lt_frameStart_add_one r n)
  omega

/-! ## Days and circular distances (R7, R8) -/

theorem Rate.day_pos (r : Rate) : 0 < (r.day : Int) := by cases r <;> decide

/-- R8: every day length is even. -/
theorem Rate.half_day (r : Rate) : 2 * ((r.day / 2 : Nat) : Int) = r.day := by cases r <;> decide

theorem neg_half_day_le_dist (r : Rate) (a b : Nat) : -((r.day / 2 : Nat) : Int) ≤ dist r a b := by
  have := Int.emod_nonneg ((b : Int) - a + (r.day / 2 : Nat)) r.day_pos.ne'
  unfold dist
  omega

theorem dist_lt_half_day (r : Rate) (a b : Nat) : dist r a b < ((r.day / 2 : Nat) : Int) := by
  have below := Int.emod_lt_of_pos ((b : Int) - a + (r.day / 2 : Nat)) r.day_pos
  have half := r.half_day
  unfold dist
  omega

/-- The distance from `a` leads to `b`, whole days apart. -/
theorem add_dist_emod_day (r : Rate) (a b : Nat) : ((a : Int) + dist r a b) % r.day = (b : Int) % r.day := by
  have : (a : Int) + dist r a b = b - r.day * (((b : Int) - a + (r.day / 2 : Nat)) / r.day) := by
    rw [dist, Int.emod_def]
    ring
  rw [this, Int.sub_mul_emod_self_left]

/-! ## Counts and phases of positions (R6, R9) -/

namespace Timeline

variable (t : Timeline) (p : Nat)

theorem countAt_eq : (t.countAt p : Int) =
    ((t.anchor.count : Int) + frameIndex t.rate ((p : Int) - t.anchor.pos)) % (t.rate.day : Int) :=
  Int.toNat_of_nonneg (Int.emod_nonneg _ t.rate.day_pos.ne')

theorem phaseAt_eq : (t.phaseAt p : Int) =
    ((p : Int) - t.anchor.pos) - frameStart t.rate (frameIndex t.rate ((p : Int) - t.anchor.pos)) :=
  Int.toNat_of_nonneg (sub_nonneg.2 (frameStart_frameIndex_le _ _))

variable {t p} {c : Nat}

/-- The offset of an expected start from the anchor is the start of the frame at the circular distance. -/
theorem sub_anchor_of_expected (h : t.expected c = p) :
    (p : Int) - t.anchor.pos = frameStart t.rate (dist t.rate t.anchor.count c) := by
  rw [← h, expected, add_sub_cancel_left]

theorem countAt_of_expected (hc : c < t.rate.day) (h : t.expected c = p) : t.countAt p = c := by
  have : (t.countAt p : Int) = c := by
    rw [countAt_eq, sub_anchor_of_expected h, frameIndex_frameStart, add_dist_emod_day]
    exact Int.emod_eq_of_lt (Int.natCast_nonneg c) (Int.ofNat_lt.2 hc)
  exact Int.ofNat_inj.1 this

theorem phaseAt_of_expected (h : t.expected c = p) : t.phaseAt p = 0 := by
  have : (t.phaseAt p : Int) = 0 := by
    rw [phaseAt_eq, sub_anchor_of_expected h, frameIndex_frameStart, sub_self]
  exact Int.ofNat_eq_zero.1 this

end Timeline

/-- Settles O22: a position lies in the frame of its index, and an expected start is the start of the frame at the circular
distance. -/
theorem positionsLieInTheirFrame : Obligations.PositionsLieInTheirFrame := by
  unfold Obligations.PositionsLieInTheirFrame
  constructor
  · intro t p
    have start := frameStart_frameIndex_le t.rate ((p : Int) - t.anchor.pos)
    have next := lt_frameStart_frameIndex_add_one t.rate ((p : Int) - t.anchor.pos)
    refine ⟨frameIndex t.rate ((p : Int) - t.anchor.pos), by omega, by omega, ?_, t.countAt_eq p⟩
    rw [t.phaseAt_eq p, sub_sub]
  · intro t c p _ hc h
    exact ⟨Timeline.countAt_of_expected hc h, Timeline.phaseAt_of_expected h,
      neg_half_day_le_dist _ _ _, dist_lt_half_day _ _ _⟩

end Sys2Proof.Machine
end

section
/-! SUPPORT. Labels and frame counts: the non-drop conversions are mixed-radix digits and their value (R10, R13), and a drop
count is a place in a block of ten minutes whose non-drop number is the count and the labels left out before it (R11). -/

namespace Sys2Proof.Machine

theorem label_eq_of_toNat {l m : Label} (hours : l.hours.toNat = m.hours.toNat) (minutes : l.minutes.toNat = m.minutes.toNat)
    (seconds : l.seconds.toNat = m.seconds.toNat) (frames : l.frames.toNat = m.frames.toNat) : l = m := by
  cases l
  cases m
  exact Label.mk.injEq .. |>.mpr ⟨BitVec.eq_of_toNat_eq hours, BitVec.eq_of_toNat_eq minutes,
    BitVec.eq_of_toNat_eq seconds, BitVec.eq_of_toNat_eq frames⟩

/-! ## The non-drop conversions (R10, R13) -/

section NonDrop

variable {f c : Nat}

theorem nonDropLabel_hours (hc : c < 86400 * f) : (nonDropLabel f c).hours.toNat = c / f / 3600 := by
  have hf : 0 < f := Nat.pos_of_mul_pos_left (Nat.zero_lt_of_lt hc)
  have seconds : c / f < 86400 := (Nat.div_lt_iff_lt_mul hf).2 hc
  rw [nonDropLabel, BitVec.toNat_ofNat, mul_comm, ← Nat.div_div_eq_div_mul]
  exact Nat.mod_eq_of_lt (by generalize c / f = s at *; omega)

theorem nonDropLabel_minutes : (nonDropLabel f c).minutes.toNat = c / f / 60 % 60 := by
  rw [nonDropLabel, BitVec.toNat_ofNat, mul_comm, ← Nat.div_div_eq_div_mul]
  omega

theorem nonDropLabel_seconds : (nonDropLabel f c).seconds.toNat = c / f % 60 := by
  rw [nonDropLabel, BitVec.toNat_ofNat]
  omega

theorem nonDropLabel_frames (hf : 0 < f) (h256 : f ≤ 256) : (nonDropLabel f c).frames.toNat = c % f := by
  have := Nat.mod_lt c hf
  rw [nonDropLabel, BitVec.toNat_ofNat]
  omega

/-- The value of a label's fields, grouped by frames in a second. -/
theorem plainCount_eq (f : Nat) (l : Label) :
    plainCount f l = f * (3600 * l.hours.toNat + 60 * l.minutes.toNat + l.seconds.toNat) + l.frames.toNat := by
  rw [plainCount]
  ring

theorem plainCount_nonDropLabel (hc : c < 86400 * f) (h256 : f ≤ 256) : plainCount f (nonDropLabel f c) = c := by
  have hf : 0 < f := Nat.pos_of_mul_pos_left (Nat.zero_lt_of_lt hc)
  have digits : 3600 * (c / f / 3600) + 60 * (c / f / 60 % 60) + c / f % 60 = c / f := by omega
  rw [plainCount_eq, nonDropLabel_hours hc, nonDropLabel_minutes, nonDropLabel_seconds, nonDropLabel_frames hf h256,
    digits, Nat.div_add_mod]

/-- The fields of a label lie in their ranges at `f` frames a second (R12), the drop form's exception aside. -/
structure FieldsInRange (f : Nat) (l : Label) : Prop where
  hours : l.hours.toNat ≤ 23
  minutes : l.minutes.toNat ≤ 59
  seconds : l.seconds.toNat ≤ 59
  frames : l.frames.toNat < f

theorem fieldsInRange_nonDropLabel (hc : c < 86400 * f) (h256 : f ≤ 256) : FieldsInRange f (nonDropLabel f c) := by
  have hf : 0 < f := Nat.pos_of_mul_pos_left (Nat.zero_lt_of_lt hc)
  have seconds : c / f < 86400 := (Nat.div_lt_iff_lt_mul hf).2 hc
  constructor
  · rw [nonDropLabel_hours hc]; omega
  · rw [nonDropLabel_minutes]; omega
  · rw [nonDropLabel_seconds]; omega
  · rw [nonDropLabel_frames hf h256]; exact Nat.mod_lt c hf

variable {l : Label}

theorem FieldsInRange.plainCount_lt (h : FieldsInRange f l) : plainCount f l < 86400 * f := by
  obtain ⟨hours, minutes, seconds, frames⟩ := h
  have whole : 3600 * l.hours.toNat + 60 * l.minutes.toNat + l.seconds.toNat + 1 ≤ 86400 := by omega
  calc plainCount f l
      < f * (3600 * l.hours.toNat + 60 * l.minutes.toNat + l.seconds.toNat) + f := by rw [plainCount_eq]; omega
    _ = (3600 * l.hours.toNat + 60 * l.minutes.toNat + l.seconds.toNat + 1) * f := by ring
    _ ≤ 86400 * f := Nat.mul_le_mul_right f whole

/-- A label in range is fixed by its value: its seconds and its frames are the value's quotient and remainder by `f`. -/
theorem FieldsInRange.nonDropLabel_plainCount (h : FieldsInRange f l) (h256 : f ≤ 256) :
    nonDropLabel f (plainCount f l) = l := by
  have count := h.plainCount_lt
  obtain ⟨hours, minutes, seconds, frames⟩ := h
  have hf : 0 < f := Nat.zero_lt_of_lt frames
  have quotient : plainCount f l / f = 3600 * l.hours.toNat + 60 * l.minutes.toNat + l.seconds.toNat := by
    rw [plainCount_eq, Nat.mul_add_div hf, Nat.div_eq_of_lt frames, add_zero]
  have remainder : plainCount f l % f = l.frames.toNat := by
    rw [plainCount_eq, Nat.mul_add_mod, Nat.mod_eq_of_lt frames]
  apply label_eq_of_toNat
  · rw [nonDropLabel_hours count, quotient]; omega
  · rw [nonDropLabel_minutes, quotient]; omega
  · rw [nonDropLabel_seconds, quotient]; omega
  · rw [nonDropLabel_frames hf h256, remainder]

end NonDrop

/-! ## The drop conversions (R11, R13) -/

/-- A count of drop labels by its place: ten minutes `q`, minute `m` of the ten, and `x` the number of its label within the
minute, the labels left out counted with it. -/
structure DropPlace (c q m x : Nat) : Prop where
  minute : m < 10
  label : x < 1800
  named : m ≠ 0 → 2 ≤ x
  count : c = 17982 * q + 1798 * m + x

theorem exists_dropPlace (c : Nat) : ∃ q m x, DropPlace c q m x := by
  by_cases first : c % 17982 < 2
  · exact ⟨c / 17982, 0, c % 17982, by omega, by omega, by omega, by omega⟩
  · exact ⟨c / 17982, (c % 17982 - 2) / 1798, (c % 17982 - 2) % 1798 + 2, by omega, by omega, by omega, by omega⟩

namespace DropPlace

variable {c q m x : Nat} (h : DropPlace c q m x)
include h

/-- R11 step 2: two labels are left out in each minute but the first of every ten. -/
theorem droppedBefore_eq : droppedBefore c = 18 * q + 2 * m := by
  obtain ⟨minute, label, named, count⟩ := h
  have tens : c / 17982 = q := by omega
  have rest : c % 17982 = 1798 * m + x := by omega
  rw [droppedBefore, tens, rest]
  split <;> omega

/-- R11 step 3: the number the label would have with none left out. -/
theorem add_droppedBefore : c + droppedBefore c = 1800 * (10 * q + m) + x := by
  rw [h.droppedBefore_eq, h.count]
  ring

theorem add_droppedBefore_lt (hc : c < Rate.r2997drop.day) : c + droppedBefore c < 86400 * 30 := by
  have day : c < 2589408 := hc
  have total := h.add_droppedBefore
  obtain ⟨minute, label, named, count⟩ := h
  omega

/-- The minutes of the day and the number within the minute that the label of a place shows. -/
theorem nonDropLabel_fields (hc : c < Rate.r2997drop.day) :
    60 * (nonDropLabel 30 (c + droppedBefore c)).hours.toNat + (nonDropLabel 30 (c + droppedBefore c)).minutes.toNat
        = 10 * q + m
    ∧ 30 * (nonDropLabel 30 (c + droppedBefore c)).seconds.toNat
        + (nonDropLabel 30 (c + droppedBefore c)).frames.toNat = x := by
  have total := h.add_droppedBefore
  have within := h.label
  rw [nonDropLabel_hours (h.add_droppedBefore_lt hc), nonDropLabel_minutes, nonDropLabel_seconds,
    nonDropLabel_frames (by decide) (by decide)]
  constructor <;> omega

end DropPlace

/-! ## Validity (R12) and the two conversions at a rate -/

/-- No frame count carries the first two labels of a minute that is no multiple of ten (R11, R12). -/
abbrev LeftOut (l : Label) : Prop := l.seconds.toNat = 0 ∧ l.frames.toNat ≤ 1 ∧ l.minutes.toNat % 10 ≠ 0

theorem validLabel_iff (r : Rate) (l : Label) :
    validLabel r l = true ↔ FieldsInRange r.nominal l ∧ ¬(r.isDrop = true ∧ LeftOut l) := by
  have range : FieldsInRange r.nominal l ↔
      l.hours.toNat ≤ 23 ∧ l.minutes.toNat ≤ 59 ∧ l.seconds.toNat ≤ 59 ∧ l.frames.toNat < r.nominal :=
    ⟨fun ⟨h, m, s, f⟩ => ⟨h, m, s, f⟩, fun ⟨h, m, s, f⟩ => ⟨h, m, s, f⟩⟩
  simp only [validLabel, range, LeftOut, Bool.and_eq_true, Bool.not_eq_true', Bool.and_eq_false_iff, decide_eq_true_eq,
    decide_eq_false_iff_not]
  cases r.isDrop with
  | false => simp [and_assoc]
  | true => simp only [Bool.true_eq_false, false_or, true_and]; omega

theorem Rate.nominal_le (r : Rate) : r.nominal ≤ 256 := by cases r <;> decide

/-- R7: a non-drop day holds every second's frames. -/
theorem Rate.day_of_nonDrop {r : Rate} (h : r.isDrop = false) : r.day = 86400 * r.nominal := by
  cases r with
  | r2997drop => cases h
  | r23976 | r24 | r25 | r2997 | r30 => rfl

theorem Rate.eq_drop {r : Rate} (h : r.isDrop = true) : r = .r2997drop := by
  cases r with
  | r2997drop => rfl
  | r23976 | r24 | r25 | r2997 | r30 => cases h

theorem labelOf_nonDrop {r : Rate} {c : Nat} (h : r.isDrop = false) (hc : c < r.day) :
    (labelOf r c).label = nonDropLabel r.nominal c := by
  simp [labelOf, h, hc]

theorem labelOf_drop {c : Nat} (hc : c < Rate.r2997drop.day) :
    (labelOf .r2997drop c).label = nonDropLabel 30 (c + droppedBefore c) := by
  simp [labelOf, hc, Rate.isDrop]

theorem labelCount_nonDrop {r : Rate} (l : Label) (h : r.isDrop = false) : labelCount r l = plainCount r.nominal l := by
  simp [labelCount, h]

theorem labelCount_drop (l : Label) : labelCount .r2997drop l =
    plainCount 30 l - 2 * ((60 * l.hours.toNat + l.minutes.toNat) - (60 * l.hours.toNat + l.minutes.toNat) / 10) := rfl

/-- The count of a valid drop label stands at the label's place. -/
theorem dropPlace_labelCount {l : Label} (h : FieldsInRange 30 l) (named : ¬LeftOut l) :
    DropPlace (labelCount .r2997drop l) ((60 * l.hours.toNat + l.minutes.toNat) / 10)
      ((60 * l.hours.toNat + l.minutes.toNat) % 10) (30 * l.seconds.toNat + l.frames.toNat) := by
  obtain ⟨hours, minutes, seconds, frames⟩ := h
  constructor
  · omega
  · omega
  · intro minute
    by_contra few
    exact named ⟨by omega, by omega, by omega⟩
  · rw [labelCount_drop, plainCount_eq]
    omega

/-! ## The conversions are inverse to each other (R13) -/

theorem labelCount_lt_nonDrop {r : Rate} {l : Label} (h : r.isDrop = false) (hl : FieldsInRange r.nominal l) :
    labelCount r l < r.day := by
  rw [labelCount_nonDrop l h, Rate.day_of_nonDrop h]
  exact hl.plainCount_lt

theorem labelOf_labelCount_nonDrop {r : Rate} {l : Label} (h : r.isDrop = false) (hl : FieldsInRange r.nominal l) :
    (labelOf r (labelCount r l)).label = l := by
  rw [labelOf_nonDrop h (labelCount_lt_nonDrop h hl), labelCount_nonDrop l h]
  exact hl.nonDropLabel_plainCount r.nominal_le

theorem validLabel_labelOf_nonDrop {r : Rate} {c : Nat} (h : r.isDrop = false) (hc : c < r.day) :
    validLabel r (labelOf r c).label = true := by
  rw [validLabel_iff, labelOf_nonDrop h hc]
  exact ⟨fieldsInRange_nonDropLabel (Rate.day_of_nonDrop h ▸ hc) r.nominal_le, by simp [h]⟩

theorem labelCount_labelOf_nonDrop {r : Rate} {c : Nat} (h : r.isDrop = false) (hc : c < r.day) :
    labelCount r (labelOf r c).label = c := by
  rw [labelOf_nonDrop h hc, labelCount_nonDrop _ h]
  exact plainCount_nonDropLabel (Rate.day_of_nonDrop h ▸ hc) r.nominal_le

theorem labelCount_lt_drop {l : Label} (h : FieldsInRange 30 l) (named : ¬LeftOut l) :
    labelCount .r2997drop l < Rate.r2997drop.day := by
  show labelCount .r2997drop l < 2589408
  obtain ⟨minute, label, -, count⟩ := dropPlace_labelCount h named
  obtain ⟨hours, minutes, seconds, frames⟩ := h
  omega

theorem labelOf_labelCount_drop {l : Label} (h : FieldsInRange 30 l) (named : ¬LeftOut l) :
    (labelOf .r2997drop (labelCount .r2997drop l)).label = l := by
  have number : labelCount .r2997drop l + droppedBefore (labelCount .r2997drop l) = plainCount 30 l := by
    rw [(dropPlace_labelCount h named).add_droppedBefore, plainCount_eq]
    omega
  rw [labelOf_drop (labelCount_lt_drop h named), number]
  exact h.nonDropLabel_plainCount (by decide)

theorem validLabel_labelOf_drop {c : Nat} (hc : c < Rate.r2997drop.day) :
    validLabel .r2997drop (labelOf .r2997drop c).label = true := by
  obtain ⟨q, m, x, place⟩ := exists_dropPlace c
  obtain ⟨minutes, within⟩ := place.nonDropLabel_fields hc
  rw [validLabel_iff, labelOf_drop hc]
  refine ⟨fieldsInRange_nonDropLabel (place.add_droppedBefore_lt hc) (by decide), ?_⟩
  rintro ⟨-, seconds, frames, tenth⟩
  have := place.named (by have := place.minute; omega)
  omega

theorem labelCount_labelOf_drop {c : Nat} (hc : c < Rate.r2997drop.day) :
    labelCount .r2997drop (labelOf .r2997drop c).label = c := by
  obtain ⟨q, m, x, place⟩ := exists_dropPlace c
  obtain ⟨minutes, -⟩ := place.nonDropLabel_fields hc
  have left : droppedBefore c = 2 * ((10 * q + m) - (10 * q + m) / 10) := by
    have := place.minute
    rw [place.droppedBefore_eq]
    omega
  rw [labelOf_drop hc, labelCount_drop, plainCount_nonDropLabel (place.add_droppedBefore_lt hc) (by decide), minutes,
    ← left, Nat.add_sub_cancel]

/-- Settles O23: at a non-drop rate the conversions are digits and their value; at 29.97 drop a count and its label stand at
one place of a block of ten minutes. -/
theorem labelsAndCountsConvertBack : Obligations.LabelsAndCountsConvertBack := by
  unfold Obligations.LabelsAndCountsConvertBack
  intro r
  cases form : r.isDrop with
  | false =>
    constructor
    · intro l valid
      have range := ((validLabel_iff r l).1 valid).1
      exact ⟨labelCount_lt_nonDrop form range, labelOf_labelCount_nonDrop form range⟩
    · intro c hc
      exact ⟨validLabel_labelOf_nonDrop form hc, labelCount_labelOf_nonDrop form hc⟩
  | true =>
    obtain rfl := Rate.eq_drop form
    constructor
    · intro l valid
      obtain ⟨range, named⟩ := (validLabel_iff _ l).1 valid
      have named : ¬LeftOut l := fun out => named ⟨rfl, out⟩
      exact ⟨labelCount_lt_drop range named, labelOf_labelCount_drop range named⟩
    · intro c hc
      exact ⟨validLabel_labelOf_drop hc, labelCount_labelOf_drop hc⟩

end Sys2Proof.Machine
end

section
/-! SUPPORT. What a block's power-on values meet of the invariants, block by block. -/

namespace Sys2Proof.Machine

theorem routingLegal_initial : RoutingLegal Router.initial where
  oneLink _ h := by simp [Router.initial] at h
  closed _ h := by simp [Router.initial] at h
  sources := by decide

theorem timelineLegal_initial : TimelineLegal Timeline.initial := by
  constructor <;> decide

theorem channelInRange_initial : ChannelInRange Channel.initial := by
  constructor <;> decide

theorem inputsInRange_initial : InputsInRange Inputs.initial := by
  intro k
  have channel : Inputs.initial.channels[k] = Channel.initial := by simp [Inputs.initial]
  rw [channel]
  exact channelInRange_initial

/-- A line without an edge, with its glitch filter in range, holds nothing that could be out of date. -/
theorem edgesRecent_of_none {l : TrigLine} (p : Nat) (filter : l.filter ≤ 4800) (pending : l.pending = none)
    (confirmed : l.confirmed = none) : EdgesRecent p l where
  filter := filter
  unset _ := pending
  pending := by simp [pending]
  confirmed := by simp [confirmed]

theorem edgesRecent_initial (p : Nat) : EdgesRecent p TrigLine.initial :=
  edgesRecent_of_none p (by decide) rfl rfl

theorem blockAccounted_of_none {s : State} {d : Drain} (h : (s.drain d).inFlight = none) : BlockAccounted s d := by
  intro b hb
  rw [h] at hb
  cases hb

theorem drain_reset_inFlight (d : Drain) : (State.reset.drain d).inFlight = none := by
  cases d <;> rfl

theorem legal_reset : Legal State.reset where
  position := by show 0 < 281474976710656; decide
  ring := wf_reset
  routing := routingLegal_initial
  timeline := timelineLegal_initial
  inputs := inputsInRange_initial
  capacity := by constructor <;> decide
  takes := by constructor <;> decide
  nextId := by decide
  conditions := by constructor <;> decide

theorem tableLegal_reset : TableLegal State.reset := by
  constructor <;> decide

/-- At reset the take table is empty, so every fact about its records holds of none; the rest is that no block is in flight
and no edge has been seen. -/
theorem takesAccounted_reset : TakesAccounted State.reset where
  positions := List.forall_mem_nil _
  sections := List.forall_mem_nil _
  blocks d := blockAccounted_of_none (drain_reset_inFlight d)
  listed := List.forall_mem_nil _
  left := List.forall_mem_nil _
  tail _ := List.forall_mem_nil _
  preRoll := by decide
  markDue _ h := by cases h
  edges n := by cases n <;> exact edgesRecent_initial _

/-- Settles O57: the reset state meets each part of the invariants by the blocks' power-on values. -/
theorem resetIsLegal : Obligations.ResetIsLegal := by
  unfold Obligations.ResetIsLegal
  exact ⟨legal_reset, tableLegal_reset, takesAccounted_reset⟩

end Sys2Proof.Machine
end

section
/-! SUPPORT. The settings of the inputs and of the buses: what the fields of an INPT set spell, which inputs a number names,
and what the two settings requests leave (R43, R48, R50). -/

namespace Sys2Proof.Machine

/-! ## The inputs that a number names -/

theorem inputIndex_eq_some {n : BitVec 8} {k : Fin 16} : inputIndex n = some k ↔ n.toNat = k.val + 1 := by
  unfold inputIndex
  split
  · rw [Option.some_inj, Fin.ext_iff]
    dsimp only
    omega
  · simp only [reduceCtorEq, false_iff]
    omega

theorem inputIndex_eq_none {n : BitVec 8} (h : n.toNat ≤ 16) : inputIndex n = none ↔ n = 0 := by
  rw [← BitVec.toNat_inj, inputIndex, dite_eq_right_iff]
  simp only [reduceCtorEq, imp_false, BitVec.ofNat_eq_ofNat, BitVec.toNat_ofNat]
  omega

/-- A number that names one input does not name all of them, and names no other. -/
theorem names_iff_of_some {n : BitVec 8} {j k : Fin 16} (h : inputIndex n = some j) :
    (n = 0 ∨ n.toNat = k.val + 1) ↔ j.val = k.val := by
  rw [inputIndex_eq_some] at h
  constructor
  · rintro (rfl | h')
    · cases h
    · omega
  · intro h'
    exact .inr (h' ▸ h)

/-! ## INPT set (R43, R48) -/

/-- The settings that an INPT set stores, by its codes and its clamped lengths and limits (R48). -/
theorem channelSettingsOf_eq {f : InputFields} {x : ChannelSettings} {inverted subOn : Bool}
    (polarity : f.polarity = if inverted = true then 1 else 0) (substitute : f.substitute = if subOn = true then 1 else 0)
    (settings : x = { gain := f.gain, inverted := inverted, hold := min f.hold.toNat 480
                      high := max 1 (min f.high.toNat 8388608), low := min f.low.toNat 8388607
                      dwell := min f.dwell.toNat 480000, subOn := subOn, subValue := f.value }) :
    channelSettingsOf f = some x := by
  have flag (b : Bool) : flagOf (if b = true then 1 else 0) = some b := by cases b <;> rfl
  unfold channelSettingsOf
  simp only [polarity, substitute, flag, settings, clamp_eq _ (Nat.zero_le _), clamp_eq _ (by decide : 1 ≤ 8388608),
    Nat.zero_max]

theorem detects_iff (x : ChannelSettings) : x.detects = true ↔ 0 < x.low ∧ 0 < x.dwell := by
  simp [ChannelSettings.detects]

/-- An input given settings keeps its silence counter and its silent episode only where the settings detect silence (R43). -/
theorem configure_eq (c : Channel) (x : ChannelSettings) : c.configure x =
    { c with settings := x, silence := if 0 < x.low ∧ 0 < x.dwell then c.silence else 0
             silentFlag := if 0 < x.low ∧ 0 < x.dwell then c.silentFlag else false } := by
  simp only [Channel.configure, ← detects_iff]
  cases x.detects <;> rfl

section
variable {s : State} {n : BitVec 8} {f : InputFields} {x : ChannelSettings}

theorem reqInptSet_one {k : Fin 16} (hn : n.toNat ≤ 16) (hx : channelSettingsOf f = some x) (hk : inputIndex n = some k) :
    reqInptSet n f s = okAnswer (s.modInputs fun i => i.modChannel k fun c => c.configure x) (.inptSet x) := by
  simp [reqInptSet, Nat.not_lt.2 hn, hx, hk]

theorem reqInptSet_all (hn : n.toNat ≤ 16) (hx : channelSettingsOf f = some x) (hk : inputIndex n = none) :
    reqInptSet n f s =
      okAnswer (s.modInputs fun i => { i with channels := i.channels.map fun c => c.configure x }) (.inptSet x) := by
  simp [reqInptSet, Nat.not_lt.2 hn, hx, hk]

end

/-! ## MIXG (R50) -/

theorem setGain_gains (b : MixBus) {n : BitVec 8} (hn : n.toNat ≤ 16) (g : BitVec 16) (k : Fin 16) :
    (b.setGain (inputIndex n) g).gains[k] = if n = 0 ∨ n.toNat = k.val + 1 then g else b.gains[k] := by
  cases named : inputIndex n with
  | some j =>
    simp only [names_iff_of_some named]
    exact Vector.getElem_set j.isLt k.isLt
  | none => simp [MixBus.setGain, (inputIndex_eq_none hn).1 named]

theorem reqMixg_of_bus (s : State) (b : Bus) {n : BitVec 8} (hn : n.toNat ≤ 16) (g : BitVec 16) :
    reqMixg (match b with | .l => 17 | .r => 18) n g s =
      okAnswer (s.modRouter fun r => r.modBus b fun x => x.setGain (inputIndex n) g)
        (.mixg ((s.router.bus b).setGain (inputIndex n) g).gains) := by
  cases b <;> simp [reqMixg, busOf, Nat.not_lt.2 hn]

/-- Settles O20: a number names one input or all of them, and each named input takes the settings or the gain. -/
theorem inputAndBusSettingsAreStored : Obligations.InputAndBusSettingsAreStored := by
  unfold Obligations.InputAndBusSettingsAreStored
  constructor
  · intro s tag n f inverted subOn x room hn polarity substitute settings
    have stored := channelSettingsOf_eq polarity substitute settings
    have answer := serve_room tag ReqKind.inpt.word (reqInptSet n f) room
    cases named : inputIndex n with
    | some j =>
      rw [reqInptSet_one hn stored named] at answer
      refine ⟨_, congrArg Host.Outcome.next answer, rfl, rfl, fun k => ?_⟩
      simp only [names_iff_of_some named, ← configure_eq]
      show (s.inputs.channels.set j (s.inputs.channels[j].configure x))[k.val] = _
      rw [Vector.getElem_set]
      split
      case isTrue same =>
        obtain rfl := Fin.ext same
        rfl
      case isFalse => rfl
    | none =>
      rw [reqInptSet_all hn stored named] at answer
      refine ⟨_, congrArg Host.Outcome.next answer, rfl, rfl, fun k => ?_⟩
      rw [if_pos (.inl ((inputIndex_eq_none hn).1 named)), ← configure_eq]
      exact Vector.getElem_map ..
  · intro s tag n g b room hn
    have answer := serve_room tag ReqKind.mixg.word (reqMixg (match b with | .l => 17 | .r => 18) n g) room
    rw [reqMixg_of_bus _ b hn] at answer
    refine ⟨_, ((s.router.bus b).setGain (inputIndex n) g).gains, congrArg Host.Outcome.next answer,
      setGain_gains _ hn g, ?_⟩
    cases b <;> cases inputIndex n <;> rfl

end Sys2Proof.Machine
end

section
/-! SUPPORT. The meters: the eighteen peaks that a level report and a meter read give, and the report period (R45, R46). -/

namespace Sys2Proof.Machine

/-! ## The eighteen peaks -/

section
variable (s : State)

theorem peaks_input (k : Fin 16) : s.peaks[k.val] = s.inputs.channels[k].peak := by
  simp [State.peaks]

theorem peaks_busL : s.peaks[16] = s.router.busL.peak := by simp [State.peaks]

theorem peaks_busR : s.peaks[17] = s.router.busR.peak := by simp [State.peaks]

/-- A level report with reporting on: the notice, the peaks cleared, and the report timer from 0 (R46). -/
theorem reportLevels_on (on : s.inputs.reportPeriod ≠ 0) : s.reportLevels =
    ((s.notify (.lvls s.ring.p s.peaks)).clearPeaks).modInputs fun i => { i with reportTimer := Timer.zero } :=
  if_neg on

end

theorem reportPeriodOf_eq (period : BitVec 16) :
    reportPeriodOf period.toNat = if period = 0 then 0 else max 50 (min period.toNat 1000) := by
  have zero : period.toNat = 0 ↔ period = 0 := by rw [← BitVec.toNat_inj]; rfl
  simp only [reportPeriodOf, zero, clamp_eq _ (by decide : 50 ≤ 1000)]

/-- Settles O14: the report and the read give the peaks and clear them, and the period is clamped. -/
theorem levelReportsAndMeterReadsClearPeaks : Obligations.LevelReportsAndMeterReadsClearPeaks := by
  unfold Obligations.LevelReportsAndMeterReadsClearPeaks
  constructor
  · intro s
    constructor
    · intro off
      exact congrArg Host.Outcome.next (if_pos off)
    · intro on room
      refine ⟨s.peaks, peaks_input s, peaks_busL s, peaks_busR s, congrArg Host.Outcome.next ?_⟩
      rw [reportLevels_on s on, notify_room _ room]
      rfl
  · intro s tag room
    constructor
    · exact ⟨s.peaks, peaks_input s, peaks_busL s, peaks_busR s,
        congrArg Host.Outcome.next (serve_room tag ReqKind.metr.word reqMetrRead room)⟩
    · intro period n clamped
      rw [clamped, ← reportPeriodOf_eq]
      exact congrArg Host.Outcome.next (serve_room tag ReqKind.metr.word (reqMetrPeriod period) room)

end Sys2Proof.Machine
end

section
/-! SUPPORT. What RSET ENGINE keeps and resets, block by block (R180). -/

namespace Sys2Proof.Machine

/-- The reference state that RSET ENGINE enters (R18). -/
theorem entered_eq (m : TimeMode) : m.entered = if m = .free then .freeRun else .seeking := by
  cases m <;> rfl

theorem engineReset_timeline (t : Timeline) : t.engineReset =
    { t with anchor := { pos := 0, count := 0 }, ref := if t.mode = .free then .freeRun else .seeking
             candidate := none, regain := false, loss := 0, mismatch := 0, invalid := 0 } := by
  rw [← entered_eq]
  rfl

theorem engineReset_channels (i : Inputs) (k : Fin 16) :
    i.engineReset.channels[k] = { Channel.initial with settings := i.channels[k].settings } :=
  Vector.getElem_map ..

theorem engineReset_triggers (t : Triggers) (n : Line) : t.engineReset.get n = (t.get n).engineReset := by
  cases n <;> rfl

theorem engineReset_drains (e : Delivery) (d : Drain) : e.engineReset.drains.get d = (e.drains.get d).engineReset := by
  cases d <;> rfl

/-- A receiver waits for the line to go high exactly where the line is low and no bits are arriving (R147). -/
theorem engineReset_waitHigh (x : NoteRx) :
    x.engineReset.waitHigh = true ↔ x.receiving = false ∧ x.lineHigh = false := by
  simp [NoteRx.engineReset, and_comm]

/-- RSET ENGINE with room for its reply (R169, R180). -/
theorem exec_rsetEngine {s : State} (tag : BitVec 8) (room : HasRoom s) : exec (.rsetEngine tag) s =
    .next ((okAnswer (s.modLink Link.goodFrame).engineReset (.rset false 0)).place tag ReqKind.rset.word) :=
  congrArg Host.Outcome.next (serve_room tag ReqKind.rset.word reqRsetEngine room)

/-- Settles O5: each block's part of the engine reset, read off the block's own reset. -/
theorem rsetEngineResetsTheRuntimeState : Obligations.RsetEngineResetsTheRuntimeState := by
  unfold Obligations.RsetEngineResetsTheRuntimeState
  intro s tag room
  have waits := engineReset_waitHigh s.notes
  refine ⟨_, exec_rsetEngine tag room, ?link, ?ring, ?takes, ?sources, ?links, ?armed, ?busL, ?busR,
    engineReset_channels _, ?sync, ?period, ?syncTimer, ?reportTimer, engineReset_timeline _, engineReset_triggers _,
    ?list, engineReset_drains _, ?accept, ?line, ?counts, ?station, ?buffer, ?long, ?receiving, ?idle, ?high, ?completed,
    ?taken, ?waiting, ?binding, ?pending, ?free⟩
  case taken =>
    intro arrivingOrHigh
    refine Bool.eq_false_iff.2 fun waiting => ?_
    obtain ⟨arriving, low⟩ := waits.1 waiting
    simp [arriving, low] at arrivingOrHigh
  case waiting => exact fun arriving low => waits.2 ⟨arriving, low⟩
  all_goals rfl

end Sys2Proof.Machine
end

section
/-! SUPPORT. Sets of tracks, links and the armed mask: the bits of the set operations in track order, track 24 being followed
by track 1, and what the requests of the track router leave (R52 to R54). -/

namespace Sys2Proof.Machine

/-! ## Sets of tracks -/

theorem rotateLeft_one_getLsbD (x : TrackSet) (k : Fin 24) : (x.rotateLeft 1).getLsbD k.val = x.getLsbD (k - 1).val := by
  rw [BitVec.getLsbD_rotateLeft, Fin.coe_sub_one]
  by_cases first : k = 0
  · simp [first]
  · have := Fin.val_ne_zero_iff.2 first
    simp [first, this]

theorem rotateRight_one_getLsbD (x : TrackSet) (k : Fin 24) : (x.rotateRight 1).getLsbD k.val = x.getLsbD (k + 1).val := by
  rw [BitVec.getLsbD_rotateRight, Fin.val_add_one]
  split
  case isTrue last => simp [last]
  case isFalse inner =>
    have := Fin.val_lt_last inner
    simp [this, Nat.add_comm]

/-- A track is in a closed mask when the mask holds it or the partner of a link it belongs to (R54). -/
theorem closeMask_getLsbD (links mask : TrackSet) (k : Fin 24) : (closeMask links mask).getLsbD k.val =
    (mask.getLsbD k.val || (mask.getLsbD (k - 1).val && links.getLsbD (k - 1).val)
      || (links.getLsbD k.val && mask.getLsbD (k + 1).val)) := by
  simp only [closeMask, BitVec.getLsbD_or, BitVec.getLsbD_and, rotateLeft_one_getLsbD, rotateRight_one_getLsbD]

/-- Closing a mask leaves a track whose links the mask already holds whole or not at all. -/
theorem closeMask_getLsbD_of_closed {links mask : TrackSet} {k : Fin 24}
    (own : links.getLsbD k.val = true → mask.getLsbD k.val = mask.getLsbD (k + 1).val)
    (previous : links.getLsbD (k - 1).val = true → mask.getLsbD (k - 1).val = mask.getLsbD k.val) :
    (closeMask links mask).getLsbD k.val = mask.getLsbD k.val := by
  rw [closeMask_getLsbD, Bool.eq_iff_iff]
  simp only [Bool.or_eq_true, Bool.and_eq_true]
  constructor
  · rintro ((held | ⟨held, linked⟩) | ⟨linked, held⟩)
    · exact held
    · rwa [← previous linked]
    · rwa [own linked]
  · exact fun held => .inl (.inl held)

theorem trackBit_getLsbD (t j : Fin 24) : (trackBit t).getLsbD j.val = decide (j = t) := by
  simp only [trackBit, BitVec.getLsbD_shiftLeft, BitVec.getLsbD_one, Fin.ext_iff, ← decide_not, ← Bool.decide_and]
  exact decide_eq_decide.2 (by omega)

theorem trackIndex_ofNat (k : Fin 24) : trackIndex (BitVec.ofNat 8 (k.val + 1)) = some k := by
  have value : (BitVec.ofNat 8 (k.val + 1)).toNat = k.val + 1 := by
    rw [BitVec.toNat_ofNat]
    omega
  simp [trackIndex, value]

/-! ## Making and breaking a link (R52) -/

namespace Router

variable (r : Router) (t : Fin 24)

theorem makeLink_links (j : Fin 24) :
    (r.makeLink t).links.getLsbD j.val = (decide (j = t) || r.links.getLsbD j.val) := by
  simp only [makeLink, BitVec.getLsbD_or, trackBit_getLsbD, Bool.or_comm]

/-- A link with no member armed leaves the armed mask. -/
theorem makeLink_armed_of_unarmed {r : Router} {t : Fin 24} (first : r.armed.getLsbD t.val = false)
    (second : r.armed.getLsbD (t + 1).val = false) : (r.makeLink t).armed = r.armed :=
  if_neg (Bool.eq_false_iff.1 (Bool.or_eq_false_iff.2 ⟨first, second⟩))

/-- A link with a member armed closes the armed mask over the links. -/
theorem makeLink_armed_of_armed {r : Router} {t : Fin 24}
    (member : r.armed.getLsbD t.val = true ∨ r.armed.getLsbD (t + 1).val = true) :
    (r.makeLink t).armed = closeMask (r.makeLink t).links r.armed :=
  if_pos (Bool.or_eq_true_iff.2 member)

theorem makeLink_arms_members {r : Router} {t : Fin 24}
    (member : r.armed.getLsbD t.val = true ∨ r.armed.getLsbD (t + 1).val = true) :
    (r.makeLink t).armed.getLsbD t.val = true ∧ (r.makeLink t).armed.getLsbD (t + 1).val = true := by
  have held : (r.makeLink t).links.getLsbD t.val = true := by simp [makeLink_links]
  rw [makeLink_armed_of_armed member]
  simp only [closeMask_getLsbD, add_sub_cancel_right, held]
  rcases member with armed | armed <;> simp [armed]

/-- A closed armed mask stays as it was outside the members of the new link. -/
theorem makeLink_armed_other {r : Router} {t j : Fin 24}
    (closed : ∀ j : Fin 24, r.links.getLsbD j.val = true → r.armed.getLsbD j.val = r.armed.getLsbD (j + 1).val)
    (first : j ≠ t) (second : j ≠ t + 1) : (r.makeLink t).armed.getLsbD j.val = r.armed.getLsbD j.val := by
  by_cases member : r.armed.getLsbD t.val = true ∨ r.armed.getLsbD (t + 1).val = true
  · have before : j - 1 ≠ t := fun h => second (sub_eq_iff_eq_add.1 h)
    rw [makeLink_armed_of_armed member]
    refine closeMask_getLsbD_of_closed (fun linked => ?_) (fun linked => ?_)
    · rw [makeLink_links, decide_eq_false first, Bool.false_or] at linked
      exact closed j linked
    · rw [makeLink_links, decide_eq_false before, Bool.false_or] at linked
      simpa only [sub_add_cancel] using closed (j - 1) linked
  · simp only [not_or, Bool.not_eq_true] at member
    rw [makeLink_armed_of_unarmed member.1 member.2]

theorem breakLink_links (j : Fin 24) : (r.breakLink t).links.getLsbD j.val =
    (r.links.getLsbD j.val && decide (j ≠ if r.links.getLsbD t.val = true then t else t - 1)) := by
  have removed (u : Fin 24) : (r.links &&& ~~~trackBit u).getLsbD j.val = (r.links.getLsbD j.val && decide (j ≠ u)) := by
    simp only [BitVec.getLsbD_and, BitVec.getLsbD_not, trackBit_getLsbD, j.isLt, decide_true, Bool.true_and, ← decide_not]
  unfold breakLink
  split
  · exact removed t
  · exact removed (t - 1)

theorem breakLink_eq : r.breakLink t = { r with links := (r.breakLink t).links } := by
  unfold breakLink
  split <;> rfl

end Router

/-! ## The requests -/

theorem trackBusy_open {s : State} {r : TakeRecord} (k : Fin 24) (h : s.openRecord? = some r) :
    s.trackBusy k = r.mask.getLsbD k.val := by
  rw [State.trackBusy, h]

theorem trackBusy_eq_false {s : State} {k : Fin 24}
    (h : ∀ r, s.openRecord? = some r → r.mask.getLsbD k.val = false) : s.trackBusy k = false := by
  cases found : s.openRecord? with
  | none => rw [State.trackBusy, found]
  | some r => rw [trackBusy_open k found, h r found]

section
variable {s : State} {n : BitVec 8} {k : Fin 24} (named : trackIndex n = some k)
include named

theorem reqTrakSource_busy {src : BitVec 8} (range : src.toNat ≤ 18) (busy : s.trackBusy k = true) :
    reqTrakSource n src s = refuse s .busy := by
  simp [reqTrakSource, named, Nat.not_lt.2 range, busy]

theorem reqTrakSource_free {src : BitVec 8} (range : src.toNat ≤ 18) (free : s.trackBusy k = false) :
    reqTrakSource n src s =
      okAnswer (s.modRouter fun r => { r with sources := r.sources.set k src.toNat })
        (.trak (s.router.sources.set k src.toNat) s.router.links s.router.armed) := by
  simp [reqTrakSource, named, Nat.not_lt.2 range, free, Router.trakResult]

theorem reqTrakLink_busy (busy : s.trackBusy k = true) : reqTrakLink n s = refuse s .busy := by
  simp [reqTrakLink, named, busy]

theorem reqTrakLink_held (free : s.trackBusy k = false) (held : s.router.links.getLsbD k.val = true) :
    reqTrakLink n s = okAnswer s s.router.trakResult := by
  simp [reqTrakLink, named, free, held]

theorem reqTrakLink_linked (free : s.trackBusy k = false) (made : s.router.links.getLsbD k.val = false)
    (other : s.router.links.getLsbD (k - 1).val = true ∨ s.router.links.getLsbD (k + 1).val = true) :
    reqTrakLink n s = refuse s .linked := by
  have refused : (isLinked s.router.links k || isLinked s.router.links (nextTrack k)) = true := by
    simpa only [isLinked, prevTrack, nextTrack, add_sub_cancel_right, made, Bool.false_or, Bool.or_false,
      Bool.or_eq_true] using other
  simp only [reqTrakLink, named, free, made, refused, Bool.false_eq_true, if_false, if_true]

theorem reqTrakLink_makes (free : s.trackBusy k = false) (made : s.router.links.getLsbD k.val = false)
    (before : s.router.links.getLsbD (k - 1).val = false) (after : s.router.links.getLsbD (k + 1).val = false) :
    reqTrakLink n s = okAnswer (s.modRouter fun r => r.makeLink k) (s.router.makeLink k).trakResult := by
  have unlinked : (isLinked s.router.links k || isLinked s.router.links (nextTrack k)) = false := by
    simp only [isLinked, prevTrack, nextTrack, add_sub_cancel_right, made, before, after, Bool.false_or]
  simp only [reqTrakLink, named, free, made, unlinked, Bool.false_eq_true, if_false]

theorem reqTrakUnlink_busy (busy : s.trackBusy k = true) : reqTrakUnlink n s = refuse s .busy := by
  simp [reqTrakUnlink, named, busy]

theorem reqTrakUnlink_free (free : s.trackBusy k = false) :
    reqTrakUnlink n s = okAnswer (s.modRouter fun r => { r with links := (r.breakLink k).links })
      (.trak s.router.sources (s.router.breakLink k).links s.router.armed) := by
  simp only [reqTrakUnlink, named, free, Bool.false_eq_true, if_false, Router.trakResult, ← Router.breakLink_eq]
  rw [s.router.breakLink_eq k]

end

/-- A request to the track router, answered (R168 to R170). -/
theorem serve_trak {s : State} (tag : BitVec 8) (room : HasRoom s) {handle : State → Answer} {a : Answer}
    (answer : handle (s.modLink Link.goodFrame) = a) :
    s.serve tag ReqKind.trak.word handle = a.place tag ReqKind.trak.word := by
  rw [serve_room _ _ _ room, answer]

/-- Settles O21: the cases of the three TRAK requests in the order of their tests, and the bits of a closed mask. -/
theorem tracksAreRoutedLinkedAndArmed : Obligations.TracksAreRoutedLinkedAndArmed := by
  unfold Obligations.TracksAreRoutedLinkedAndArmed
  refine ⟨?source, ?busy, ?links, ?arm⟩
  case source =>
    intro s tag src k room range
    have named := trackIndex_ofNat k
    constructor
    · intro r found inMask
      have busy := (trackBusy_open k found).trans inMask
      exact congrArg Host.Outcome.next (serve_trak tag room (reqTrakSource_busy named range busy))
    · intro outside
      have free := trackBusy_eq_false outside
      exact congrArg Host.Outcome.next (serve_trak tag room (reqTrakSource_free named range free))
  case busy =>
    intro s tag k r room found inMask
    have named := trackIndex_ofNat k
    have busy := (trackBusy_open k found).trans inMask
    exact ⟨congrArg Host.Outcome.next (serve_trak tag room (reqTrakLink_busy named busy)),
      congrArg Host.Outcome.next (serve_trak tag room (reqTrakUnlink_busy named busy))⟩
  case links =>
    intro s tag k room outside
    have named := trackIndex_ofNat k
    have free := trackBusy_eq_false outside
    refine ⟨fun held => ?_, fun made other => ?_, fun made before after => ?_, ?_⟩
    · exact congrArg Host.Outcome.next (serve_trak tag room (reqTrakLink_held named free held))
    · exact congrArg Host.Outcome.next (serve_trak tag room (reqTrakLink_linked named free made other))
    · exact ⟨_, congrArg Host.Outcome.next (serve_trak tag room (reqTrakLink_makes named free made before after)), rfl,
        s.router.makeLink_links k, Router.makeLink_arms_members, Router.makeLink_armed_of_unarmed,
        fun closed _ => Router.makeLink_armed_other closed⟩
    · exact ⟨_, congrArg Host.Outcome.next (serve_trak tag room (reqTrakUnlink_free named free)), rfl,
        s.router.breakLink_links k⟩
  case arm =>
    intro s tag m room
    refine ⟨closeMask s.router.links m, congrArg Host.Outcome.next (serve_room tag ReqKind.armt.word (reqArmt m) room), ?_⟩
    intro k
    rw [closeMask_getLsbD]
    simp only [Bool.or_eq_true, Bool.and_eq_true]
    tauto

end Sys2Proof.Machine
end

section
/-! SUPPORT. The sample arithmetic and one input's slot: what conditioning, holding, the clip and silence tests and the
meter leave, field by field, and the samples of the buses and the tracks (R38 to R44, R49, R51). -/

namespace Sys2Proof.Machine

/-! ## Saturated samples (R38, R49) -/

theorem saturate24_eq (x : Int) : saturate24 x = max (-8388608) (min 8388607 x) := by
  unfold saturate24
  split
  · omega
  · split <;> omega

/-- A saturated integer is the value of its sample. -/
theorem toInt_saturated (x : Int) : (BitVec.ofInt 24 (saturate24 x)).toInt = max (-8388608) (min 8388607 x) := by
  rw [saturate24_eq]
  exact BitVec.toInt_ofInt_eq_self (by decide) (by omega) (by omega)

theorem saturate24_ne_iff (x : Int) : saturate24 x ≠ x ↔ x < -8388608 ∨ 8388607 < x := by
  rw [saturate24_eq]
  omega

/-! ## The class of a slot (R35) -/

section
variable {w : BitVec 32}

theorem slotClass_good (valid : w.getLsbD 7 = true) (clean : w.getLsbD 6 = false) : slotClass w = .good := by
  rw [slotClass, valid, clean]
  rfl

theorem slotClass_flagged (valid : w.getLsbD 7 = true) (flag : w.getLsbD 6 = true) : slotClass w = .flagged := by
  rw [slotClass, valid, flag]
  rfl

theorem slotClass_invalid (invalid : w.getLsbD 7 = false) : slotClass w = .invalid := by
  rw [slotClass, invalid]
  rfl

end

namespace Channel

variable (c : Channel) (w : BitVec 32)

/-! ## The output of an input (R38 to R40) -/

theorem output_substitute {c : Channel} (on : c.settings.subOn = true) : c.output w = c.settings.subValue := if_pos on

theorem output_conditioned {c : Channel} (off : c.settings.subOn = false) : c.output w = c.conditioned w :=
  if_neg (Bool.eq_false_iff.1 off)

theorem conditioned_valid {w : BitVec 32} (valid : w.getLsbD 7 = true) :
    c.conditioned w = conditionSample c.settings (slotSample w) := by
  unfold conditioned
  cases flag : w.getLsbD 6 with
  | false => rw [slotClass_good valid flag]
  | true => rw [slotClass_flagged valid flag]

theorem conditioned_invalid {w : BitVec 32} (invalid : w.getLsbD 7 = false) :
    c.conditioned w = if c.holdCount < c.settings.hold then c.lastGood else 0 := by
  rw [conditioned, slotClass_invalid invalid]

/-! ## The steps of a slot -/

/-- The last good sample, the hold counter and the dropout episode are all that the hold step changes. -/
theorem holdStep_eq : c.holdStep w = { c with
    lastGood := (c.holdStep w).lastGood, holdCount := (c.holdStep w).holdCount, dropout := (c.holdStep w).dropout } := by
  unfold holdStep
  split <;> rfl

variable (x : Sample)

/-- The clip test (R42): an episode starts at the limit, and ends when its quiet counter reaches 4,800. -/
theorem clipStep_eq : c.clipStep x = { c with
    clip := decide (c.settings.high ≤ magnitude x) || (c.clip && decide (c.quiet + 1 < 4800))
    quiet := if c.settings.high ≤ magnitude x ∨ (c.clip = true ∧ 4800 ≤ c.quiet + 1) then 0
      else if c.clip = true then c.quiet + 1 else c.quiet } := by
  obtain ⟨settings, lastGood, holdCount, dropout, clip, quiet, silence, silentFlag, peak⟩ := c
  unfold clipStep
  by_cases loud : settings.high ≤ magnitude x
  · simp [loud]
  · cases clip with
    | false => simp [loud]
    | true =>
      by_cases done : 4800 ≤ quiet + 1
      · simp [loud, endClip, done]
      · simp [loud, endClip, done, Nat.lt_of_not_le done]

/-- A silent episode starts where silence detection is on and the counter has reached the dwell (R43). -/
theorem startSilent_eq : c.startSilent = { c with
    silentFlag := c.silentFlag || (c.settings.detects && decide (c.settings.dwell ≤ c.silence)) } := by
  obtain ⟨settings, lastGood, holdCount, dropout, clip, quiet, silence, silentFlag, peak⟩ := c
  unfold startSilent silentDue
  cases silentFlag with
  | true => simp
  | false => cases settings.detects <;> cases decide (settings.dwell ≤ silence) <;> rfl

/-- The silence test (R43). -/
theorem silenceStep_eq : c.silenceStep x = { c with
    silence := if c.settings.detects = true ∧ magnitude x < c.settings.low then min (c.silence + 1) 480000 else 0
    silentFlag := if c.settings.detects = true ∧ magnitude x < c.settings.low then
        c.silentFlag || decide (c.settings.dwell ≤ min (c.silence + 1) 480000)
      else false } := by
  unfold silenceStep
  by_cases detects : c.settings.detects = true
  · by_cases quiet : magnitude x < c.settings.low
    · simp only [detects, quiet, startSilent_eq, and_self, if_true, Bool.true_and]
    · simp [detects, quiet]
  · simp [detects]

/-- A slot's steps change fields apart: each field is what its own step leaves of the channel as it was. -/
theorem takeSlot_eq : c.takeSlot w = { c with
    lastGood := (c.holdStep w).lastGood, holdCount := (c.holdStep w).holdCount, dropout := (c.holdStep w).dropout
    clip := (c.clipStep (c.output w)).clip, quiet := (c.clipStep (c.output w)).quiet
    silence := (c.silenceStep (c.output w)).silence, silentFlag := (c.silenceStep (c.output w)).silentFlag
    peak := max c.peak (magnitude (c.output w)) } := by
  have held := c.holdStep_eq w
  unfold takeSlot
  generalize c.holdStep w = h at held ⊢
  rw [held]
  simp only [meterStep, silenceStep_eq, clipStep_eq]

/-! ## The fields after a slot -/

theorem takeSlot_settings : (c.takeSlot w).settings = c.settings := by rw [takeSlot_eq]

theorem takeSlot_peak : (c.takeSlot w).peak = max c.peak (c.output w).toInt.natAbs := by
  rw [takeSlot_eq]
  rfl

theorem takeSlot_clip : (c.takeSlot w).clip =
    (decide (c.settings.high ≤ magnitude (c.output w)) || (c.clip && decide (c.quiet + 1 < 4800))) := by
  rw [takeSlot_eq, clipStep_eq]

theorem takeSlot_quiet : (c.takeSlot w).quiet =
    if c.settings.high ≤ magnitude (c.output w) ∨ (c.clip = true ∧ 4800 ≤ c.quiet + 1) then 0
    else if c.clip = true then c.quiet + 1 else c.quiet := by
  rw [takeSlot_eq, clipStep_eq]

theorem takeSlot_silence : (c.takeSlot w).silence =
    if c.settings.detects = true ∧ magnitude (c.output w) < c.settings.low then min (c.silence + 1) 480000 else 0 := by
  rw [takeSlot_eq, silenceStep_eq]

theorem takeSlot_silentFlag : (c.takeSlot w).silentFlag =
    if c.settings.detects = true ∧ magnitude (c.output w) < c.settings.low then
      c.silentFlag || decide (c.settings.dwell ≤ (c.takeSlot w).silence)
    else false := by
  rw [takeSlot_silence, takeSlot_eq, silenceStep_eq]
  split <;> rfl

section
variable {w : BitVec 32}

/-- A good slot gives the last good sample, and ends a hold and a dropout (R38, R39, R41). -/
theorem takeSlot_good (valid : w.getLsbD 7 = true) (clean : w.getLsbD 6 = false) :
    (c.takeSlot w).lastGood = conditionSample c.settings (slotSample w) ∧ (c.takeSlot w).holdCount = 0
    ∧ (c.takeSlot w).dropout = false := by
  rw [takeSlot_eq, holdStep, slotClass_good valid clean]
  exact ⟨rfl, rfl, rfl⟩

theorem takeSlot_flagged (valid : w.getLsbD 7 = true) (flag : w.getLsbD 6 = true) :
    (c.takeSlot w).lastGood = c.lastGood ∧ (c.takeSlot w).holdCount = c.holdCount
    ∧ (c.takeSlot w).dropout = true := by
  rw [takeSlot_eq, holdStep, slotClass_flagged valid flag]
  exact ⟨rfl, rfl, rfl⟩

theorem takeSlot_invalid (invalid : w.getLsbD 7 = false) :
    (c.takeSlot w).lastGood = c.lastGood
    ∧ (c.takeSlot w).holdCount = (if c.holdCount < c.settings.hold then c.holdCount + 1 else c.holdCount)
    ∧ (c.takeSlot w).dropout = true := by
  rw [takeSlot_eq, holdStep, slotClass_invalid invalid]
  exact ⟨rfl, rfl, rfl⟩

end

end Channel

/-- The value of a conditioned sample: polarity, gain and saturation (R38). -/
theorem conditionSample_toInt (c : ChannelSettings) (x : Sample) : (conditionSample c x).toInt =
    max (-8388608) (min 8388607 (((if c.inverted = true then (if x.toInt = -8388608 then 8388607 else -x.toInt)
      else x.toInt) * (c.gain.toNat : Int) + 8192) / 16384)) :=
  toInt_saturated _

/-! ## The buses (R44, R49) -/

theorem busSample_toInt (sum : Int) : (busSample sum).toInt = max (-8388608) (min 8388607 sum) := toInt_saturated sum

/-- A bus after a frame: its peak, and its clip episode, which starts at a sum outside the range. -/
theorem takeSum_eq (b : MixBus) (sum : Int) : b.takeSum sum = { b with
    peak := max b.peak (max (-8388608) (min 8388607 sum)).natAbs
    clip := decide (sum < -8388608 ∨ 8388607 < sum) || (b.clip && decide (b.quiet + 1 < 4800))
    quiet := if sum < -8388608 ∨ 8388607 < sum ∨ (b.clip = true ∧ 4800 ≤ b.quiet + 1) then 0
      else if b.clip = true then b.quiet + 1 else b.quiet } := by
  obtain ⟨gains, clip, quiet, peak⟩ := b
  simp only [MixBus.takeSum, saturate24_ne_iff, magnitude, busSample_toInt, ← or_assoc]
  by_cases outside : sum < -8388608 ∨ 8388607 < sum
  · simp [outside]
  · cases clip with
    | false => simp [outside, MixBus.endClip]
    | true =>
      by_cases done : 4800 ≤ quiet + 1
      · simp [outside, MixBus.endClip, done]
      · simp [outside, MixBus.endClip, done, Nat.lt_of_not_le done]

section
variable (s : State) (slots : Vector (BitVec 32) 16)

theorem outputs_getElem (k : Fin 16) : (s.inputs.outputs slots)[k] = s.inputs.channels[k].output slots[k] :=
  Vector.getElem_ofFn ..

theorem sumL_eq : s.sumL slots = ((List.finRange 16).map fun k =>
    ((s.inputs.channels[k].output slots[k]).toInt * (s.router.busL.gains[k].toNat : Int) + 8192) / 16384).sum := by
  simp only [State.sumL, busSum, scale, outputs_getElem]

theorem sumR_eq : s.sumR slots = ((List.finRange 16).map fun k =>
    ((s.inputs.channels[k].output slots[k]).toInt * (s.router.busR.gains[k].toNat : Int) + 8192) / 16384).sum := by
  simp only [State.sumR, busSum, scale, outputs_getElem]

theorem routerAfter_busL : (s.routerAfter slots).busL = s.router.busL.takeSum (s.sumL slots) := by
  rw [State.routerAfter]

theorem routerAfter_busR : (s.routerAfter slots).busR = s.router.busR.takeSum (s.sumR slots) := by
  rw [State.routerAfter]

/-! ## The tracks (R51) -/

theorem trackSamples_getElem (t : Fin 24) : (s.trackSamples slots)[t] =
    trackSample (s.inputs.outputs slots) (busSample (s.sumL slots)) (busSample (s.sumR slots)) s.router.sources[t] :=
  Vector.getElem_ofFn ..

theorem trackSample_input (outputs : Vector Sample 16) (left right : Sample) (k : Fin 16) :
    trackSample outputs left right (k.val + 1) = outputs[k] := by
  have range : 1 ≤ k.val + 1 ∧ k.val + 1 ≤ 16 := by omega
  simp [trackSample, range]

end

/-- Settles O7: the output by the slot's class, and a track's sample by its source. -/
theorem samplesAreConditionedAndRouted : Obligations.SamplesAreConditionedAndRouted := by
  unfold Obligations.SamplesAreConditionedAndRouted
  refine ⟨fun c w => ⟨Channel.output_substitute w, fun invalid off => ?invalid⟩, fun c w valid => ?valid,
    fun s slots t => ?tracks⟩
  case invalid =>
    rw [Channel.output_conditioned w off, c.conditioned_invalid invalid]
    exact ⟨fun held => if_pos held, fun expired => if_neg (Nat.not_lt.2 expired)⟩
  case valid =>
    refine ⟨fun off => ?_, Channel.output_substitute w, fun clean => ?_⟩
    · rw [Channel.output_conditioned w off, c.conditioned_valid valid]
      exact conditionSample_toInt c.settings (slotSample w)
    · rw [(c.takeSlot_good valid clean).1]
      exact conditionSample_toInt c.settings (slotSample w)
  case tracks =>
    rw [trackSamples_getElem]
    refine ⟨fun silent => ?_, fun k input => ?_, fun left => ?_, fun right => ?_⟩
    · rw [silent]
      rfl
    · rw [input, trackSample_input, outputs_getElem]
    · rw [left, ← sumL_eq]
      exact busSample_toInt _
    · rw [right, ← sumR_eq]
      exact busSample_toInt _

/-! ## The frame as a command (R58) -/

section
variable (s : State) (slots : Vector (BitVec 32) 16) (l1 l2 : Bool)

/-- The machine after an audio frame: what the last advance made due is settled first (log entry 2). -/
abbrev State.afterFrame : State := s.settleAdvance.takeAudio slots l1 l2

theorem exec_audioFrame : exec (.audioFrame slots l1 l2) s = .next (s.afterFrame slots l1 l2) := rfl

theorem afterFrame_channels (k : Fin 16) :
    (s.afterFrame slots l1 l2).inputs.channels[k] = s.inputs.channels[k].takeSlot slots[k] := by
  obtain ⟨-, inputs, -⟩ := takeAudio_frame s.settleAdvance slots l1 l2
  obtain ⟨-, settled, -⟩ := settleAdvance_frame s
  rw [inputs, settled]
  exact Vector.getElem_ofFn ..

theorem afterFrame_router : (s.afterFrame slots l1 l2).router = s.routerAfter slots := by
  obtain ⟨-, -, router, -⟩ := takeAudio_frame s.settleAdvance slots l1 l2
  obtain ⟨-, inputs, settled, -⟩ := settleAdvance_frame s
  rw [router]
  simp only [State.routerAfter, State.sumL, State.sumR, inputs, settled]

end

section
variable (c : Channel) (w : BitVec 32) {m : Nat} (level : m = (c.output w).toInt.natAbs)
include level

/-- The clip episode of an input after a frame, by the magnitude of its output (R42). -/
theorem Channel.takeSlot_clipEpisode :
    (c.settings.high ≤ m → (c.takeSlot w).clip = true ∧ (c.takeSlot w).quiet = 0)
    ∧ (m < c.settings.high → c.clip = false → (c.takeSlot w).clip = false ∧ (c.takeSlot w).quiet = c.quiet)
    ∧ (m < c.settings.high → c.clip = true → c.quiet + 1 < 4800 →
        (c.takeSlot w).clip = true ∧ (c.takeSlot w).quiet = c.quiet + 1)
    ∧ (m < c.settings.high → c.clip = true → c.quiet + 1 = 4800 →
        (c.takeSlot w).clip = false ∧ (c.takeSlot w).quiet = 0) := by
  have same : magnitude (c.output w) = m := level.symm
  rw [takeSlot_clip, takeSlot_quiet, same]
  refine ⟨fun loud => ?_, fun soft idle => ?_, fun soft clipped going => ?_, fun soft clipped done => ?_⟩
  · simp [loud]
  · simp [Nat.not_le.2 soft, idle]
  · simp [Nat.not_le.2 soft, clipped, going, Nat.not_le.2 going]
  · simp [Nat.not_le.2 soft, clipped, done]

/-- The silent episode of an input after a frame, by the magnitude of its output (R43). -/
theorem Channel.takeSlot_silentEpisode :
    (c.settings.low = 0 ∨ c.settings.dwell = 0 ∨ c.settings.low ≤ m →
      (c.takeSlot w).silence = 0 ∧ (c.takeSlot w).silentFlag = false)
    ∧ (0 < c.settings.dwell → m < c.settings.low →
        (c.takeSlot w).silence = min (c.silence + 1) 480000
        ∧ (c.takeSlot w).silentFlag = (c.silentFlag || decide (c.settings.dwell ≤ (c.takeSlot w).silence))) := by
  have same : magnitude (c.output w) = m := level.symm
  rw [takeSlot_silentFlag, takeSlot_silence, same]
  simp only [detects_iff]
  constructor
  · intro off
    have heard : ¬((0 < c.settings.low ∧ 0 < c.settings.dwell) ∧ m < c.settings.low) := by omega
    simp only [if_neg heard, and_self]
  · intro dwell quiet
    have counted : (0 < c.settings.low ∧ 0 < c.settings.dwell) ∧ m < c.settings.low := by omega
    simp only [if_pos counted, and_self]

end

/-- Settles O9: a frame takes each slot into its channel and each sum into its bus. -/
theorem audioFrameUpdatesEveryInput : Obligations.AudioFrameUpdatesEveryInput := by
  unfold Obligations.AudioFrameUpdatesEveryInput
  intro s slots l1 l2
  refine ⟨s.afterFrame slots l1 l2, exec_audioFrame s slots l1 l2, ?left, ?right, fun k => ?channel⟩
  case left =>
    intro sum total
    rw [afterFrame_router, routerAfter_busL, sumL_eq, ← total, takeSum_eq]
  case right =>
    intro sum total
    rw [afterFrame_router, routerAfter_busR, sumR_eq, ← total, takeSum_eq]
  case channel =>
    rw [afterFrame_channels]
    generalize s.inputs.channels[k] = c
    generalize slots[k] = w
    refine ⟨c.takeSlot_settings w, c.takeSlot_peak w, fun valid clean => ?good, c.takeSlot_flagged, c.takeSlot_invalid,
      fun m level => ?episodes⟩
    case good =>
      obtain ⟨good, hold, dropout⟩ := c.takeSlot_good valid clean
      refine ⟨hold, dropout, ?_⟩
      rintro x y rfl rfl
      rw [good]
      exact conditionSample_toInt ..
    case episodes =>
      obtain ⟨starts, idle, goes, ends⟩ := c.takeSlot_clipEpisode w level
      exact ⟨starts, idle, goes, ends, c.takeSlot_silentEpisode w level⟩

end Sys2Proof.Machine
end

section
/-! SUPPORT. The events of the audio path and the open take: which sources feed it, what a run of events leaves in its record,
and what the rows that stand alone do (R36, R42, R43, R49, R55, R73, R88). -/

namespace Sys2Proof.Machine

/-! ## Feeding (R55) -/

theorem tracksOf_mem {mask : TrackSet} {j : Fin 24} : j ∈ tracksOf mask ↔ mask.getLsbD j.val = true := by
  simp [tracksOf]

theorem hears_iff (b : MixBus) (source : Nat) :
    b.hears source = true ↔ ∃ k : Fin 16, source = k.val + 1 ∧ b.gains[k] ≠ 0 := by
  unfold MixBus.hears
  split
  case isTrue range =>
    rw [bne_iff_ne]
    constructor
    · exact fun gain => ⟨⟨source - 1, by omega⟩, by dsimp only; omega, gain⟩
    · rintro ⟨k, rfl, gain⟩
      exact gain
  case isFalse outside =>
    simp only [Bool.false_eq_true, false_iff]
    rintro ⟨k, rfl, -⟩
    omega

theorem feeds_iff (rt : Router) (mask : TrackSet) (source : Nat) :
    rt.feeds mask source = true ↔ FeedsTake rt mask source := by
  simp only [Router.feeds, List.any_eq_true, tracksOf_mem, Bool.or_eq_true, Bool.and_eq_true, beq_iff_eq, hears_iff,
    FeedsTake, or_assoc]
  refine exists_congr fun j => and_congr_right fun _ => or_congr_right ?_
  constructor
  · rintro (⟨left, k, number, gain⟩ | ⟨right, k, number, gain⟩)
    · exact ⟨k, number, .inl ⟨left, gain⟩⟩
    · exact ⟨k, number, .inr ⟨right, gain⟩⟩
  · rintro ⟨k, number, ⟨left, gain⟩ | ⟨right, gain⟩⟩
    · exact .inl ⟨left, k, number, gain⟩
    · exact .inr ⟨right, k, number, gain⟩

/-- The kinds of event that an audio frame raises: they feed a take by their source (R55). -/
abbrev EventKind.bySource (k : EventKind) : Prop := k = .dropout ∨ k = .clip ∨ k = .silent

theorem eventFeeds_iff {s : State} {mask : TrackSet} {e : Event} (kind : e.kind.bySource) :
    s.eventFeeds mask e = true ↔ FeedsTake s.router mask e.source := by
  rw [← feeds_iff]
  unfold State.eventFeeds
  rcases kind with h | h | h <;> rw [h]

/-! ## Intake (R73, R88) -/

/-- An event that does not feed the open take goes nowhere. -/
theorem intake_unfed {s : State} {e : Event} {r : TakeRecord} (h : s.openRecord? = some r)
    (unfed : s.eventFeeds r.mask e = false) : s.intake e = s := by
  simp [State.intake, h, unfed]

/-- The open record after a change of it that keeps ids and states. -/
theorem openRecord?_updRecord {s : State} {f : TakeRecord → TakeRecord} {r : TakeRecord}
    (hstate : ∀ r, (f r).state = r.state) (h : s.openRecord? = some r) :
    (s.updRecord r.id f).openRecord? = some (f r) := by
  have found (l : List TakeRecord) (hl : l.find? (fun q => q.state == .opened) = some r) :
      (l.map fun q => if q.id = r.id then f q else q).find? (fun q => q.state == .opened) = some (f r) := by
    induction l with
    | nil => cases hl
    | cons q rest ih =>
      have state : (if q.id = r.id then f q else q).state = q.state := by
        split
        · exact hstate q
        · rfl
      rw [List.map_cons, List.find?_cons, state]
      rw [List.find?_cons] at hl
      split at hl
      · cases hl
        simp
      · exact ih hl
  exact found _ h

theorem updRecord_updRecord (s : State) (id : Nat) (f g : TakeRecord → TakeRecord) (hid : ∀ r, (f r).id = r.id) :
    (s.updRecord id f).updRecord id g = s.updRecord id fun r => g (f r) := by
  have twice (r : TakeRecord) : (if (if r.id = id then f r else r).id = id then g (if r.id = id then f r else r)
      else if r.id = id then f r else r) = if r.id = id then g (f r) else r := by
    by_cases h : r.id = id
    · simp [h, hid]
    · simp [h]
  simp only [State.updRecord, State.modTakes, List.map_map, Function.comp_def, twice]

theorem updRecord_self (s : State) (id : Nat) : (s.updRecord id fun r => r) = s := by
  simp [State.updRecord, State.modTakes]

/-- A record after a run of events, each entered or counted lost in turn. -/
def TakeRecord.enterAll (l : List Event) (r : TakeRecord) : TakeRecord := l.foldl (fun q e => q.enter e) r

theorem enter_kept (e : Event) (r : TakeRecord) :
    (r.enter e).id = r.id ∧ (r.enter e).state = r.state ∧ (r.enter e).mask = r.mask := by
  unfold TakeRecord.enter
  split <;> exact ⟨rfl, rfl, rfl⟩

theorem enterAll_id (l : List Event) (r : TakeRecord) : (r.enterAll l).id = r.id := by
  induction l generalizing r with
  | nil => rfl
  | cons e l ih => exact (ih (r.enter e)).trans (enter_kept e r).1

/-- A run of events fills the list up to its 32 places and counts the rest lost, up to 255. -/
theorem enterAll_spec (l : List Event) {r : TakeRecord} (room : r.events.length ≤ 32) (lost : r.eventsLost ≤ 255) :
    (r.enterAll l).events = (r.events ++ l).take 32
    ∧ (r.enterAll l).eventsLost = min 255 (r.eventsLost + (r.events.length + l.length - 32)) := by
  induction l generalizing r with
  | nil =>
    simp only [TakeRecord.enterAll, List.foldl_nil, List.append_nil, List.length_nil, List.take_of_length_le room, true_and]
    omega
  | cons e l ih =>
    show ((r.enter e).enterAll l).events = _ ∧ ((r.enter e).enterAll l).eventsLost = _
    by_cases free : r.events.length < 32
    · have entered : r.enter e = { r with events := r.events ++ [e] } := if_pos free
      have ih := @ih (r.enter e) (by rw [entered]; simpa using free) (by rw [entered]; exact lost)
      rw [ih.1, ih.2, entered]
      simp only [List.append_assoc, List.cons_append, List.nil_append, List.length_append, List.length_cons,
        List.length_nil, true_and]
      omega
    · have full : r.events.length = 32 := by omega
      have counted : r.enter e = { r with eventsLost := bump 255 r.eventsLost } := if_neg free
      have top : bump 255 r.eventsLost = min 255 (r.eventsLost + 1) := by
        unfold bump
        split <;> omega
      have ih := @ih (r.enter e) (by rw [counted]; exact room) (by rw [counted, top]; exact Nat.min_le_left _ _)
      rw [ih.1, ih.2, counted]
      simp only [List.take_append_of_le_length full.ge, top, full, List.length_cons, true_and]
      omega

theorem runAll_intake_none {s : State} (l : List Event) (h : s.openRecord? = none) :
    runAll (fun e s => s.intake e) l s = s := by
  induction l with
  | nil => rfl
  | cons e l ih =>
    show runAll _ l (s.intake e) = s
    rw [intake_none e h]
    exact ih

/-- A run of events handed over: those that feed the open take are entered in its record in order. -/
theorem runAll_intake_open {s : State} {r : TakeRecord} (l : List Event) (h : s.openRecord? = some r) :
    runAll (fun e s => s.intake e) l s = s.updRecord r.id (TakeRecord.enterAll (l.filter (s.eventFeeds r.mask))) := by
  induction l generalizing s r with
  | nil => exact (updRecord_self s r.id).symm
  | cons e l ih =>
    show runAll _ l (s.intake e) = _
    cases fed : s.eventFeeds r.mask e with
    | false => rw [intake_unfed h fed, ih h, List.filter_cons_of_neg (by simp [fed])]
    | true =>
      obtain ⟨id, -, mask⟩ := enter_kept e r
      have opened := openRecord?_updRecord (f := TakeRecord.enter e) (fun q => (enter_kept e q).2.1) h
      rw [intake_open h fed, ih opened, List.filter_cons_of_pos fed, id, mask,
        updRecord_updRecord _ _ _ _ fun q => (enter_kept e q).1]
      rfl

/-! ## What keeps the events of every record -/

/-- Every record of `s` stands in `t` with the events that it had. -/
structure EventsKept (s t : State) : Prop where
  records : ∀ id r, s.record? id = some r →
    ∃ q, t.record? id = some q ∧ q.events = r.events ∧ q.eventsLost = r.eventsLost

theorem eventsKept_of_record? {s t : State} (h : ∀ id, t.record? id = s.record? id) : EventsKept s t :=
  ⟨fun id r found => ⟨r, (h id).trans found, rfl, rfl⟩⟩

theorem EventsKept.refl (s : State) : EventsKept s s := eventsKept_of_record? fun _ => rfl

theorem EventsKept.trans {s t u : State} (h : EventsKept s t) (k : EventsKept t u) : EventsKept s u := by
  refine ⟨fun id r found => ?_⟩
  obtain ⟨q, hq, events, lost⟩ := h.records id r found
  obtain ⟨p, hp, events', lost'⟩ := k.records id q hq
  exact ⟨p, hp, events'.trans events, lost'.trans lost⟩

theorem eventsKept_ite {s a b : State} {p : Prop} [Decidable p] (ha : EventsKept s a) (hb : EventsKept s b) :
    EventsKept s (if p then a else b) := by
  split
  · exact ha
  · exact hb

theorem Sweeps.eventsKept {s t : State} (h : Sweeps s t) : EventsKept s t := by
  refine ⟨fun id r found => ?_⟩
  obtain ⟨q, hq, follows, -⟩ := h.records id r found
  rw [follows.same] at hq
  exact ⟨_, hq, rfl, rfl⟩

theorem eventsKept_updSection (s : State) (id : Nat) (d : Drain) (f : Section → Section) :
    EventsKept s (s.updSection id d f) := by
  refine ⟨fun j r found => ?_⟩
  rw [record?_updSection, found]
  refine ⟨_, rfl, ?_⟩
  dsimp only
  split <;> exact ⟨rfl, rfl⟩

theorem eventsKept_runAll {α : Type} (f : α → State → State) (hf : ∀ x s, EventsKept s (f x s)) (xs : List α)
    (s : State) : EventsKept s (runAll f xs s) := by
  induction xs generalizing s with
  | nil => exact EventsKept.refl s
  | cons x xs ih => exact (hf x s).trans (ih (f x s))

theorem eventsKept_gapEpisodeTest (s : State) (d : Drain) (takeId pos offset : Nat) (reason : DrneReason) :
    EventsKept s (s.gapEpisodeTest d takeId pos offset reason) := by
  unfold State.gapEpisodeTest
  split
  · exact EventsKept.refl s
  · exact eventsKept_of_record? fun _ => rfl

theorem eventsKept_push (s : State) (id : Nat) (d : Drain) : EventsKept s (s.push id d) := by
  unfold State.push
  split
  · exact EventsKept.refl s
  · exact eventsKept_ite (((eventsKept_updSection ..).trans (eventsKept_gapEpisodeTest ..)).trans
      (sweeps_settleDone ..).eventsKept) (EventsKept.refl s)

theorem eventsKept_overrun (s : State) : EventsKept s s.overrun :=
  eventsKept_runAll _ (fun id s => (eventsKept_push s id .a).trans (eventsKept_push _ id .b)) _ _

/-! ## The events of a frame (R41 to R43, R49, R55) -/

section
variable (s : State) (slots : Vector (BitVec 32) 16)

theorem frameEvents_congr {s t : State} (channels : t.inputs.channels = s.inputs.channels) (router : t.router = s.router)
    (p : t.ring.p = s.ring.p) : t.frameEvents slots = s.frameEvents slots := by
  simp only [State.frameEvents, State.routerAfter, State.sumL, State.sumR, Inputs.outputs, channels, router, p]

theorem riseEvent_kind {was now : Bool} {k : EventKind} {source pos : Nat} {e : Event}
    (h : e ∈ riseEvent was now k source pos) : e.kind = k := by
  unfold riseEvent at h
  split at h
  · rw [List.mem_singleton.1 h]
  · cases h

theorem frameEvents_kind {e : Event} (h : e ∈ s.frameEvents slots) : e.kind.bySource := by
  simp only [State.frameEvents, Channel.newEvents, List.mem_append, List.mem_flatMap] at h
  rcases h with (⟨_, _, (h | h) | h⟩ | h) | h
  · exact .inl (riseEvent_kind h)
  · exact .inr (.inl (riseEvent_kind h))
  · exact .inr (.inr (riseEvent_kind h))
  · exact .inr (.inl (riseEvent_kind h))
  · exact .inr (.inl (riseEvent_kind h))

/-- A frame changes the buses' meters and episodes: which sources feed a take stays (R55). -/
theorem feedsTake_routerAfter (mask : TrackSet) (source : Nat) :
    FeedsTake (s.routerAfter slots) mask source ↔ FeedsTake s.router mask source := by
  simp only [FeedsTake, State.routerAfter, takeSum_eq]

end

section
variable (s : State) (slots : Vector (BitVec 32) 16) (l1 l2 : Bool)

/-- The rest of a frame, after its events have been handed over, keeps the events of every record. -/
theorem eventsKept_takeAudio : EventsKept (s.takeSync.conditionFrame slots) (s.takeAudio slots l1 l2) := by
  have written (w : State) (x : Vector Sample 24) : EventsKept w (w.writeRing x) := eventsKept_of_record? fun _ => rfl
  have positioned (w : State) : EventsKept w (w.takePosition l1 l2 s.ring.p) := eventsKept_of_record? fun _ => rfl
  exact ((written _ _).trans (eventsKept_overrun _)).trans (positioned _)

/-- The machine in which the events of a frame are handed over. -/
abbrev State.conditioned : State :=
  (s.takeSync.modInputs fun i => i.takeSlots slots).modRouter fun _ => s.takeSync.routerAfter slots

theorem conditioned_takes : (s.conditioned slots).takes = s.takes := by
  obtain ⟨-, -, -, takes, -⟩ := takeSync_spec s
  rw [State.conditioned, State.modRouter_takes, State.modInputs_takes, takes]

theorem conditioned_router : (s.conditioned slots).router = s.routerAfter slots := by
  obtain ⟨inputs, router, -⟩ := takeSync_spec s
  simp only [State.modRouter_router, State.routerAfter, State.sumL, State.sumR, Inputs.outputs, inputs, router]

theorem takeSync_frameEvents : s.takeSync.frameEvents slots = s.frameEvents slots := by
  obtain ⟨inputs, router, ring, -⟩ := takeSync_spec s
  exact frameEvents_congr slots (by rw [inputs]) router (by rw [ring])

theorem settleAdvance_frameEvents : s.settleAdvance.frameEvents slots = s.frameEvents slots := by
  obtain ⟨-, inputs, router, ring, -⟩ := settleAdvance_frame s
  exact frameEvents_congr slots (by rw [inputs]) router (by rw [ring])

theorem conditionFrame_none (h : s.openRecord? = none) : s.takeSync.conditionFrame slots = s.conditioned slots := by
  have closed : (s.conditioned slots).openRecord? = none := by
    rw [State.openRecord?, conditioned_takes]
    exact h
  exact runAll_intake_none _ closed

/-- The open take's record takes the events of a frame whose source feeds the take, in order (R55, R88). -/
theorem conditionFrame_open {r : TakeRecord} (h : s.openRecord? = some r) : s.takeSync.conditionFrame slots =
    (s.conditioned slots).updRecord r.id (TakeRecord.enterAll
      ((s.frameEvents slots).filter fun e => decide (FeedsTake s.router r.mask e.source))) := by
  have opened : (s.conditioned slots).openRecord? = some r := by
    rw [State.openRecord?, conditioned_takes]
    exact h
  have fed : (s.frameEvents slots).filter ((s.conditioned slots).eventFeeds r.mask) =
      (s.frameEvents slots).filter fun e => decide (FeedsTake s.router r.mask e.source) := by
    refine List.filter_congr fun e raised => ?_
    rw [Bool.eq_iff_iff, eventFeeds_iff (frameEvents_kind s slots raised), conditioned_router, feedsTake_routerAfter,
      decide_eq_true_iff]
  rw [← fed, ← takeSync_frameEvents]
  exact runAll_intake_open _ opened

/-- The events that a frame raises, told by the flags before it and after it. -/
theorem frameEvents_eq {began : EventKind → Nat → Bool → Bool → List Event}
    (hb : ∀ kind source was now, began kind source was now = if was = false ∧ now = true then
      [{ kind := kind, source := source, position := s.ring.p, error := 0 }] else []) :
    s.frameEvents slots = ((List.finRange 16).flatMap fun k =>
        began .dropout (k.val + 1) s.inputs.channels[k].dropout (s.afterFrame slots l1 l2).inputs.channels[k].dropout
        ++ began .clip (k.val + 1) s.inputs.channels[k].clip (s.afterFrame slots l1 l2).inputs.channels[k].clip
        ++ began .silent (k.val + 1) s.inputs.channels[k].silentFlag
          (s.afterFrame slots l1 l2).inputs.channels[k].silentFlag)
      ++ began .clip 17 s.router.busL.clip (s.afterFrame slots l1 l2).router.busL.clip
      ++ began .clip 18 s.router.busR.clip (s.afterFrame slots l1 l2).router.busR.clip := by
  have rises (kind : EventKind) (source : Nat) (was now : Bool) :
      began kind source was now = riseEvent was now kind source s.ring.p := by
    rw [hb]
    cases was <;> cases now <;> rfl
  simp only [rises, afterFrame_channels, afterFrame_router]
  rfl

end

/-- Settles O10: the events are handed over in the state where the advance is settled; of the rest of the frame, the overrun
alone touches records, and it keeps their events. -/
theorem audioFrameEventsReachTheOpenTake : Obligations.AudioFrameEventsReachTheOpenTake := by
  unfold Obligations.AudioFrameEventsReachTheOpenTake
  rintro s u slots l1 l2 rfl
  have kept := eventsKept_takeAudio s.settleAdvance slots l1 l2
  have before (id : Nat) : (s.settleAdvance.conditioned slots).record? id = s.settleAdvance.record? id := by
    rw [State.record?, conditioned_takes]
    rfl
  refine ⟨s.afterFrame slots l1 l2, exec_audioFrame s slots l1 l2, ?opened, ?others⟩
  case opened =>
    rintro r began raised fed opened found room lost hb rfl rfl
    obtain ⟨-, -, router, -⟩ := settleAdvance_frame s
    have entered := record?_updRecord_same (f := TakeRecord.enterAll ((s.frameEvents slots).filter fun e =>
      decide (FeedsTake s.router r.mask e.source))) (enterAll_id _) ((before r.id).trans found)
    have handed := conditionFrame_open s.settleAdvance slots opened
    rw [settleAdvance_frameEvents, router] at handed
    rw [← handed] at entered
    obtain ⟨q, hq, events, eventsLost⟩ := kept.records r.id _ entered
    obtain ⟨list, count⟩ := enterAll_spec ((s.frameEvents slots).filter fun e =>
      decide (FeedsTake s.router r.mask e.source)) room lost
    rw [← frameEvents_eq s slots l1 l2 hb]
    exact ⟨q, hq, events.trans list, eventsLost.trans count⟩
  case others =>
    intro id r found other
    cases opened : s.settleAdvance.openRecord? with
    | none =>
      rw [conditionFrame_none _ _ opened] at kept
      exact kept.records id r ((before id).trans found)
    | some o =>
      rw [conditionFrame_open _ _ opened] at kept
      refine kept.records id r ?_
      rw [record?_updRecord_other (enterAll_id _) (other o opened).symm, before]
      exact found

end Sys2Proof.Machine
end

section
/-! SUPPORT. The audio rows that stand alone: the ends of clip episodes, SILENT and the loss of the sync (R36, R42, R43, R49). -/

namespace Sys2Proof.Machine

/-! ## The ends of clip episodes (R42, R49) -/

/-- A clip episode that is off, or whose quiet counter is short of 4,800, has no end due. -/
theorem not_quiet {clip : Bool} {quiet : Nat} (h : clip = false ∨ quiet < 4800) :
    ¬(clip = true ∧ Config.quietLimit ≤ quiet) := by
  rintro ⟨on, reached⟩
  rcases h with off | short
  · cases off.symm.trans on
  · exact Nat.not_le.2 short reached

theorem Channel.endClip_ended {c : Channel} (clip : c.clip = true) (quiet : c.quiet = 4800) :
    c.endClip = { c with clip := false, quiet := 0 } := if_pos ⟨clip, quiet.ge⟩

theorem Channel.endClip_going {c : Channel} (h : c.clip = false ∨ c.quiet < 4800) : c.endClip = c :=
  if_neg (not_quiet h)

theorem MixBus.endClip_ended {b : MixBus} (clip : b.clip = true) (quiet : b.quiet = 4800) :
    b.endClip = { b with clip := false, quiet := 0 } := if_pos ⟨clip, quiet.ge⟩

theorem MixBus.endClip_going {b : MixBus} (h : b.clip = false ∨ b.quiet < 4800) : b.endClip = b :=
  if_neg (not_quiet h)

/-- A change of one channel, by the channel that it gives. -/
theorem modChannel_eq (i : Inputs) (k : Fin 16) {f : Channel → Channel} {c : Channel} (h : f i.channels[k] = c) :
    i.modChannel k f = { i with channels := i.channels.set k c } := by
  rw [Inputs.modChannel, h]

theorem takeClipEnd_ended {s : State} {k : Fin 16} (clip : s.inputs.channels[k].clip = true)
    (quiet : s.inputs.channels[k].quiet = 4800) : s.takeClipEnd k = { s with inputs := { s.inputs with
      channels := s.inputs.channels.set k { s.inputs.channels[k] with clip := false, quiet := 0 } } } := by
  rw [← modChannel_eq s.inputs k (Channel.endClip_ended clip quiet)]
  rfl

theorem takeClipEnd_going {s : State} {k : Fin 16}
    (h : s.inputs.channels[k].clip = false ∨ s.inputs.channels[k].quiet < 4800) : s.takeClipEnd k = s := by
  have same := modChannel_eq s.inputs k (Channel.endClip_going h)
  rw [show s.inputs.channels.set k s.inputs.channels[k] = s.inputs.channels from Vector.set_getElem_self k.isLt] at same
  rw [State.takeClipEnd, State.modInputs, same]

theorem takeBusClipEnd_busL {s : State} {b : MixBus} (h : s.router.busL.endClip = b) :
    s.takeBusClipEnd .l = { s with router := { s.router with busL := b } } := by
  rw [← h]
  rfl

theorem takeBusClipEnd_busR {s : State} {b : MixBus} (h : s.router.busR.endClip = b) :
    s.takeBusClipEnd .r = { s with router := { s.router with busR := b } } := by
  rw [← h]
  rfl

/-! ## SILENT (R43, log entry 10) -/

theorem Channel.silentDue_iff (c : Channel) : c.silentDue = true ↔
    0 < c.settings.low ∧ 0 < c.settings.dwell ∧ c.settings.dwell ≤ c.silence ∧ c.silentFlag = false := by
  simp only [silentDue, Bool.and_eq_true, detects_iff, Bool.not_eq_true', decide_eq_true_eq]
  tauto

/-- The event of an input's silent episode at P. -/
def State.silentEvent (s : State) (k : Fin 16) : Event :=
  { kind := .silent, source := k.val + 1, position := s.ring.p, error := 0 }

/-- The machine with an input's silent episode flag set. -/
def State.withSilent (s : State) (k : Fin 16) : State :=
  { s with inputs := { s.inputs with channels := s.inputs.channels.set k { s.inputs.channels[k] with silentFlag := true } } }

theorem takeSilent_due {s : State} {k : Fin 16} (due : s.inputs.channels[k].silentDue = true) :
    s.takeSilent k = (s.withSilent k).intake (s.silentEvent k) := by
  have started : s.inputs.channels[k].startSilent = { s.inputs.channels[k] with silentFlag := true } := if_pos due
  rw [State.withSilent, ← modChannel_eq s.inputs k started]
  exact if_pos due

theorem takeSilent_idle {s : State} {k : Fin 16} (idle : ¬s.inputs.channels[k].silentDue = true) : s.takeSilent k = s :=
  if_neg idle

/-! ## The sync loss (R36) -/

/-- The machine with the sync lost, and AUDIO LOST set, before the event is handed over. -/
def State.syncLost (s : State) : State :=
  { s with inputs := { s.inputs with sync := .lost, syncTimer := { count := 4, frac := 0 } }
           link := { s.link with conds := { s.link.conds with audioLost := true } } }

theorem loseSync_synced {s : State} (h : s.inputs.sync = .synced) : s.loseSync =
    s.syncLost.intake { kind := .audioBreak, source := 0, position := s.ring.p, error := 0 } := if_pos h

/-- Settles O13: each row by whether its episode or its sync is there to end, start or lose, and its event by the open take. -/
theorem audioRowsTakeEffect : Obligations.AudioRowsTakeEffect := by
  unfold Obligations.AudioRowsTakeEffect
  refine ⟨fun s => ?rows, fun s closed => ?closed, fun s r synced opened found => ?loss, fun s k c hc => ?silent⟩
  case rows =>
    refine ⟨rfl, fun h => ?_, fun k clip quiet => ?_, fun k h => ?_, fun h => ?_, fun h => ?_, fun clip quiet => ?_,
      fun clip quiet => ?_⟩ <;> refine congrArg Host.Outcome.next ?_
    · exact if_neg h
    · exact takeClipEnd_ended clip quiet
    · exact takeClipEnd_going h
    · exact takeBusClipEnd_busL (MixBus.endClip_going h)
    · exact takeBusClipEnd_busR (MixBus.endClip_going h)
    · exact takeBusClipEnd_busL (MixBus.endClip_ended clip quiet)
    · exact takeBusClipEnd_busR (MixBus.endClip_ended clip quiet)
  case closed =>
    have noneOpen := openRecord?_none closed
    constructor
    · intro k low dwell reached flag
      have due := (Channel.silentDue_iff _).2 ⟨low, dwell, reached, flag⟩
      exact congrArg Host.Outcome.next ((takeSilent_due due).trans (intake_none _ noneOpen))
    · intro synced
      exact congrArg Host.Outcome.next ((loseSync_synced synced).trans (intake_none _ noneOpen))
  case loss =>
    have entered := (loseSync_synced synced).trans (intake_open (s := s.syncLost) opened rfl)
    refine ⟨_, congrArg Host.Outcome.next entered, ?_, fun id other => ?_, rfl⟩
    · exact record?_updRecord_same (s := s.syncLost) (fun q => (enter_kept _ q).1) found
    · exact record?_updRecord_other (s := s.syncLost) (fun q => (enter_kept _ q).1) other
  case silent =>
    subst hc
    constructor
    · intro idle
      refine congrArg Host.Outcome.next (takeSilent_idle ?_)
      rw [Channel.silentDue_iff]
      rintro ⟨low, dwell, reached, flag⟩
      rcases idle with h | h | h | h
      · omega
      · omega
      · omega
      · rw [flag] at h
        cases h
    · intro r low dwell reached flag opened found
      have due := takeSilent_due ((Channel.silentDue_iff _).2 ⟨low, dwell, reached, flag⟩)
      have feeds := eventFeeds_iff (s := s.withSilent k) (mask := r.mask) (e := s.silentEvent k) (.inr (.inr rfl))
      by_cases fed : FeedsTake s.router r.mask (k.val + 1)
      · have entered := due.trans (intake_open (s := s.withSilent k) opened (feeds.2 fed))
        refine ⟨_, congrArg Host.Outcome.next entered, rfl, fun _ => ⟨?_, fun id other => ?_⟩, fun h => absurd fed h, rfl⟩
        · exact record?_updRecord_same (s := s.withSilent k) (fun q => (enter_kept _ q).1) found
        · exact record?_updRecord_other (s := s.withSilent k) (fun q => (enter_kept _ q).1) other
      · have unfed := Bool.eq_false_iff.2 (mt feeds.1 fed)
        have ignored := due.trans (intake_unfed (s := s.withSilent k) opened unfed)
        exact ⟨_, congrArg Host.Outcome.next ignored, rfl, fun h => absurd h fed, fun _ => rfl, rfl⟩

end Sys2Proof.Machine
end

section
/-! SUPPORT. P and the ring's slots under the commands (R58, R64): a request leaves the ring by the blocks its owner changes,
an event by the unit it belongs to, and the frame whose last byte comes runs the request that its kind and payload give. -/

namespace Sys2Proof.Machine

/-! ## The requests -/

/-- A request whose owner leaves the ring. -/
def LeavesRing (handle : State → Answer) : Prop := ∀ u, (handle u).state.ring = u.ring

theorem leavesRing_refuse (k : Status) : LeavesRing fun s => refuse s k := fun _ => rfl

theorem leavesRing_read (report : State → Result) : LeavesRing fun s => okAnswer s (report s) := fun _ => rfl

theorem leavesRing_ite {p : State → Prop} [∀ s, Decidable (p s)] {f g : State → Answer} (hf : LeavesRing f)
    (hg : LeavesRing g) : LeavesRing fun s => if p s then f s else g s := by
  intro u
  dsimp only
  split
  · exact hf u
  · exact hg u

theorem serve_ring {handle : State → Answer} (h : LeavesRing handle) (s : State) (tag : BitVec 8) (kind : Text) :
    (s.serve tag kind handle).ring = s.ring := by
  unfold State.serve
  split
  · exact h _
  · rfl

/-! ### The interface, the inputs, the mix and the tracks -/

theorem leavesRing_linkSet (limit : BitVec 8) : LeavesRing (reqLinkSet limit) := by
  intro u
  unfold reqLinkSet
  split <;> rfl

theorem leavesRing_rsetConfig : LeavesRing reqRsetConfig :=
  leavesRing_ite (leavesRing_refuse _) fun u => (confined_configDrains u).ring

theorem leavesRing_inptSet (input : BitVec 8) (fields : InputFields) : LeavesRing (reqInptSet input fields) := by
  refine leavesRing_ite (leavesRing_refuse _) fun u => ?_
  split <;> rfl

theorem leavesRing_inptRead (input : BitVec 8) : LeavesRing (reqInptRead input) := by
  intro u
  unfold reqInptRead
  split <;> rfl

theorem leavesRing_mixg (bus input : BitVec 8) (gain : BitVec 16) : LeavesRing (reqMixg bus input gain) := by
  intro u
  unfold reqMixg
  split
  · rfl
  · split <;> rfl

theorem leavesRing_trakSource (track source : BitVec 8) : LeavesRing (reqTrakSource track source) := by
  intro u
  unfold reqTrakSource
  split
  · rfl
  · split
    · rfl
    · split <;> rfl

theorem leavesRing_trakLink (track : BitVec 8) : LeavesRing (reqTrakLink track) := by
  intro u
  unfold reqTrakLink
  split
  · rfl
  · split
    · rfl
    · split
      · rfl
      · split <;> rfl

theorem leavesRing_trakUnlink (track : BitVec 8) : LeavesRing (reqTrakUnlink track) := by
  intro u
  unfold reqTrakUnlink
  split
  · rfl
  · split <;> rfl

theorem leavesRing_trakRead (track : BitVec 8) : LeavesRing (reqTrakRead track) := by
  intro u
  unfold reqTrakRead
  split <;> rfl

/-! ### The timeline -/

@[simp] theorem report_ring (s : State) (k : TrefKind) (pos : Nat) (e : Int) : (s.report k pos e).ring = s.ring :=
  (confined_report s k pos e).ring
@[simp] theorem regained_ring (s : State) (pos : Nat) : (s.regained pos).ring = s.ring := (confined_regained s pos).ring
@[simp] theorem markHandoff_ring (s : State) (c1 c2 : Nat) : (s.markHandoff c1 c2).ring = s.ring :=
  (confined_markHandoff s c1 c2).ring
@[simp] theorem disarm_ring (s : State) (m : MarkName) : (s.disarm m).ring = s.ring := (confined_disarm s m).ring

theorem applyTlmd_ring (s : State) (rate : Rate) (mode : TimeMode) : (s.applyTlmd rate mode).ring = s.ring := by
  unfold State.applyTlmd
  split
  · simp [State.changeRate]
  · split
    · simp [State.changeMode, apply_ite State.ring]
    · rfl

theorem leavesRing_tlmd (rate mode : BitVec 8) (tolerance : BitVec 16) : LeavesRing (reqTlmd rate mode tolerance) := by
  intro u
  unfold reqTlmd
  split
  · split
    · rfl
    · exact applyTlmd_ring ..
  · rfl

theorem leavesRing_tcst (label : Label) : LeavesRing (reqTcst label) := by
  refine leavesRing_ite (leavesRing_refuse _) (leavesRing_ite (leavesRing_refuse _) fun u => ?_)
  simp [okAnswer, State.setTimecode, State.setAnchor, apply_ite State.ring]

theorem leavesRing_jams : LeavesRing reqJams := by
  refine leavesRing_ite (leavesRing_refuse _) fun u => ?_
  simp [okAnswer, State.startJam, apply_ite State.ring]

/-! ### Takes, marks, triggers, drains and notes -/

theorem leavesRing_take (id : BitVec 16) (sectionNo : BitVec 8) : LeavesRing (reqTake id sectionNo) := by
  refine leavesRing_ite (leavesRing_refuse _) fun u => ?_
  split <;> rfl

theorem leavesRing_roll : LeavesRing reqRoll := by
  intro u
  refine Eq.trans ?_ (confined_rollReq u .command u.ring.p).ring
  unfold reqRoll rollAnswer
  split <;> rfl

theorem leavesRing_cut : LeavesRing reqCut := by
  intro u
  refine Eq.trans ?_ (confined_cutReq u .command u.ring.p none).ring
  unfold reqCut cutAnswer
  split <;> rfl

theorem leavesRing_markSet (mark : BitVec 8) (label : Label) : LeavesRing (reqMarkSet mark label) := by
  intro u
  unfold reqMarkSet
  split
  · rfl
  · split <;> rfl

theorem leavesRing_markClear (mark : BitVec 8) : LeavesRing (reqMarkClear mark) := by
  intro u
  unfold reqMarkClear
  split
  · rfl
  · exact disarm_ring ..

theorem leavesRing_markRead (mark : BitVec 8) : LeavesRing (reqMarkRead mark) := by
  intro u
  unfold reqMarkRead
  split <;> rfl

theorem leavesRing_trigSet (line mode polarity : BitVec 8) (filter : BitVec 16) :
    LeavesRing (reqTrigSet line mode polarity filter) := by
  intro u
  unfold reqTrigSet
  split <;> rfl

theorem leavesRing_trigRead (line : BitVec 8) : LeavesRing (reqTrigRead line) := by
  intro u
  unfold reqTrigRead
  split <;> rfl

theorem leavesRing_dranSet (drain : BitVec 8) (fields : DrainFields) : LeavesRing (reqDranSet drain fields) := by
  intro u
  unfold reqDranSet
  split
  · split
    · rfl
    · exact (confined_setDrain ..).ring
  · rfl

theorem leavesRing_dranRead (drain : BitVec 8) : LeavesRing (reqDranRead drain) := by
  intro u
  unfold reqDranRead
  split <;> rfl

theorem leavesRing_nlinSet (count : BitVec 8) (stations : Vector (BitVec 8) 8) :
    LeavesRing (reqNlinSet count stations) := leavesRing_ite (leavesRing_refuse _) fun _ => rfl

theorem leavesRing_note (text : Text) : LeavesRing (reqNote text) :=
  leavesRing_ite (leavesRing_refuse _) fun u => (confined_bindNote u _).ring

theorem leavesRing_slat (sectionNo : BitVec 8) : LeavesRing (reqSlat sectionNo) :=
  leavesRing_ite (leavesRing_refuse _) (leavesRing_read _)

theorem leavesRing_capsSet (fields : CaptureFields) : LeavesRing (reqCapsSet fields) := fun u =>
  (confined_takeLimitCut (u.modTakes fun t => { t with caps := capturesOf fields })).ring

/-! ### Requests by their kind and payload (R169) -/

theorem leavesRing_setOrRead {set read : State → Answer} (action : BitVec 8) (hs : LeavesRing set) (hr : LeavesRing read) :
    LeavesRing (setOrRead action set read) := by
  unfold setOrRead
  split
  · exact hs
  · split
    · exact hr
    · exact leavesRing_refuse _

theorem leavesRing_byThree {first second third : State → Answer} (action : BitVec 8) (h1 : LeavesRing first)
    (h2 : LeavesRing second) (h3 : LeavesRing third) : LeavesRing (byThree action first second third) := by
  unfold byThree
  split
  · exact h1
  · split
    · exact h2
    · split
      · exact h3
      · exact leavesRing_refuse _

theorem leavesRing_trakAction (p : Text) : LeavesRing (trakAction p) := by
  unfold trakAction
  split
  · exact leavesRing_trakSource _ _
  · split
    · exact leavesRing_trakLink _
    · split
      · exact leavesRing_trakUnlink _
      · split
        · exact leavesRing_trakRead _
        · exact leavesRing_refuse _

/-- The request RSET ENGINE, by its kind and the scope code of its payload (R179). -/
abbrev IsEngineReset (k : ReqKind) (p : Text) : Prop := k = .rset ∧ byteAt p 0 = 0

theorem leavesRing_ownerRequest {k : ReqKind} {p : Text} (h : ¬IsEngineReset k p) : LeavesRing (ownerRequest k p) := by
  cases k with
  | iden => exact leavesRing_read _
  | stat => exact fun _ => rfl
  | link => exact leavesRing_byThree _ (leavesRing_linkSet _) (leavesRing_read _) fun _ => rfl
  | rset =>
    have config : ownerRequest .rset p = if byteAt p 0 = 1 then reqRsetConfig else reqRange := if_neg fun e => h ⟨rfl, e⟩
    rw [config]
    split
    · exact leavesRing_rsetConfig
    · exact leavesRing_refuse _
  | inpt => exact leavesRing_setOrRead _ (leavesRing_inptSet _ _) (leavesRing_inptRead _)
  | mixg => exact leavesRing_mixg _ _ _
  | trak => exact leavesRing_trakAction p
  | armt => exact fun _ => rfl
  | metr => exact leavesRing_setOrRead _ (fun _ => rfl) fun _ => rfl
  | tlmd => exact leavesRing_tlmd _ _ _
  | tcst => exact leavesRing_tcst _
  | jams => exact leavesRing_jams
  | tcqr => exact leavesRing_read _
  | caps => exact leavesRing_setOrRead _ (leavesRing_capsSet _) (leavesRing_read _)
  | take => exact leavesRing_take _ _
  | roll => exact leavesRing_roll
  | cut => exact leavesRing_cut
  | mark => exact leavesRing_byThree _ (leavesRing_markSet _ _) (leavesRing_markClear _) (leavesRing_markRead _)
  | trig => exact leavesRing_setOrRead _ (leavesRing_trigSet _ _ _ _) (leavesRing_trigRead _)
  | dran => exact leavesRing_setOrRead _ (leavesRing_dranSet _ _) (leavesRing_dranRead _)
  | nlin => exact leavesRing_byThree _ (leavesRing_nlinSet _ _) (leavesRing_read _) fun _ => rfl
  | note => exact leavesRing_note p
  | slat => exact leavesRing_slat _

theorem word_of_ofWord {kind : Text} {k : ReqKind} (h : ReqKind.ofWord kind = some k) : kind = k.word := by
  have named := List.find?_some (p := fun j : ReqKind => j.word == kind) h
  exact (beq_iff_eq.1 named).symm

/-- A frame leaves the ring, or it is RSET ENGINE: the kind RSET with the one payload byte 0 (R169, R179). -/
theorem frameRequest_cases (kind p : Text) : LeavesRing (frameRequest kind p)
    ∨ (kind = ReqKind.rset.word ∧ p = [0] ∧ frameRequest kind p = reqRsetEngine) := by
  unfold frameRequest
  split
  · exact .inl (leavesRing_refuse _)
  · rename_i k named
    split
    · rename_i fits
      by_cases engine : IsEngineReset k p
      · obtain ⟨rfl, scope⟩ := engine
        obtain ⟨b, rfl⟩ := List.length_eq_one_iff.1 (of_decide_eq_true fits)
        obtain rfl : b = 0 := scope
        exact .inr ⟨word_of_ofWord named, rfl, rfl⟩
      · exact .inl (leavesRing_ownerRequest engine)
    · exact .inl (leavesRing_refuse _)

/-! ## RSET ENGINE (R179) -/

/-- RSET ENGINE discarded for a full reply queue leaves the ring; taken, it sets P to 0 and is answered. -/
theorem serve_rsetEngine (s : State) (tag : BitVec 8) :
    (s.serve tag ReqKind.rset.word reqRsetEngine).ring = s.ring
    ∨ ((s.serve tag ReqKind.rset.word reqRsetEngine).ring = { s.ring with p := 0 }
      ∧ (s.serve tag ReqKind.rset.word reqRsetEngine).link.replies = s.link.replies
        ++ [{ tag := tag, kind := ReqKind.rset.word, status := .ok, result := .rset false 0 }]) := by
  by_cases room : s.link.replyRoom = true
  · right
    rw [State.serve, if_pos room]
    exact ⟨rfl, rfl⟩
  · left
    rw [State.serve, if_neg room]
    rfl

/-! ## The control line (R166, R167) -/

theorem frameError_ring (s : State) (e : FrameError) : (s.frameError e).ring = s.ring := by
  simp [State.frameError, apply_ite State.ring]

theorem byteError_ring (s : State) : s.byteError.ring = s.ring := by
  simp [State.byteError, apply_ite State.ring, frameError_ring]

/-- A byte leaves the ring, or it is the last of a frame RSET ENGINE that has come with its CRC. -/
theorem goodByte_ring (s : State) (v : BitVec 8) : (s.goodByte v).ring = s.ring
    ∨ ∃ len tag low : BitVec 8, s.link.rx = .crc len ReqKind.rset.word tag [0] (some low)
        ∧ crc (len :: (ReqKind.rset.word ++ [tag, 0])) = v ++ low
        ∧ s.goodByte v = (s.modLink Link.hunt).serve tag ReqKind.rset.word reqRsetEngine := by
  unfold State.goodByte
  split
  · exact .inl (by split <;> rfl)
  · exact .inl (by split; exacts [rfl, frameError_ring ..])
  · exact .inl (by split <;> rfl)
  · exact .inl (by split <;> rfl)
  · exact .inl (by split <;> rfl)
  · exact .inl rfl
  · rename_i len kind tag payload low place
    unfold State.frameComplete
    split
    · rename_i good
      rcases frameRequest_cases kind payload with leaves | ⟨rfl, rfl, engine⟩
      · exact .inl (serve_ring leaves ..)
      · exact .inr ⟨len, tag, low, place, good, by rw [engine]⟩
    · exact .inl (frameError_ring ..)

/-! ## The events -/

@[simp] theorem intake_ring (s : State) (e : Event) : (s.intake e).ring = s.ring := (confined_intake s e).ring

theorem takeSilent_ring (s : State) (k : Fin 16) : (s.takeSilent k).ring = s.ring := by
  simp [State.takeSilent, apply_ite State.ring]

theorem loseSync_ring (s : State) : s.loseSync.ring = s.ring := by simp [State.loseSync, apply_ite State.ring]

theorem reportLevels_ring (s : State) : s.reportLevels.ring = s.ring := by
  simp [State.reportLevels, State.clearPeaks, apply_ite State.ring]

theorem ring_ite {s a b : State} {p : Prop} [Decidable p] (ha : a.ring = s.ring) (hb : b.ring = s.ring) :
    (if p then a else b).ring = s.ring := by
  split
  · exact ha
  · exact hb

theorem frameSeeking_ring (s : State) (c arrival : Nat) : (s.frameSeeking c arrival).ring = s.ring := by
  unfold State.frameSeeking
  dsimp only
  split
  · rfl
  · refine ring_ite ((markHandoff_ring ..).trans (ring_ite (report_ring ..) ?_)) rfl
    exact (report_ring ..).trans (report_ring ..)

theorem frameVerifying_ring (s : State) (c arrival : Nat) : (s.frameVerifying c arrival).ring = s.ring := by
  refine ring_ite (ring_ite (regained_ring ..) rfl) (ring_ite ?_ rfl)
  exact (markHandoff_ring ..).trans ((report_ring ..).trans (ring_ite (regained_ring ..) rfl))

theorem validFrame_ring (s : State) (c arrival : Nat) : (s.validFrame c arrival).ring = s.ring := by
  unfold State.validFrame
  dsimp only
  split
  · rfl
  · exact frameSeeking_ring ..
  · exact ring_ite rfl rfl
  · exact frameVerifying_ring ..
  · exact ring_ite (regained_ring ..) rfl

theorem takeFrame_ring (s : State) (label : Label) (drop : Bool) (arrival : Nat) :
    (s.takeFrame label drop arrival).ring = s.ring := by
  simp [State.takeFrame, apply_ite State.ring, validFrame_ring]

theorem silenceDiscard_ring (s : State) : s.silenceDiscard.ring = s.ring := by
  simp [State.silenceDiscard, apply_ite State.ring]

theorem takeNextNote_ring (s : State) : s.takeNextNote.ring = s.ring := by
  unfold State.takeNextNote
  split
  · rfl
  · exact (confined_takeLineNote ..).ring

/-! ## The commands -/

/-- The commands that may change the ring: the audio frame, the two resets, and a byte of the control line. -/
def mayMoveP : Instr → Bool
  | .powerOnReset => true
  | .audioFrame .. => true
  | .rsetEngine _ => true
  | .controlByte .. => true
  | _ => false

/-- Every other command leaves the ring, by the lemma of its unit or of its request. -/
theorem exec_ring {i : Instr} {s t : State} (h : exec i s = .next t) (other : mayMoveP i = false) : t.ring = s.ring := by
  have by_unit {u : State} (ran : exec i s = .next u) (kept : u.ring = s.ring) : t.ring = s.ring := by
    rw [Host.Outcome.next.inj (h.symm.trans ran), kept]
  have by_request {handle : State → Answer} {tag : BitVec 8} {kind : Text}
      (ran : exec i s = .next (s.serve tag kind handle)) (kept : LeavesRing handle) : t.ring = s.ring :=
    by_unit ran (serve_ring kept ..)
  cases i with
  | powerOnReset => cases other
  | audioFrame => cases other
  | rsetEngine => cases other
  | controlByte => cases other
  | earlyFrameSync => exact by_unit rfl rfl
  | clipEpisodeEnd => exact by_unit rfl rfl
  | busClipEpisodeEnd => exact by_unit rfl rfl
  | silent => exact by_unit rfl (takeSilent_ring ..)
  | audioSyncLoss => exact by_unit rfl (loseSync_ring _)
  | lvlsReport => exact by_unit rfl (reportLevels_ring _)
  | frameArrival => exact by_unit rfl (takeFrame_ring ..)
  | refLost =>
    obtain ⟨-, -, -, -, ring, -⟩ := takeRefLost_frame s
    exact by_unit rfl ring
  | edgeConfirmed =>
    obtain ⟨-, -, -, -, ring, -⟩ := takeEdges_frame s
    exact by_unit rfl ring
  | markFired => exact by_unit rfl (confined_takeMarksFired s).ring
  | tailEnd => exact by_unit rfl (confined_takeTailEnd s).ring
  | limitCut => exact by_unit rfl (confined_takeLimitCut s).ring
  | windowEnd => exact by_unit rfl (confined_takeWindowEnd s).ring
  | formBlock d => exact by_unit rfl (confined_takeForm s d).ring
  | completion d => exact by_unit rfl (confined_takeCompletion s d).ring
  | hold => exact by_unit rfl rfl
  | go => exact by_unit rfl rfl
  | linkDown d => exact by_unit rfl (confined_takeLinkDown s d).ring
  | linkUp => exact by_unit rfl rfl
  | stalled d => exact by_unit rfl (confined_takeStall s d).ring
  | character => exact by_unit rfl rfl
  | idleTimeout => exact by_unit rfl rfl
  | lineBreak => exact by_unit rfl rfl
  | breakEnd => exact by_unit rfl rfl
  | startBitEdge => exact by_unit rfl rfl
  | bindNote => exact by_unit rfl (takeNextNote_ring s)
  | silenceDiscard => exact by_unit rfl (silenceDiscard_ring s)
  | badKind => exact by_unit rfl (ring_ite (serve_ring (leavesRing_refuse _) ..) rfl)
  | transmitFrame => exact by_unit rfl rfl
  | iden => exact by_request rfl (leavesRing_read _)
  | stat => exact by_request rfl fun _ => rfl
  | linkSet => exact by_request rfl (leavesRing_linkSet _)
  | linkRead => exact by_request rfl (leavesRing_read _)
  | linkReadAndClear => exact by_request rfl fun _ => rfl
  | rsetConfig => exact by_request rfl leavesRing_rsetConfig
  | inptSet => exact by_request rfl (leavesRing_inptSet _ _)
  | inptRead => exact by_request rfl (leavesRing_inptRead _)
  | mixg => exact by_request rfl (leavesRing_mixg _ _ _)
  | trakSource => exact by_request rfl (leavesRing_trakSource _ _)
  | trakLink => exact by_request rfl (leavesRing_trakLink _)
  | trakUnlink => exact by_request rfl (leavesRing_trakUnlink _)
  | trakRead => exact by_request rfl (leavesRing_trakRead _)
  | armt => exact by_request rfl fun _ => rfl
  | metrRead => exact by_request rfl fun _ => rfl
  | metrPeriod => exact by_request rfl fun _ => rfl
  | tlmd => exact by_request rfl (leavesRing_tlmd _ _ _)
  | tcst => exact by_request rfl (leavesRing_tcst _)
  | jams => exact by_request rfl leavesRing_jams
  | tcqr => exact by_request rfl (leavesRing_read _)
  | capsSet => exact by_request rfl (leavesRing_capsSet _)
  | capsRead => exact by_request rfl (leavesRing_read _)
  | take => exact by_request rfl (leavesRing_take _ _)
  | roll => exact by_request rfl leavesRing_roll
  | cut => exact by_request rfl leavesRing_cut
  | markSet => exact by_request rfl (leavesRing_markSet _ _)
  | markClear => exact by_request rfl (leavesRing_markClear _)
  | markRead => exact by_request rfl (leavesRing_markRead _)
  | trigSet => exact by_request rfl (leavesRing_trigSet _ _ _ _)
  | trigRead => exact by_request rfl (leavesRing_trigRead _)
  | dranSet => exact by_request rfl (leavesRing_dranSet _ _)
  | dranRead => exact by_request rfl (leavesRing_dranRead _)
  | nlinSet => exact by_request rfl (leavesRing_nlinSet _ _)
  | nlinRead => exact by_request rfl (leavesRing_read _)
  | nlinReadAndClear => exact by_request rfl fun _ => rfl
  | note => exact by_request rfl (leavesRing_note _)
  | slat => exact by_request rfl (leavesRing_slat _)

/-- A byte of the control line leaves the ring, but for the last byte of a frame RSET ENGINE. -/
theorem controlByte_ring (s : State) (v : BitVec 8) (stopHigh : Bool) : (s.controlByte v stopHigh).ring = s.ring
    ∨ (stopHigh = true ∧ ∃ len tag low : BitVec 8, s.link.rx = .crc len ReqKind.rset.word tag [0] (some low)
        ∧ crc (len :: (ReqKind.rset.word ++ [tag, 0])) = v ++ low
        ∧ s.controlByte v stopHigh = (s.modLink Link.hunt).serve tag ReqKind.rset.word reqRsetEngine) := by
  cases stopHigh
  · exact .inl (byteError_ring s)
  · exact (goodByte_ring s v).imp id fun engine => ⟨rfl, engine⟩

/-- Settles O60: a command that may change the ring is an audio frame, the reset pin, or RSET ENGINE, as a row or as the last
byte of its frame; every other one leaves the ring. -/
theorem onlyAudioFramesAndResetsMoveP : Obligations.OnlyAudioFramesAndResetsMoveP := by
  unfold Obligations.OnlyAudioFramesAndResetsMoveP
  intro i s t h
  by_cases other : mayMoveP i = false
  · exact .inl (exec_ring h other)
  cases i with
  | audioFrame slots l1 l2 => exact .inr (.inl ⟨slots, l1, l2, rfl⟩)
  | powerOnReset =>
    cases h
    exact .inr (.inr ⟨rfl, .inl rfl⟩)
  | rsetEngine tag =>
    cases h
    exact (serve_rsetEngine s tag).imp id fun ⟨ring, replies⟩ => .inr ⟨ring, .inr ⟨tag, .inl rfl, replies⟩⟩
  | controlByte v stopHigh =>
    cases h
    rcases controlByte_ring s v stopHigh with kept | ⟨rfl, len, tag, low, place, good, engine⟩
    · exact .inl kept
    · rw [engine]
      exact (serve_rsetEngine (s.modLink Link.hunt) tag).imp id fun ⟨ring, replies⟩ =>
        .inr ⟨ring, .inr ⟨tag, .inr ⟨v, low, len, rfl, place, good⟩, replies⟩⟩
  | _ => exact absurd rfl other

end Sys2Proof.Machine
end

section
/-! SUPPORT. The ring under an audio frame: the pushes of a write keep the take controller, raise cursors and lower none, so
that each cursor of the list ends at O or at its take's end (R58, R126); the frame as a whole, for the marks and the loss
count (R26, R100). -/

namespace Sys2Proof.Machine

/-! ## One push (R126) -/

/-- How far a push moves a cursor: to O, or to the take's end where that comes first (R126). -/
def pushTarget (o : Nat) (endPos : Option Nat) : Nat :=
  match endPos with
  | some e => min o e
  | none => o

theorem retained_of_pushTarget {o f : Nat} {endPos : Option Nat} (h : pushTarget o endPos ≤ f) :
    o ≤ f ∨ ∃ e, endPos = some e ∧ e ≤ f := by
  cases endPos with
  | none => exact .inl h
  | some e => exact (min_le_iff.1 h).imp id fun reached => ⟨e, rfl, reached⟩

/-- A section that a push moves on by `n` sample periods, lost at an offset (R126 to R128). -/
def Section.pushedBy (x : Section) (offset n : Nat) : Section :=
  { (x.lose offset n) with formation := x.formation + n, confirmed := x.confirmed + n }

theorem recordGap_state (x : Section) (offset n : Nat) : (x.recordGap offset n).state = x.state := by
  unfold Section.recordGap
  split
  · split
    · rfl
    · split
      · rfl
      · split <;> rfl
  · rfl

theorem pushedBy_state (x : Section) (offset n : Nat) : (x.pushedBy offset n).state = x.state := recordGap_state ..

theorem pushedBy_formation (x : Section) (offset n : Nat) : (x.pushedBy offset n).formation = x.formation + n := rfl

/-- What a push leaves where the section is behind, before the test for DONE. -/
def State.pushed (s : State) (id : Nat) (d : Drain) (r : TakeRecord) : State :=
  (s.updSection id d fun x => x.pushedBy ((r.sections.get d).formation - r.start)
      (pushTarget s.oldest r.endPos - (r.sections.get d).formation)).gapEpisodeTest
    d id (r.sections.get d).formation ((r.sections.get d).formation - r.start) .push

section
variable {s : State} {id : Nat} {d : Drain} {r : TakeRecord}

theorem push_gone (gone : s.record? id = none) : s.push id d = s := by
  unfold State.push
  rw [gone]

/-- A push moves a live section whose cursor is short of the target, and no other. -/
theorem push_found (found : s.record? id = some r) : s.push id d =
    if (r.sections.get d).live = true ∧ (r.sections.get d).formation < pushTarget s.oldest r.endPos then
      (s.pushed id d r).settleDone id d
    else s := by
  unfold State.push State.pushed
  generalize s.oldest = o
  rw [found]
  cases ends : r.endPos <;> simp only [ends, pushTarget] <;> rfl

end

/-! ## The pushes and the take controller -/

theorem sameController_runAll {α : Type} (f : α → State → State) (hf : ∀ x s, SameController s (f x s)) (xs : List α)
    (s : State) : SameController s (runAll f xs s) := by
  induction xs generalizing s with
  | nil => exact SameController.refl s
  | cons x xs ih => exact (hf x s).trans (ih (f x s))

theorem sameController_gapEpisodeTest (s : State) (d : Drain) (takeId pos offset : Nat) (reason : DrneReason) :
    SameController s (s.gapEpisodeTest d takeId pos offset reason) := by
  unfold State.gapEpisodeTest
  split
  · exact SameController.refl s
  · exact ⟨rfl, rfl, rfl, rfl, rfl, rfl, rfl, rfl⟩

theorem sameController_push (s : State) (id : Nat) (d : Drain) : SameController s (s.push id d) := by
  cases found : s.record? id with
  | none =>
    rw [push_gone found]
    exact SameController.refl s
  | some r =>
    rw [push_found found]
    split
    · exact ((sameController_updRecord ..).trans (sameController_gapEpisodeTest ..)).trans
        (sweeps_settleDone ..).sameController
    · exact SameController.refl s

theorem sameController_overrun (s : State) : SameController s s.overrun :=
  sameController_runAll _ (fun id s => (sameController_push s id .a).trans (sameController_push _ id .b)) _ _

/-! ## The frame, for the timeline and the marks -/

theorem writeRing_timeline (s : State) (x : Vector Sample 24) : (s.writeRing x).timeline = s.timeline := rfl

theorem sameController_writeRing (s : State) (x : Vector Sample 24) : SameController s (s.writeRing x) :=
  ⟨rfl, rfl, rfl, rfl, rfl, rfl, rfl, rfl⟩

theorem SameController.mark {s t : State} (h : SameController s t) (m : MarkName) : t.mark m = s.mark m := by
  cases m
  · exact h.startMark
  · exact h.stopMark

theorem takePosition_timeline (s : State) (l1 l2 : Bool) (w : Nat) : (s.takePosition l1 l2 w).timeline =
    if s.timeline.countsLoss = true then { s.timeline with loss := s.timeline.loss + 1 } else s.timeline := rfl

theorem takePosition_mark (s : State) (l1 l2 : Bool) (w : Nat) (m : MarkName) :
    (s.takePosition l1 l2 w).mark m = s.mark m := by cases m <;> rfl

/-- The marks that the new P enters are latched; the latch is not read for it (R100, log entry 13). -/
theorem takePosition_markDue (s : State) (l1 l2 : Bool) (w : Nat) :
    (s.takePosition l1 l2 w).takes.markDue = (s.takePosition l1 l2 w).marksEntered := rfl

section
variable (s : State) (slots : Vector (BitVec 32) 16) (l1 l2 : Bool)

/-- The machine after the ring's write and its pushes, before the units take the new position. -/
def State.written : State := ((s.takeSync.conditionFrame slots).writeRing (s.trackSamples slots)).overrun

theorem takeAudio_eq : s.takeAudio slots l1 l2 = (s.written slots).takePosition l1 l2 s.ring.p := rfl

theorem written_timeline : (s.written slots).timeline = s.timeline := by
  obtain ⟨-, -, -, -, -, -, timeline, -⟩ := takeSync_spec s
  rw [State.written, (confined_overrun _).timeline, writeRing_timeline, (conditionFrame_frame _ _).timeline,
    State.modRouter_timeline, State.modInputs_timeline, timeline]

theorem written_mark (m : MarkName) : (s.written slots).mark m = s.mark m := by
  have events : SameController (s.conditioned slots) (s.takeSync.conditionFrame slots) :=
    sameController_runAll _ (fun e s => sameController_intake s e) _ _
  have written := (events.trans (sameController_writeRing _ (s.trackSamples slots))).trans (sameController_overrun _)
  rw [State.written, written.mark]
  unfold State.mark
  rw [conditioned_takes]

theorem takeAudio_timeline : (s.takeAudio slots l1 l2).timeline = { s.timeline with
    loss := if s.timeline.ref = .locked ∨ s.timeline.ref = .verifying then s.timeline.loss + 1 else s.timeline.loss } := by
  have counts : s.timeline.countsLoss = true ↔ s.timeline.ref = .locked ∨ s.timeline.ref = .verifying := by
    simp [Timeline.countsLoss]
  rw [takeAudio_eq, takePosition_timeline, written_timeline]
  by_cases tracked : s.timeline.countsLoss = true
  · rw [if_pos tracked, if_pos (counts.1 tracked)]
  · rw [if_neg tracked, if_neg (mt counts.2 tracked)]

theorem takeAudio_mark (m : MarkName) : (s.takeAudio slots l1 l2).mark m = s.mark m := by
  rw [takeAudio_eq, takePosition_mark, written_mark]

theorem takeAudio_markDue : (s.takeAudio slots l1 l2).takes.markDue = (s.takeAudio slots l1 l2).marksEntered := by
  rw [takeAudio_eq, takePosition_markDue]

end

/-- The armed marks whose count the boundary at P enters, by a flag for each (R100). -/
theorem marksEntered_eq {s : State} {c : Nat} {entered : MarkName → Bool} (count : c = s.timeline.countAt s.ring.p)
    (enters : ∀ m, entered m = decide ((s.mark m).armed = true ∧ (s.mark m).count = c)) : s.marksEntered =
      if s.timeline.phaseAt s.ring.p = 0 ∧ (entered .start = true ∨ entered .stop = true) then
        some { count := c, pos := s.ring.p, start := entered .start, stop := entered .stop }
      else none := by
  have latched (m : MarkName) : entered m = ((s.mark m).armed && decide ((s.mark m).count = c)) := by
    rw [enters, Bool.decide_and, Bool.decide_eq_true]
  subst count
  simp only [latched, ← Bool.or_eq_true]
  rfl

/-- Settles O8: each block by what settling the advance and the frame leave in it; the ring by its write read back. -/
theorem audioFrameWritesTheSlotOfP : Obligations.AudioFrameWritesTheSlotOfP := by
  unfold Obligations.AudioFrameWritesTheSlotOfP
  intro s slots l1 l2 next canonical
  obtain ⟨pending, inputs, -, ring, notes, free, -⟩ := settleAdvance_frame s
  obtain ⟨pending', inputs', -, ring', triggers', notes', free', audioLost⟩ := takeAudio_frame s.settleAdvance slots l1 l2
  have timeline' := takeAudio_timeline s.settleAdvance slots l1 l2
  have mark' := takeAudio_mark s.settleAdvance slots l1 l2
  have latch' := takeAudio_markDue s.settleAdvance slots l1 l2
  have samples := settleAdvance_trackSamples s slots
  have run := exec_audioFrame s slots l1 l2
  have unlost := settleAdvance_triggers (s := s)
  dsimp only [State.afterFrame] at run
  generalize s.settleAdvance = u at *
  generalize u.takeAudio slots l1 l2 = t at *
  have moved : t.ring.p = s.ring.p + 1 := by
    rw [ring', State.writeRing, ring]
    exact if_pos next
  refine ⟨t, run, moved, fun slot => ?slots, ?sync, ?timer, fun lost => ?lost,
    fun none1 none2 => ?lines, pending'.trans pending, notes'.trans notes, ?free, ?marks⟩
  case slots =>
    rw [ring', readSlot_writeRing _ _ _ (by rw [ring]; exact canonical), samples, ring]
    rfl
  case sync => rw [inputs']
  case timer =>
    rw [inputs']
    rfl
  case lost => exact audioLost (by rw [inputs]; exact lost)
  case lines =>
    rw [triggers', unlost none1 none2, ring]
    rfl
  case free =>
    rw [free', State.writeRing, ring, ← free]
    exact if_pos next
  case marks =>
    rintro v c entered rfl count enters
    refine ⟨timeline', mark', ?_⟩
    rw [latch', marksEntered_eq (c := c) (entered := entered), moved]
    · rw [moved]
      exact count
    · intro m
      rw [mark', enters]

/-! ## Cursors only rise (R126) -/

/-- From `s` to `t` the retained range and the ends of the takes stay, no take enters the table or the list, and no cursor
falls, nor does a section become live again. -/
structure CursorsRise (s t : State) : Prop where
  ring : t.ring = s.ring
  list : t.delivery.list.Sublist s.delivery.list
  missing : ∀ id, s.record? id = none → t.record? id = none
  records : ∀ id r, s.record? id = some r → ∃ q, t.record? id = some q ∧ q.endPos = r.endPos
    ∧ ∀ d : Drain, (r.sections.get d).formation ≤ (q.sections.get d).formation
      ∧ ((r.sections.get d).live = false → (q.sections.get d).live = false)

theorem CursorsRise.refl (s : State) : CursorsRise s s :=
  ⟨rfl, List.Sublist.refl _, fun _ h => h, fun _ r found => ⟨r, found, rfl, fun _ => ⟨Nat.le_refl _, fun h => h⟩⟩⟩

theorem CursorsRise.trans {s t u : State} (h : CursorsRise s t) (k : CursorsRise t u) : CursorsRise s u := by
  refine ⟨k.ring.trans h.ring, k.list.trans h.list, fun id gone => k.missing id (h.missing id gone), fun id r found => ?_⟩
  obtain ⟨q, hq, ends, rise⟩ := h.records id r found
  obtain ⟨p, hp, ends', rise'⟩ := k.records id q hq
  exact ⟨p, hp, ends'.trans ends, fun d =>
    ⟨(rise d).1.trans (rise' d).1, fun settled => (rise' d).2 ((rise d).2 settled)⟩⟩

theorem Sweeps.cursorsRise {s t : State} (h : Sweeps s t) : CursorsRise s t := by
  refine ⟨h.confined.ring, h.list, h.missing, fun id r found => ?_⟩
  obtain ⟨q, hq, follows, -⟩ := h.records id r found
  obtain ⟨-, -, -, -, -, ends, -⟩ := follows.kept
  refine ⟨q, hq, ends, fun d => ⟨(follows.sections d).kept.1.ge, fun settled => ?_⟩⟩
  rw [live_congr ((follows.sections d).settled settled), settled]

theorem cursorsRise_runAll {α : Type} (f : α → State → State) (hf : ∀ x s, CursorsRise s (f x s)) (xs : List α)
    (s : State) : CursorsRise s (runAll f xs s) := by
  induction xs generalizing s with
  | nil => exact CursorsRise.refl s
  | cons x xs ih => exact (hf x s).trans (ih (f x s))

theorem cursorsRise_updSection {s : State} {id : Nat} {d : Drain} {f : Section → Section}
    (hf : ∀ x, x.formation ≤ (f x).formation ∧ (f x).state = x.state) : CursorsRise s (s.updSection id d f) := by
  refine ⟨rfl, List.Sublist.refl _, fun j gone => ?_, fun j r found => ?_⟩
  · rw [record?_updSection, gone]
    rfl
  · rw [record?_updSection, found]
    refine ⟨_, rfl, ?_⟩
    dsimp only
    split
    · refine ⟨rfl, fun e => ?_⟩
      by_cases same : e = d
      · subst same
        rw [PerDrain.get_modify_same, live_congr (hf _).2]
        exact ⟨(hf _).1, fun h => h⟩
      · rw [PerDrain.get_modify_other _ _ _ _ same]
        exact ⟨Nat.le_refl _, fun h => h⟩
    · exact ⟨rfl, fun _ => ⟨Nat.le_refl _, fun h => h⟩⟩

theorem gapEpisodeTest_record? (s : State) (d : Drain) (takeId pos offset : Nat) (reason : DrneReason) (id : Nat) :
    (s.gapEpisodeTest d takeId pos offset reason).record? id = s.record? id := by
  unfold State.gapEpisodeTest
  split <;> rfl

theorem gapEpisodeTest_list (s : State) (d : Drain) (takeId pos offset : Nat) (reason : DrneReason) :
    (s.gapEpisodeTest d takeId pos offset reason).delivery.list = s.delivery.list := by
  unfold State.gapEpisodeTest
  split <;> rfl

theorem cursorsRise_gapEpisodeTest (s : State) (d : Drain) (takeId pos offset : Nat) (reason : DrneReason) :
    CursorsRise s (s.gapEpisodeTest d takeId pos offset reason) := by
  refine ⟨(confined_gapEpisodeTest ..).ring, (gapEpisodeTest_list ..).symm ▸ List.Sublist.refl _, fun id gone => ?_,
    fun id r found => ⟨r, ?_, rfl, fun _ => ⟨Nat.le_refl _, fun h => h⟩⟩⟩
  · rw [gapEpisodeTest_record?, gone]
  · rw [gapEpisodeTest_record?, found]

theorem cursorsRise_pushed (s : State) (id : Nat) (d : Drain) (r : TakeRecord) : CursorsRise s (s.pushed id d r) := by
  unfold State.pushed
  refine CursorsRise.trans (cursorsRise_updSection fun x => ⟨?_, pushedBy_state ..⟩) (cursorsRise_gapEpisodeTest ..)
  rw [pushedBy_formation]
  exact Nat.le_add_right ..

theorem cursorsRise_push (s : State) (id : Nat) (d : Drain) : CursorsRise s (s.push id d) := by
  cases found : s.record? id with
  | none =>
    rw [push_gone found]
    exact CursorsRise.refl s
  | some r =>
    rw [push_found found]
    split
    · exact (cursorsRise_pushed ..).trans (sweeps_settleDone ..).cursorsRise
    · exact CursorsRise.refl s

/-! ## Where the cursors end (R58, R126) -/

/-- A section's cursor lies in the retained range, or at or past the end of its closed take; a section that is neither
PENDING nor ACTIVE needs none. -/
def CursorRetained (s : State) (id : Nat) (d : Drain) : Prop :=
  ∀ r, s.record? id = some r → (r.sections.get d).live = true →
    s.oldest ≤ (r.sections.get d).formation ∨ ∃ e, r.endPos = some e ∧ e ≤ (r.sections.get d).formation

theorem CursorsRise.retained {s t : State} (h : CursorsRise s t) {id : Nat} {d : Drain} (k : CursorRetained s id d) :
    CursorRetained t id d := by
  intro q found live
  cases before : s.record? id with
  | none => exact absurd (found.symm.trans (h.missing id before)) nofun
  | some r =>
    obtain ⟨p, hp, ends, rise⟩ := h.records id r before
    obtain rfl : q = p := Option.some.inj (found.symm.trans hp)
    have was : (r.sections.get d).live = true := by
      by_contra settled
      have := (rise d).2 (Bool.eq_false_iff.2 settled)
      exact absurd (live.symm.trans this) nofun
    rw [ends, State.oldest, h.ring]
    exact (k r before was).imp (fun o => o.trans (rise d).1) fun ⟨e, he, reached⟩ => ⟨e, he, reached.trans (rise d).1⟩

/-- A push leaves the section that it is for at O or beyond, or at its take's end. -/
theorem push_retained (s : State) (id : Nat) (d : Drain) : CursorRetained (s.push id d) id d := by
  cases found : s.record? id with
  | none =>
    rw [push_gone found]
    exact fun r there => absurd (there.symm.trans found) nofun
  | some r =>
    rw [push_found found]
    split
    · rename_i behind
      refine (sweeps_settleDone ..).cursorsRise.retained fun q hq _ => ?_
      rw [State.pushed, gapEpisodeTest_record?, record?_updSection, found, Option.map_some, if_pos (record?_id found)] at hq
      obtain rfl := Option.some.inj hq
      refine retained_of_pushTarget (endPos := r.endPos) ?_
      rw [PerDrain.get_modify_same, pushedBy_formation]
      have o : (s.pushed id d r).oldest = s.oldest := by rw [State.oldest, (cursorsRise_pushed s id d r).ring]; rfl
      rw [o]
      exact (Nat.add_sub_cancel' behind.2.le).ge
    · rename_i ahead
      intro q hq live
      obtain rfl : r = q := Option.some.inj (found.symm.trans hq)
      exact retained_of_pushTarget (Nat.not_lt.1 fun short => ahead ⟨live, short⟩)

/-- After the pushes of a run of takes, each of its sections is retained: by its own push, and the later ones raise cursors. -/
theorem runAll_push_retained (l : List Nat) (s : State) {id : Nat} (listed : id ∈ l) (d : Drain) :
    CursorRetained (runAll (fun id s => (s.push id .a).push id .b) l s) id d := by
  have rise (j : Nat) (u : State) : CursorsRise u ((u.push j .a).push j .b) :=
    (cursorsRise_push ..).trans (cursorsRise_push ..)
  induction l generalizing s with
  | nil => cases listed
  | cons j l ih =>
    rcases List.mem_cons.1 listed with rfl | later
    · refine (cursorsRise_runAll _ rise l _).retained ?_
      cases d
      · exact (cursorsRise_push ..).retained (push_retained _ _ _)
      · exact push_retained _ _ _
    · exact ih _ later

theorem overrun_retained (s : State) {id : Nat} (listed : id ∈ s.overrun.delivery.list) (d : Drain) :
    CursorRetained s.overrun id d := by
  have rise : CursorsRise s s.overrun :=
    cursorsRise_runAll _ (fun _ _ => (cursorsRise_push ..).trans (cursorsRise_push ..)) _ _
  exact runAll_push_retained _ _ (rise.list.subset listed) d

theorem takePosition_retained {s : State} {id : Nat} {d : Drain} (h : CursorRetained s id d) (l1 l2 : Bool) (w : Nat) :
    CursorRetained (s.takePosition l1 l2 w) id d := fun r => h r

theorem takePosition_list (s : State) (l1 l2 : Bool) (w : Nat) :
    (s.takePosition l1 l2 w).delivery.list = s.delivery.list := rfl

/-- Settles O11: the pushes leave every listed section retained, and what follows them in the frame touches no section. -/
theorem audioFrameLeavesCursorsRetained : Obligations.AudioFrameLeavesCursorsRetained := by
  unfold Obligations.AudioFrameLeavesCursorsRetained
  intro s slots l1 l2 t run id listed r found d live
  have after : t = (s.settleAdvance.written slots).takePosition l1 l2 s.settleAdvance.ring.p :=
    (Host.Outcome.next.inj run).symm
  have retained : CursorRetained t id d := by
    rw [after, takePosition_list, State.written] at listed
    rw [after, State.written]
    exact takePosition_retained (overrun_retained _ listed d) _ _ _
  exact retained r found live

end Sys2Proof.Machine
end

section
/-! SUPPORT. The sweep of the delivery list, exactly (R90, R91, R109, R111): the list it leaves, the records it leaves as they
are but for the drains moving on, and that no drain's current take changes. -/

namespace Sys2Proof.Machine

/-! ## Live sections and current takes (R111) -/

/-- A take's section for a drain is PENDING or ACTIVE. -/
def State.liveOn (s : State) (d : Drain) (id : Nat) : Bool := (s.record? id).any fun r => (r.sections.get d).live

theorem liveOn_found {s : State} {d : Drain} {id : Nat} {r : TakeRecord} (found : s.record? id = some r) :
    s.liveOn d id = (r.sections.get d).live := by
  rw [State.liveOn, found]
  rfl

theorem currentTake_eq (s : State) (d : Drain) : s.currentTake d = s.delivery.list.find? (s.liveOn d) := by
  unfold State.currentTake
  congr 1
  funext id
  unfold State.liveOn
  cases s.record? id <;> rfl

theorem stillDelivering_eq (s : State) (id : Nat) : s.stillDelivering id = (s.liveOn .a id || s.liveOn .b id) := by
  unfold State.stillDelivering State.liveOn
  cases s.record? id <;> rfl

theorem stillDelivering_found {s : State} {id : Nat} {r : TakeRecord} (found : s.record? id = some r) :
    s.stillDelivering id = r.live := by
  unfold State.stillDelivering
  rw [found]

theorem live_iff (r : TakeRecord) : r.live = true ↔ ∃ d : Drain, (r.sections.get d).live = true := by
  rw [TakeRecord.live, Bool.or_eq_true]
  exact ⟨fun h => h.elim (⟨.a, ·⟩) (⟨.b, ·⟩), fun ⟨d, h⟩ => by cases d; exacts [.inl h, .inr h]⟩

theorem live_of_section {r : TakeRecord} {d : Drain} (h : (r.sections.get d).live = true) : r.live = true :=
  (live_iff r).2 ⟨d, h⟩

theorem stillDelivering_of_liveOn {s : State} {d : Drain} {id : Nat} (h : s.liveOn d id = true) :
    s.stillDelivering id = true := by
  rw [stillDelivering_eq, Bool.or_eq_true]
  cases d
  · exact .inl h
  · exact .inr h

/-- A drain's current take is listed, and its section is live. -/
theorem currentTake_some {s : State} {d : Drain} {id : Nat} (h : s.currentTake d = some id) :
    id ∈ s.delivery.list ∧ s.liveOn d id = true := by
  rw [currentTake_eq] at h
  exact ⟨List.mem_of_find?_eq_some h, List.find?_some h⟩

/-- The current takes depend on the list and on the live sections of its takes alone. -/
theorem currentTake_congr {s t : State} {d : Drain} (list : t.delivery.list = s.delivery.list)
    (live : ∀ id ∈ s.delivery.list, t.liveOn d id = s.liveOn d id) : t.currentTake d = s.currentTake d := by
  rw [currentTake_eq, currentTake_eq, list]
  exact List.find?_congr live

/-! ## Moving on (R111) -/

theorem section_movedOn_of {x : Section} {c : Prop} [Decidable c] (h : c) :
    x.movedOn c = if x.state = .pending then { x with state := .active } else x := by
  unfold Section.movedOn
  by_cases pending : x.state = .pending
  · rw [if_pos ⟨pending, h⟩, if_pos pending]
  · rw [if_neg fun k => pending k.1, if_neg pending]

theorem section_movedOn_of_not {x : Section} {c : Prop} [Decidable c] (h : ¬(x.state = .pending ∧ c)) : x.movedOn c = x := by
  unfold Section.movedOn
  rw [if_neg h]

theorem movedOn_sections (p : TakeRecord) (t : State) (d : Drain) :
    (p.movedOn t).sections.get d = (p.sections.get d).movedOn (t.currentTake d = some p.id) := by
  cases d <;> rfl

theorem record_movedOn_congr {s t : State} (h : ∀ d, t.currentTake d = s.currentTake d) (p : TakeRecord) :
    p.movedOn t = p.movedOn s := by
  simp only [TakeRecord.movedOn, h]

/-- Moving on twice is moving on once, where a drain that has moved on to the take still stands there. -/
theorem movedOn_movedOn {s t : State} {p : TakeRecord}
    (h : ∀ d, s.currentTake d = some p.id → t.currentTake d = some p.id) : (p.movedOn s).movedOn t = p.movedOn t := by
  have once (x : Section) (d : Drain) : (x.movedOn (s.currentTake d = some p.id)).movedOn (t.currentTake d = some p.id) =
      x.movedOn (t.currentTake d = some p.id) := by
    by_cases current : s.currentTake d = some p.id
    · simp only [section_movedOn_of current, section_movedOn_of (h d current)]
      split <;> simp
    · rw [section_movedOn_of_not (c := s.currentTake d = some p.id) fun k => current k.2]
  exact congrArg₂ (fun a b => { p with sections := { a := a, b := b } }) (once _ .a) (once _ .b)

/-- A change of each record that keeps its id, seen from a search. -/
theorem find?_map_id {l : List TakeRecord} {f : TakeRecord → TakeRecord} (hf : ∀ r, (f r).id = r.id) (id : Nat) :
    (l.map f).find? (fun r => r.id == id) = (l.find? fun r => r.id == id).map f := by
  rw [List.find?_map]
  congr 2
  funext r
  rw [Function.comp_apply, hf]

theorem record?_mapTable {s : State} {f : TakeRecord → TakeRecord} (hf : ∀ r, (f r).id = r.id) (id : Nat) :
    (s.modTakes fun t => { t with table := t.table.map f }).record? id = (s.record? id).map f :=
  find?_map_id hf id

/-- A change of each record's sections that keeps what is live keeps the live sections. -/
theorem liveOn_mapTable {s : State} {f : TakeRecord → TakeRecord} (hf : ∀ r, (f r).id = r.id)
    (live : ∀ r d, ((f r).sections.get d).live = (r.sections.get d).live) (d : Drain) (id : Nat) :
    (s.modTakes fun t => { t with table := t.table.map f }).liveOn d id = s.liveOn d id := by
  unfold State.liveOn
  rw [record?_mapTable hf]
  cases s.record? id with
  | none => rfl
  | some r => exact live r d

/-- A record whose section for one drain moves on to a take. -/
def TakeRecord.movedOnTo (r : TakeRecord) (d : Drain) (current : Option Nat) : TakeRecord :=
  { r with sections := r.sections.modify d fun x => x.movedOn (current = some r.id) }

theorem movedOnTo_live (r : TakeRecord) (d e : Drain) (current : Option Nat) :
    ((r.movedOnTo d current).sections.get e).live = (r.sections.get e).live := by
  by_cases same : e = d
  · subst same
    rw [TakeRecord.movedOnTo, PerDrain.get_modify_same, movedOn_live]
  · rw [TakeRecord.movedOnTo, PerDrain.get_modify_other _ _ _ _ same]

theorem activateOn_eq (s : State) (d : Drain) : s.activateOn d =
    s.modTakes fun t => { t with table := t.table.map fun r => r.movedOnTo d (s.currentTake d) } := by
  have stays (l : List TakeRecord) (f : TakeRecord → TakeRecord) (h : ∀ r, f r = r) : l.map f = l := by
    rw [funext h, List.map_id']
  unfold State.activateOn
  cases s.currentTake d with
  | none =>
    refine (congrArg (fun l => ({ s with takes := { s.takes with table := l } } : State)) (stays _ _ fun r => ?_)).symm
    cases d <;> simp [TakeRecord.movedOnTo, PerDrain.modify, section_movedOn_of_not]
  | some id =>
    refine congrArg (fun l => ({ s with takes := { s.takes with table := l } } : State)) (List.map_congr_left fun r _ => ?_)
    by_cases current : r.id = id
    · rw [if_pos current]
      exact congrArg (fun f => { r with sections := r.sections.modify d f })
        (funext fun x => (section_movedOn_of (congrArg some current.symm)).symm)
    · have other (x : Section) : x.movedOn (some id = some r.id) = x :=
        section_movedOn_of_not fun k => current (Option.some.inj k.2).symm
      rw [if_neg current, TakeRecord.movedOnTo, funext other]
      cases d <;> rfl

theorem activateOn_currentTake (s : State) (d e : Drain) : (s.activateOn d).currentTake e = s.currentTake e := by
  rw [activateOn_eq]
  exact currentTake_congr rfl fun id _ =>
    liveOn_mapTable (f := fun r => r.movedOnTo d _) (fun _ => rfl) (fun r e => movedOnTo_live r d e _) e id

/-- Activation moves each record on to the current takes, and changes nothing else. -/
theorem activate_eq (s : State) :
    s.activate = s.modTakes fun t => { t with table := t.table.map fun r => r.movedOn s } := by
  rw [State.activate, activateOn_eq _ .b, activateOn_currentTake, activateOn_eq]
  refine congrArg (fun l => ({ s with takes := { s.takes with table := l } } : State)) ?_
  exact List.map_map ..

theorem record?_activate (s : State) (id : Nat) : s.activate.record? id = (s.record? id).map fun r => r.movedOn s := by
  rw [activate_eq]
  exact record?_mapTable (f := fun r => r.movedOn s) (fun _ => rfl) id

theorem liveOn_activate (s : State) (d : Drain) (id : Nat) : s.activate.liveOn d id = s.liveOn d id := by
  rw [activate_eq]
  refine liveOn_mapTable (f := fun r => r.movedOn s) (fun _ => rfl) (fun r d => ?_) d id
  rw [movedOn_sections, movedOn_live]

theorem activate_delivery (s : State) : s.activate.delivery = s.delivery := by
  rw [activate_eq]
  rfl

theorem activate_currentTake (s : State) (d : Drain) : s.activate.currentTake d = s.currentTake d := by
  rw [State.activate, activateOn_currentTake, activateOn_currentTake]

/-! ## The tests for FINAL (R91, R130) -/

/-- A record after a test for FINAL: its state and the abandoned counts of its sections alone can differ. -/
structure FinalFollows (p q : TakeRecord) : Prop where
  same : q = { p with state := q.state, sections := q.sections }
  sections : ∀ d : Drain, q.sections.get d = { p.sections.get d with abandoned := (q.sections.get d).abandoned }

theorem FinalFollows.refl (p : TakeRecord) : FinalFollows p p := ⟨rfl, fun _ => rfl⟩

theorem FinalFollows.trans {p q r : TakeRecord} (h : FinalFollows p q) (k : FinalFollows q r) : FinalFollows p r := by
  refine ⟨?_, fun d => ?_⟩
  · rw [k.same, h.same]
  · rw [k.sections, h.sections]

theorem FinalFollows.live {p q : TakeRecord} (h : FinalFollows p q) (d : Drain) :
    (q.sections.get d).live = (p.sections.get d).live := by
  rw [h.sections]
  rfl

/-- From `s` to `t` the takes of `l` alone have been tested for FINAL. -/
structure FinalsOf (l : List Nat) (s t : State) : Prop where
  list : t.delivery.list = s.delivery.list
  others : ∀ id, id ∉ l → t.record? id = s.record? id
  missing : ∀ id, s.record? id = none → t.record? id = none
  records : ∀ id p, s.record? id = some p → ∃ q, t.record? id = some q ∧ FinalFollows p q

theorem FinalsOf.refl (l : List Nat) (s : State) : FinalsOf l s s :=
  ⟨rfl, fun _ _ => rfl, fun _ h => h, fun _ p found => ⟨p, found, FinalFollows.refl p⟩⟩

theorem FinalsOf.trans {l : List Nat} {s t u : State} (h : FinalsOf l s t) (k : FinalsOf l t u) : FinalsOf l s u := by
  refine ⟨k.list.trans h.list, fun id other => (k.others id other).trans (h.others id other),
    fun id gone => k.missing id (h.missing id gone), fun id p found => ?_⟩
  obtain ⟨q, hq, follows⟩ := h.records id p found
  obtain ⟨r, hr, follows'⟩ := k.records id q hq
  exact ⟨r, hr, follows.trans follows'⟩

theorem finalsOf_updRecord {l : List Nat} {s : State} {id : Nat} {f : TakeRecord → TakeRecord} (tested : id ∈ l)
    (hf : ∀ p, FinalFollows p (f p)) : FinalsOf l s (s.updRecord id f) := by
  have ids (p : TakeRecord) : (f p).id = p.id := by rw [(hf p).same]
  refine ⟨rfl, fun j other => record?_updRecord_other ids fun same => other (same ▸ tested), fun j gone => ?_,
    fun j p found => ?_⟩
  · rw [record?_updRecord s id j f ids, gone]
    rfl
  · rw [record?_updRecord s id j f ids, found]
    refine ⟨_, rfl, ?_⟩
    dsimp only
    split
    · exact hf p
    · exact FinalFollows.refl p

theorem finalsOf_settleOn {l : List Nat} {id : Nat} (tested : id ∈ l) (s : State) (d : Drain) :
    FinalsOf l s (s.settleOn id d) := by
  unfold State.settleOn
  split
  · rename_i b _
    have abandoned : FinalsOf l s (s.updSection id d fun x => { x with abandoned := x.abandoned + b.header.count }) :=
      finalsOf_updRecord tested fun p => ⟨rfl, fun e => by cases d <;> cases e <;> rfl⟩
    exact ⟨abandoned.list, abandoned.others, abandoned.missing, abandoned.records⟩
  · exact FinalsOf.refl l s

theorem finalsOf_notify {l : List Nat} (s : State) (n : Notice) : FinalsOf l s (s.notify n) :=
  ⟨rfl, fun _ _ => rfl, fun _ h => h, fun _ p found => ⟨p, found, FinalFollows.refl p⟩⟩

theorem finalsOf_makeFinal {l : List Nat} {id : Nat} (tested : id ∈ l) (s : State) : FinalsOf l s (s.makeFinal id false) := by
  have settled := ((finalsOf_settleOn tested s .a).trans (finalsOf_settleOn tested _ .b)).trans
    (finalsOf_updRecord (s := (s.settleOn id .a).settleOn id .b)
      (f := fun r => { r with state := .final, earlyFinal := r.earlyFinal || false }) tested fun p =>
        ⟨by simp only [Bool.or_false], fun _ => rfl⟩)
  unfold State.makeFinal
  dsimp only
  split
  · exact settled.trans (finalsOf_notify ..)
  · exact settled

theorem finalsOf_finalTest {l : List Nat} {id : Nat} (tested : id ∈ l) (s : State) : FinalsOf l s (s.finalTest id) := by
  unfold State.finalTest
  split
  · split
    · exact finalsOf_makeFinal tested s
    · exact FinalsOf.refl l s
  · exact FinalsOf.refl l s

theorem finalsOf_runAll (l : List Nat) (s : State) : FinalsOf l s (runAll (fun id s => s.finalTest id) l s) := by
  have run (xs : List Nat) (within : ∀ id ∈ xs, id ∈ l) (s : State) :
      FinalsOf l s (runAll (fun id s => s.finalTest id) xs s) := by
    induction xs generalizing s with
    | nil => exact FinalsOf.refl l s
    | cons x xs ih =>
      exact (finalsOf_finalTest (within x List.mem_cons_self) s).trans (ih (fun id h => within id (List.mem_cons_of_mem _ h)) _)
  exact run l (fun _ h => h) s

theorem FinalsOf.liveOn {l : List Nat} {s t : State} (h : FinalsOf l s t) (d : Drain) (id : Nat) :
    t.liveOn d id = s.liveOn d id := by
  cases found : s.record? id with
  | none => rw [State.liveOn, State.liveOn, h.missing id found, found]
  | some p =>
    obtain ⟨q, hq, follows⟩ := h.records id p found
    rw [liveOn_found hq, liveOn_found found, follows.live]

theorem FinalsOf.currentTake {l : List Nat} {s t : State} (h : FinalsOf l s t) (d : Drain) :
    t.currentTake d = s.currentTake d := currentTake_congr h.list fun id _ => h.liveOn d id

/-! ## The sweep (R109) -/

/-- The sweep before the drains move on: the takes with nothing live have left the list and been tested for FINAL. -/
def State.swept (s : State) : State :=
  runAll (fun id s => s.finalTest id) (s.delivery.list.filter fun id => !s.stillDelivering id)
    (s.modDelivery fun e => { e with list := e.list.filter fun id => s.stillDelivering id })

section
variable (s : State)

theorem sweepList_eq : s.sweepList = s.swept.activate := rfl

theorem finalsOf_swept : FinalsOf (s.delivery.list.filter fun id => !s.stillDelivering id)
    (s.modDelivery fun e => { e with list := e.list.filter fun id => s.stillDelivering id }) s.swept :=
  finalsOf_runAll _ _

theorem sweepList_list : s.sweepList.delivery.list = s.delivery.list.filter fun id => s.stillDelivering id := by
  rw [sweepList_eq, activate_delivery, (finalsOf_swept s).list]
  rfl

theorem sweepList_liveOn (d : Drain) (id : Nat) : s.sweepList.liveOn d id = s.liveOn d id := by
  rw [sweepList_eq, liveOn_activate, (finalsOf_swept s).liveOn]
  rfl

theorem sweepList_stillDelivering (id : Nat) : s.sweepList.stillDelivering id = s.stillDelivering id := by
  simp only [stillDelivering_eq, sweepList_liveOn]

/-- The takes that leave the list are no drain's current take, so no drain moves. -/
theorem swept_currentTake (d : Drain) : s.swept.currentTake d = s.currentTake d := by
  rw [(finalsOf_swept s).currentTake, currentTake_eq, currentTake_eq]
  refine List.find?_filter.trans (List.find?_congr fun id _ => ?_)
  rw [Bool.eq_iff_iff, decide_eq_true_iff]
  exact and_iff_right_of_imp stillDelivering_of_liveOn

theorem sweepList_currentTake (d : Drain) : s.sweepList.currentTake d = s.currentTake d := by
  rw [sweepList_eq, activate_currentTake, swept_currentTake]

/-- A take that still has a live section, or is not listed, is left by the sweep, but for the drains moving on to it. -/
theorem sweepList_record?_kept {id : Nat} (h : s.stillDelivering id = true ∨ id ∉ s.delivery.list) :
    s.sweepList.record? id = (s.record? id).map fun p => p.movedOn s := by
  have untested : id ∉ s.delivery.list.filter fun id => !s.stillDelivering id := by
    rintro tested
    obtain ⟨listed, ended⟩ := List.mem_filter.1 tested
    rcases h with live | unlisted
    · rw [live] at ended
      cases ended
    · exact unlisted listed
  rw [sweepList_eq, record?_activate, (finalsOf_swept s).others id untested]
  simp only [record_movedOn_congr (swept_currentTake s)]
  rfl

theorem sweepList_record?_live {s : State} {id : Nat} {p : TakeRecord} (found : s.record? id = some p)
    (live : p.live = true) : s.sweepList.record? id = some (p.movedOn s.sweepList) := by
  rw [sweepList_record?_kept s (.inl ((stillDelivering_found found).trans live)), found, Option.map_some,
    record_movedOn_congr (sweepList_currentTake s)]

/-- Every record after the sweep: its state, and its sections by the drains moving on and by the blocks that FINAL settles. -/
theorem sweepList_record? {id : Nat} {p : TakeRecord} (found : s.record? id = some p) :
    ∃ q, s.sweepList.record? id = some q ∧ FinalFollows (p.movedOn s) q := by
  obtain ⟨q, hq, follows⟩ := (finalsOf_swept s).records id p found
  have moved := record_movedOn_congr (swept_currentTake s)
  refine ⟨q.movedOn s, ?_, ?_, fun d => ?_⟩
  · rw [sweepList_eq, record?_activate, hq, Option.map_some, moved]
  · rw [follows.same]
    rfl
  · have id_eq : q.id = p.id := by rw [follows.same]
    rw [movedOn_sections, movedOn_sections, follows.sections, id_eq]
    rfl

/-- A drain without a block in flight is left by the sweep. -/
theorem Sweeps.drain_idle {s t : State} (h : Sweeps s t) {d : Drain} (idle : (s.drain d).inFlight = none) :
    t.drain d = s.drain d := by
  rw [(h.drains d).1, (h.drains d).2 idle, ← idle]

/-- On a drain without a block in flight the sweep changes a section by moving on alone. -/
theorem sweepList_section_idle {id : Nat} {p q : TakeRecord} (found : s.record? id = some p)
    (after : s.sweepList.record? id = some q) {d : Drain} (idle : (s.drain d).inFlight = none) :
    q.sections.get d = (p.movedOn s).sections.get d := by
  obtain ⟨r, hr, follows⟩ := sweepList_record? s found
  obtain ⟨r', hr', -, kept⟩ := (sweeps_sweepList s).records id p found
  obtain rfl := Option.some.inj (after.symm.trans hr)
  obtain rfl := Option.some.inj (after.symm.trans hr')
  rw [follows.sections, kept d idle, movedOn_sections]
  rfl

end

/-! ## The sweep in the words of the statements -/

section
variable {s u : State}

/-- The sweep of a machine that differs from `s` in one take's record: what it leaves of the others. -/
theorem othersMovedOn_sweepList {id : Nat} (list : u.delivery.list = s.delivery.list)
    (records : ∀ j, j ≠ id → u.record? j = s.record? j) : OthersMovedOn s u.sweepList id := by
  intro p other found
  have before : u.record? p.id = some p := (records _ other).trans found
  obtain ⟨q, hq, follows⟩ := sweepList_record? u before
  refine ⟨q, hq, by rw [follows.same]; rfl, fun kept => ?_⟩
  have left := sweepList_record?_kept u (id := p.id)
    (kept.imp (fun live => (stillDelivering_found before).trans live) fun unlisted => by rwa [list])
  rw [before, hq, Option.map_some] at left
  rw [Option.some.inj left, record_movedOn_congr (sweepList_currentTake u)]

theorem listSwept_sweepList (list : u.delivery.list = s.delivery.list) : ListSwept s u.sweepList := by
  intro id
  rw [sweepList_list, List.mem_filter, ← sweepList_stillDelivering, list]
  refine and_congr_right fun _ => ?_
  cases found : u.sweepList.record? id with
  | none =>
    rw [State.stillDelivering, found]
    simp
  | some q =>
    rw [stillDelivering_found found]
    simp

end

end Sys2Proof.Machine
end

section
/-! SUPPORT. The sample read and the forming of a block: which positions a read answers with (R61), when the port and the take
allow a block (R116, R117), what sending one leaves (R118), and the test for DONE where none is formed (R117). -/

namespace Sys2Proof.Machine

/-! ## The sample read (R61) -/

theorem read_groups (r : Ring) (a n : Nat) (mask : TrackSet) : (r.read a n mask).groups =
    ((List.range n).filter fun i => decide (r.p - 2097152 ≤ a + i ∧ a + i < r.p)).map fun i => r.group mask (a + i) := by
  have inside : (r.retains ∘ fun i => a + i) = fun i => decide (r.p - 2097152 ≤ a + i ∧ a + i < r.p) := by
    funext i
    rw [Bool.eq_iff_iff, decide_eq_true_iff, Function.comp_apply, retains_iff]
  rw [Ring.read, Ring.retainedRun, List.filter_map, List.map_map, inside]
  rfl

/-! ## When a block is formed (R116, R117) -/

theorem mayForm_iff (x : DrainState) : x.mayForm = true ↔
    x.settings.enabled = true ∧ x.linkUp = true ∧ x.hold = false ∧ x.inFlight = none := by
  simp only [DrainState.mayForm, Bool.and_eq_true, Bool.not_eq_true', Option.isNone_iff_eq_none, and_assoc]

/-- How many sample periods the next block is to hold: the block length, or what is left of a closed take (R117). -/
def wantedCount (blockLength : Nat) (r : TakeRecord) (x : Section) : Nat :=
  match r.endPos with
  | none => blockLength
  | some e => min (e - x.formation) blockLength

theorem wantedCount_ended {blockLength : Nat} {r : TakeRecord} {x : Section} (ended : r.endPos = some x.formation) :
    wantedCount blockLength r x = 0 := by
  unfold wantedCount
  rw [ended]
  dsimp only
  rw [Nat.sub_self, Nat.zero_min]

/-- The count that is formed is the count that is wanted, or none of an open take that has fewer. -/
theorem blockCount_eq (p blockLength : Nat) (r : TakeRecord) (x : Section) :
    blockCount p blockLength r x =
      if r.endPos = none ∧ p - x.formation < blockLength then 0 else wantedCount blockLength r x := by
  unfold blockCount wantedCount
  cases r.endPos with
  | some e => rfl
  | none =>
    dsimp only
    by_cases short : p - x.formation < blockLength
    · rw [if_neg (Nat.not_le.2 short), if_pos ⟨rfl, short⟩]
    · rw [if_pos (Nat.not_lt.1 short), if_neg fun k => short k.2]

section
variable {s : State} {d : Drain} {id : Nat} {r : TakeRecord}

theorem nextBlock_shut (shut : (s.drain d).mayForm = false) : s.nextBlock d = none := by
  unfold State.nextBlock
  rw [shut]
  rfl

theorem nextBlock_idle (idle : s.currentTake d = none) : s.nextBlock d = none := by
  unfold State.nextBlock State.currentRecord
  rw [idle]
  exact ite_self _

theorem nextBlock_current (may : (s.drain d).mayForm = true) (current : s.currentTake d = some id)
    (found : s.record? id = some r) {n : Nat}
    (count : blockCount s.ring.p (s.drain d).settings.blockLength r (r.sections.get d) = n) : s.nextBlock d =
      if n = 0 then none
      else if (s.ring.read (r.sections.get d).formation n r.mask).short = true then none
      else some (r, formedBlock (s.drain d) r (r.sections.get d) n
        (s.ring.read (r.sections.get d).formation n r.mask).groups) := by
  unfold State.nextBlock State.currentRecord
  rw [if_pos may, current]
  dsimp only
  rw [found]
  dsimp only
  rw [count]

/-- A wanted count that P has reached, of positions that are retained, is formed. -/
theorem nextBlock_formed (may : (s.drain d).mayForm = true) (current : s.currentTake d = some id)
    (found : s.record? id = some r) {n : Nat}
    (wanted : wantedCount (s.drain d).settings.blockLength r (r.sections.get d) = n) (some_wanted : 0 < n)
    (reached : (r.sections.get d).formation + n ≤ s.ring.p) (retained : s.ring.p - 2097152 ≤ (r.sections.get d).formation) :
    s.nextBlock d = some (r, formedBlock (s.drain d) r (r.sections.get d) n
      ((List.range n).map fun i => s.ring.group r.mask ((r.sections.get d).formation + i))) := by
  have enough : ¬(r.endPos = none ∧ s.ring.p - (r.sections.get d).formation < (s.drain d).settings.blockLength) := by
    rintro ⟨opened, short⟩
    simp only [wantedCount, opened] at wanted
    omega
  rw [nextBlock_current may current found ((blockCount_eq ..).trans ((if_neg enough).trans wanted)),
    if_neg some_wanted.ne', read_retained s.ring r.mask retained reached]
  rfl

/-- A wanted count that P has not reached, or whose positions have left the ring, is not formed (R61, R117). -/
theorem nextBlock_short (may : (s.drain d).mayForm = true) (current : s.currentTake d = some id)
    (found : s.record? id = some r) {n : Nat}
    (wanted : wantedCount (s.drain d).settings.blockLength r (r.sections.get d) = n) (some_wanted : 0 < n)
    (outside : s.ring.p < (r.sections.get d).formation + n ∨ (r.sections.get d).formation < s.ring.p - 2097152) :
    s.nextBlock d = none := by
  by_cases few : r.endPos = none ∧ s.ring.p - (r.sections.get d).formation < (s.drain d).settings.blockLength
  · rw [nextBlock_current may current found ((blockCount_eq ..).trans (if_pos few)), if_pos rfl]
  · have short := (read_short s.ring (r.sections.get d).formation n r.mask).2 ⟨some_wanted, outside.symm⟩
    rw [nextBlock_current may current found ((blockCount_eq ..).trans ((if_neg few).trans wanted)),
      if_neg some_wanted.ne', if_pos short]

/-- With nothing wanted, or too little of an open take, none is formed. -/
theorem nextBlock_none (current : s.currentTake d = some id) (found : s.record? id = some r)
    (nothing : blockCount s.ring.p (s.drain d).settings.blockLength r (r.sections.get d) = 0) : s.nextBlock d = none := by
  cases may : (s.drain d).mayForm with
  | false => exact nextBlock_shut may
  | true => rw [nextBlock_current may current found nothing, if_pos rfl]

/-- FORM_BLOCK without a block leaves the machine where the port allows none, or the drain has no take. -/
theorem takeForm_idle (h : (s.drain d).mayForm = false ∨ s.currentTake d = none) : s.takeForm d = s := by
  have none_formed : s.nextBlock d = none := h.elim nextBlock_shut nextBlock_idle
  unfold State.takeForm
  rw [none_formed]
  rcases h with shut | idle
  · exact if_neg (by rw [shut]; nofun)
  · unfold State.testExhausted
    rw [idle]
    exact (ite_congr rfl (fun _ => by cases (s.drain d).inFlight <;> rfl) fun _ => rfl).trans (ite_self s)

/-- FORM_BLOCK without a block tests the drain's take for DONE (R117). -/
theorem takeForm_settles (may : (s.drain d).mayForm = true) (current : s.currentTake d = some id)
    (none_formed : s.nextBlock d = none) : s.takeForm d = s.settleDone id d := by
  unfold State.takeForm State.testExhausted
  rw [none_formed, if_pos may, ((mayForm_iff _).1 may).2.2.2, current]

/-! ## The test for DONE (R117) -/

/-- On a drain without a block in flight a live section of a closed take is DONE where its cursor stands at the end. -/
theorem testDone_done (found : s.record? id = some r) (idle : (s.drain d).inFlight = none) (closed : r.state ≠ .opened)
    (live : (r.sections.get d).live = true) (reached : r.endPos = some (r.sections.get d).formation) :
    s.testDone id d = s.updSection id d fun x => { x with state := .done } := by
  unfold State.testDone
  rw [found]
  refine if_pos ⟨closed, live, reached, ?_⟩
  rw [idle]
  rfl

/-- A section whose take is open, or whose cursor stands elsewhere than at the end, is left by the test. -/
theorem testDone_left (found : s.record? id = some r)
    (short : r.state = .opened ∨ r.endPos ≠ some (r.sections.get d).formation) : s.testDone id d = s := by
  unfold State.testDone
  rw [found]
  refine if_neg ?_
  rintro ⟨closed, -, reached, -⟩
  exact short.elim closed fun other => other reached

/-! ## Sending a block (R118, R125) -/

/-- A section after its block has been formed. -/
def Section.sent (x : Section) (n : Nat) : Section :=
  { x with formation := x.formation + n, nextSeq := (x.nextSeq + 1) % 4294967296, gapPending := false }

/-- The machine with a block in flight, before the drain's stall ends. -/
def State.blockSent (s : State) (d : Drain) (id : Nat) (b : Block) : State :=
  (s.updSection id d fun x => x.sent b.header.count).modDrain d fun x => { x with gapEpisode := false, inFlight := some b }

theorem sendBlock_eq (s : State) (d : Drain) (r : TakeRecord) (b : Block) :
    s.sendBlock d r b = (s.blockSent d r.id b).endStall d := rfl

theorem settleStallCondition_takes (s : State) : s.settleStallCondition.takes = s.takes := by
  unfold State.settleStallCondition
  split <;> rfl

theorem settleStallCondition_delivery (s : State) : s.settleStallCondition.delivery = s.delivery := by
  unfold State.settleStallCondition
  split <;> rfl

theorem endStall_takes (s : State) (d : Drain) : (s.endStall d).takes = s.takes := by
  unfold State.endStall
  split
  · rw [settleStallCondition_takes]
    rfl
  · rfl

/-- The end of a stall clears the drain's stalled flag, and no more of the delivery engine. -/
theorem endStall_delivery (s : State) (d : Drain) :
    (s.endStall d).delivery = (s.modDrain d fun x => { x with stalled := false }).delivery := by
  unfold State.endStall
  split
  · rw [settleStallCondition_delivery]
  · rename_i going
    have same : { s.drain d with stalled := false } = s.drain d := by rw [← Bool.eq_false_iff.2 going]
    cases d
    · exact congrArg (fun x => { s.delivery with drains := { s.delivery.drains with a := x } }) same.symm
    · exact congrArg (fun x => { s.delivery with drains := { s.delivery.drains with b := x } }) same.symm

/-- DRAIN STALLED clears with the last stall (R125, R175). -/
theorem endStall_conds {s : State} {d : Drain} (stalled : (s.drain d).stalled = true)
    (others : ∀ o, o ≠ d → (s.drain o).stalled = false) : (s.endStall d).link.conds.drainStalled = false := by
  have flowing : (s.modDrain d fun x => { x with stalled := false }).noDrainStalled = true := by
    cases d
    · have b := others .b nofun
      simp only [State.noDrainStalled, State.drain_modDrain_same, State.drain_modDrain_other s .a .b _ nofun, b]
      rfl
    · have a := others .a nofun
      simp only [State.noDrainStalled, State.drain_modDrain_same, State.drain_modDrain_other s .b .a _ nofun, a]
      rfl
  rw [State.endStall, if_pos stalled, State.settleStallCondition, if_pos flowing]
  rfl

theorem sendBlock_record? (s : State) (d : Drain) (r : TakeRecord) (b : Block) (id : Nat) :
    (s.sendBlock d r b).record? id = (s.record? id).map fun p =>
      if p.id = r.id then { p with sections := p.sections.modify d fun x => x.sent b.header.count } else p := by
  rw [sendBlock_eq, State.record?, endStall_takes]
  exact record?_updSection s r.id id d _

theorem sendBlock_delivery (s : State) (d : Drain) (r : TakeRecord) (b : Block) : (s.sendBlock d r b).delivery =
    (s.modDrain d fun x => { x with gapEpisode := false, stalled := false, inFlight := some b }).delivery := by
  rw [sendBlock_eq, endStall_delivery]
  cases d <;> rfl

theorem confined_eq_of_binding {s t : State} (h : Confined s t) (binding : t.binding = s.binding) :
    t = { s with link := t.link, takes := t.takes, delivery := t.delivery } := by
  have eq := h.eq
  rwa [binding] at eq

theorem endStall_binding (s : State) (d : Drain) : (s.endStall d).binding = s.binding := by
  unfold State.endStall State.settleStallCondition
  split
  · split <;> rfl
  · rfl

end

/-! ## FORM_BLOCK -/

/-- A block formed: what stands in the drain, the record and the line after it. -/
theorem takeForm_sends {s : State} {d : Drain} {id : Nat} {r : TakeRecord} {b : Block} (found : s.record? id = some r)
    (formed : s.nextBlock d = some (r, b)) : s.takeForm d = s.sendBlock d r b
      ∧ (s.takeForm d).record? id = some { r with sections := r.sections.modify d fun x => x.sent b.header.count }
      ∧ (∀ other, other ≠ id → (s.takeForm d).record? other = s.record? other)
      ∧ (s.takeForm d).drain d = { s.drain d with gapEpisode := false, stalled := false, inFlight := some b }
      ∧ (∀ o, o ≠ d → (s.takeForm d).drain o = s.drain o) ∧ (s.takeForm d).delivery.list = s.delivery.list := by
  have run : s.takeForm d = s.sendBlock d r b := by
    unfold State.takeForm
    rw [formed]
  have drains (o : Drain) : (s.takeForm d).drain o =
      (s.modDrain d fun x => { x with gapEpisode := false, stalled := false, inFlight := some b }).drain o := by
    rw [run, State.drain, sendBlock_delivery]
    rfl
  have ids := record?_id found
  refine ⟨run, ?_, fun other ne => ?_, ?_, fun o ne => ?_, ?_⟩
  · rw [run, sendBlock_record?, found, Option.map_some, if_pos rfl]
  · rw [run, sendBlock_record?]
    cases there : s.record? other with
    | none => rfl
    | some p => rw [Option.map_some, if_neg fun same => ne ((record?_id there).symm.trans (same.trans ids))]
  · rw [drains, State.drain_modDrain_same]
  · rw [drains, State.drain_modDrain_other _ _ _ _ ne]
  · rw [run, sendBlock_delivery]
    rfl

theorem exec_formBlock (s : State) (d : Drain) : exec (.formBlock d) s = .next (s.takeForm d) := rfl

/-- Settles O41: a block is formed and sent, or none is, and then the sweep after the test for DONE is all that happens. -/
theorem formBlockSendsABlock : Obligations.FormBlockSendsABlock := by
  unfold Obligations.FormBlockSendsABlock
  refine ⟨fun ring a n mask group groups => ⟨?read, read_short ring a n mask⟩, fun s d shut => ?shut,
    fun s d id r x current found hx enabled up free idle => ?_⟩
  case read =>
    rw [read_groups, show ring.group mask = group from (funext groups).symm]
  case shut =>
    have none_allowed : (s.drain d).mayForm = false ∨ s.currentTake d = none := by
      rw [← Bool.not_eq_true, mayForm_iff]
      rcases shut with h | h | h | h | h
      · exact .inl fun k => absurd (h.symm.trans k.1) nofun
      · exact .inl fun k => absurd (h.symm.trans k.2.1) nofun
      · exact .inl fun k => absurd (h.symm.trans k.2.2.1) nofun
      · exact .inl fun k => h k.2.2.2
      · exact .inr h
    rw [exec_formBlock, takeForm_idle none_allowed]
    exact ⟨none_allowed.elim nextBlock_shut nextBlock_idle, rfl⟩
  subst hx
  have may := (mayForm_iff (s.drain d)).2 ⟨enabled, up, free, idle⟩
  obtain ⟨listed, live⟩ := currentTake_some current
  rw [liveOn_found found] at live
  obtain rfl := record?_id found
  refine ⟨fun n wanted some_wanted reached retained => ?formed, fun n wanted some_wanted outside => ?outside,
    fun opened unended few => ?few, fun closed ended => ?done⟩
  case formed =>
    have formed := nextBlock_formed may current found wanted.symm some_wanted reached retained
    obtain ⟨run, record, others, drain, drains, list⟩ := takeForm_sends found formed
    refine ⟨by rw [formed]; rfl, s.takeForm d, _, _, rfl, by rw [drain], rfl, rfl, ?_, rfl, record,
      by rw [PerDrain.get_modify_same]; rfl, rfl, fun o ne => PerDrain.get_modify_other _ _ _ _ ne, others, drain, drains,
      list, fun flowing stalled => ?_, ?_⟩
    · simp only [formedBlock, beq_eq_decide]
    · rw [run, sendBlock_eq]
      refine endStall_conds ?_ fun o ne => ?_
      · rwa [State.blockSent, State.drain_modDrain_same]
      · rw [State.blockSent, State.drain_modDrain_other _ _ _ _ ne]
        exact flowing o ne
    · refine confined_eq_of_binding (confined_takeForm s d) ?_
      rw [run, sendBlock_eq, endStall_binding]
      rfl
  case outside =>
    have none_formed := nextBlock_short may current found wanted.symm some_wanted outside
    have short : r.endPos ≠ some (r.sections.get d).formation := by
      intro reached
      have := wanted.trans (wantedCount_ended reached)
      omega
    have run : s.takeForm d = s.sweepList := by
      rw [takeForm_settles may current none_formed, State.settleDone, testDone_left found (.inr short)]
    rw [exec_formBlock, run]
    refine ⟨none_formed, s.sweepList, rfl, (sweeps_sweepList s).drain_idle idle, ?_, fun o _ => ?_,
      othersMovedOn_sweepList rfl fun _ _ => rfl, listSwept_sweepList rfl, (sweeps_sweepList s).eq⟩
    · exact sweepList_record?_live found (live_of_section live)
    · exact (sweeps_sweepList s).drain_idle
  case few =>
    have nothing : blockCount s.ring.p (s.drain d).settings.blockLength r (r.sections.get d) = 0 := by
      rw [blockCount_eq]
      split
      · rfl
      · rename_i enough
        have : ¬s.ring.p - (r.sections.get d).formation < (s.drain d).settings.blockLength := fun k => enough ⟨unended, k⟩
        simp only [wantedCount, unended]
        omega
    have run : s.takeForm d = s.sweepList := by
      rw [takeForm_settles may current (nextBlock_none current found nothing), State.settleDone,
        testDone_left found (.inl opened)]
    rw [exec_formBlock, run]
    refine ⟨s.sweepList, _, rfl, (sweeps_sweepList s).drain_idle idle, sweepList_record?_live found (live_of_section live), ?_⟩
    rw [movedOn_sections, movedOn_live]
    exact ⟨rfl, rfl, live⟩
  case done =>
    have nothing : blockCount s.ring.p (s.drain d).settings.blockLength r (r.sections.get d) = 0 := by
      rw [blockCount_eq, if_neg (by rw [ended]; exact fun k => absurd k.1 nofun), wantedCount_ended ended]
    have none_formed := nextBlock_none current found nothing
    have run : s.takeForm d = (s.updSection r.id d fun x => { x with state := .done }).sweepList := by
      rw [takeForm_settles may current none_formed, State.settleDone, testDone_done found idle closed live ended]
    rw [exec_formBlock, run]
    generalize after : s.updSection r.id d (fun x => { x with state := .done }) = u
    have record : u.record? r.id = some { r with sections := r.sections.modify d fun x => { x with state := .done } } := by
      rw [← after, record?_updSection, found, Option.map_some, if_pos rfl]
    have list : u.delivery.list = s.delivery.list := by rw [← after]; rfl
    have idle' : (u.drain d).inFlight = none := by rw [← after]; exact idle
    obtain ⟨q, hq, -⟩ := sweepList_record? u record
    refine ⟨none_formed, u.sweepList, q, rfl, ?_, hq, ?_, fun others_over => ?_, fun ⟨o, ne, going⟩ => ?_, ?_⟩
    · rw [(sweeps_sweepList u).drain_idle idle', ← after]
      rfl
    · rw [sweepList_section_idle u record hq idle', movedOn_sections, PerDrain.get_modify_same]
      exact section_movedOn_of_not fun k => absurd k.1 nofun
    · rw [sweepList_list, List.mem_filter, stillDelivering_found record, live_iff]
      rintro ⟨-, o, going⟩
      by_cases same : o = d
      · subst same
        rw [PerDrain.get_modify_same] at going
        cases going
      · rw [PerDrain.get_modify_other _ _ _ _ same, others_over o same] at going
        cases going
    · rw [sweepList_list, List.mem_filter, stillDelivering_found record, live_iff, list]
      exact ⟨listed, o, by rwa [PerDrain.get_modify_other _ _ _ _ ne]⟩
    · rw [(sweeps_sweepList u).eq, ← after]
      rfl

end Sys2Proof.Machine
end

section
/-! SUPPORT. A roll that opens a take: how the delivery list and the table make room (R77, R78, R109, R129), the state in which
the take has entered and the drains move on to it (R111), and what an older record keeps through it. -/

namespace Sys2Proof.Machine

/-! ## Eviction (R77) -/

theorem find?_eraseP_of_not {α : Type} {p q : α → Bool} (h : ∀ a, p a = true → q a = false) (l : List α) :
    (l.eraseP p).find? q = l.find? q := by
  induction l with
  | nil => rfl
  | cons a l ih =>
    cases hp : p a with
    | true => rw [List.eraseP_cons_of_pos hp, List.find?_cons, h a hp]
    | false =>
      rw [List.eraseP_cons_of_neg (by rw [hp]; nofun), List.find?_cons, List.find?_cons, ih]

/-- A record whose window closes (R91), before its time where it leaves the table (R77). -/
def TakeRecord.madeFinal (early : Bool) (r : TakeRecord) : TakeRecord :=
  { r with state := .final, earlyFinal := r.earlyFinal || early }

/-- A record made FINAL leaves the list, the ids of the table and the other records. -/
theorem makeFinal_frame (s : State) (id : Nat) (early : Bool) :
    (s.makeFinal id early).delivery.list = s.delivery.list
    ∧ ((s.makeFinal id early).takes.table.map fun r => r.id) = s.takes.table.map (fun r => r.id)
    ∧ s.link.notices <+: (s.makeFinal id early).link.notices
    ∧ ∀ j, j ≠ id → (s.makeFinal id early).record? j = s.record? j := by
  have settled := (finalsOf_settleOn (List.mem_singleton_self id) s .a).trans
    (finalsOf_settleOn (List.mem_singleton_self id) (s.settleOn id .a) .b)
  have sweeps := (sweeps_settleOn s id .a).trans (sweeps_settleOn _ id .b)
  unfold State.makeFinal
  dsimp only
  generalize (s.settleOn id .a).settleOn id .b = u at *
  have list : (u.updRecord id (TakeRecord.madeFinal early)).delivery.list = s.delivery.list := settled.list
  have ids := (ids_updRecord u id (TakeRecord.madeFinal early) fun _ => rfl).trans sweeps.ids
  have others (j : Nat) (ne : j ≠ id) : (u.updRecord id (TakeRecord.madeFinal early)).record? j = s.record? j :=
    (record?_updRecord_other (f := TakeRecord.madeFinal early) (fun _ => rfl) ne).trans
      (settled.others j fun mem => ne (List.mem_singleton.1 mem))
  split
  · exact ⟨list, ids, sweeps.notices.trans (sweeps_notify (u.updRecord id (TakeRecord.madeFinal early)) _).notices, others⟩
  · exact ⟨list, ids, sweeps.notices, others⟩

section
variable {s : State}

theorem evict_room (room : s.takes.table.length < 16) : s.evict = s := if_pos room

/-- Eviction takes one record out of the table, and leaves every record with another id. -/
theorem evict_frame (s : State) : s.evict.delivery.list = s.delivery.list
    ∧ (s.evict.takes.table.map fun r => r.id).Sublist (s.takes.table.map fun r => r.id)
    ∧ s.link.notices <+: s.evict.link.notices
    ∧ ∀ j, (∀ x, s.evictee = some x → x.id ≠ j) → s.evict.record? j = s.record? j := by
  unfold State.evict
  split
  · exact ⟨rfl, List.Sublist.refl _, List.prefix_rfl, fun _ _ => rfl⟩
  · split
    · exact ⟨rfl, List.Sublist.refl _, List.prefix_rfl, fun _ _ => rfl⟩
    · rename_i x chosen
      have final : (if x.state = .closed then s.makeFinal x.id true else s).delivery.list = s.delivery.list
          ∧ ((if x.state = .closed then s.makeFinal x.id true else s).takes.table.map fun r => r.id) =
            s.takes.table.map (fun r => r.id)
          ∧ s.link.notices <+: (if x.state = .closed then s.makeFinal x.id true else s).link.notices
          ∧ ∀ j, j ≠ x.id → (if x.state = .closed then s.makeFinal x.id true else s).record? j = s.record? j := by
        split
        · exact makeFinal_frame s x.id true
        · exact ⟨rfl, rfl, List.prefix_rfl, fun _ _ => rfl⟩
      generalize (if x.state = .closed then s.makeFinal x.id true else s) = u at final ⊢
      obtain ⟨list, ids, notices, others⟩ := final
      refine ⟨list, ids ▸ (List.eraseP_sublist.map _), notices, fun j stays => ?_⟩
      refine (find?_eraseP_of_not (fun r hit => ?_) u.takes.table).trans (others j (stays x chosen).symm)
      rw [beq_iff_eq] at hit
      rw [beq_eq_false_iff_ne, hit]
      exact stays x chosen

/-- The record that is evicted is that of a take that is not listed (R77). -/
theorem evictee_unlisted {x : TakeRecord} (h : s.evictee = some x) : x.id ∉ s.delivery.list := by
  have := List.find?_some h
  simpa using this

/-- A record behind one of an unlisted take is not the one evicted, where no id stands twice. -/
theorem evictee_ne {older newer : List TakeRecord} {r x y : TakeRecord} (chosen : s.evictee = some y)
    (table : (s.takes.table.map fun q => q.id) = (older ++ r :: newer).map fun q => q.id)
    (nodup : ((older ++ r :: newer).map fun q => q.id).Nodup) (before : x ∈ older) (unlisted : x.id ∉ s.delivery.list) :
    y.id ≠ r.id := by
  have first : (s.takes.table.map fun q => q.id).find? (fun id => !s.delivery.list.contains id) = some y.id := by
    rw [List.find?_map]
    exact congrArg (Option.map fun q => q.id) chosen
  have hit : (!s.delivery.list.contains x.id) = true := by simpa using unlisted
  rw [List.map_append] at table nodup
  rw [table, List.find?_append] at first
  cases among : (older.map fun q => q.id).find? fun id => !s.delivery.list.contains id with
  | none => exact absurd hit (List.find?_eq_none.1 among x.id (List.mem_map_of_mem before))
  | some id =>
    rw [among] at first
    obtain rfl : id = y.id := Option.some.inj first
    have apart := (List.nodup_append.1 nodup).2.2
    exact apart _ (List.mem_of_find?_eq_some among) r.id List.mem_cons_self

end

/-! ## The delivery list makes room (R109, R129) -/

section
variable {s : State}

theorem enterList_room (room : s.delivery.list.length < 4) (id : Nat) :
    s.enterList id = s.modDelivery fun e => { e with list := e.list ++ [id] } := by
  rw [State.enterList, if_pos (show s.delivery.list.length < Config.maxDelivering from room)]

/-- A record's change that keeps its id, followed by the sweep: what stays of the list, the ids and the notices. -/
theorem sweepList_updRecord_frame (s : State) (id : Nat) (f : TakeRecord → TakeRecord) (hid : ∀ r, (f r).id = r.id) :
    (s.updRecord id f).sweepList.delivery.list.Sublist s.delivery.list
    ∧ ((s.updRecord id f).sweepList.takes.table.map fun r => r.id) = s.takes.table.map (fun r => r.id)
    ∧ s.link.notices <+: (s.updRecord id f).sweepList.link.notices :=
  have sweeps := sweeps_sweepList (s.updRecord id f)
  ⟨sweeps.list, sweeps.ids.trans (ids_updRecord s id f hid), sweeps.notices⟩

theorem truncateOldest_frame (s : State) : s.truncateOldest.delivery.list.Sublist s.delivery.list
    ∧ (s.truncateOldest.takes.table.map fun r => r.id) = s.takes.table.map (fun r => r.id)
    ∧ s.link.notices <+: s.truncateOldest.link.notices := by
  unfold State.truncateOldest
  split
  · exact ⟨List.Sublist.refl _, rfl, List.prefix_rfl⟩
  · exact sweepList_updRecord_frame s _ _ fun _ => rfl

/-- A take that enters the list joins it; of the takes before it one may leave. -/
theorem enterList_frame (s : State) (id : Nat) : (∀ j, j ∈ (s.enterList id).delivery.list → j ∈ s.delivery.list ∨ j = id)
    ∧ ((s.enterList id).takes.table.map fun r => r.id) = s.takes.table.map (fun r => r.id)
    ∧ s.link.notices <+: (s.enterList id).link.notices := by
  obtain ⟨list, ids, notices⟩ := truncateOldest_frame s
  unfold State.enterList
  split
  · exact ⟨fun j mem => (List.mem_append.1 mem).imp (fun h => h) List.mem_singleton.1, rfl, List.prefix_rfl⟩
  · exact ⟨fun j mem => (List.mem_append.1 mem).imp (fun h => list.subset h) List.mem_singleton.1, ids, notices⟩

/-- Steps 3 and 4 of a roll: the id is used, and the take enters the list if a drain is enabled (R78). -/
def State.listed (s : State) : State :=
  if s.anyDrainEnabled then (s.modTakes fun t => { t with nextId := followingId t.nextId }).enterList s.takes.nextId
  else s.modTakes fun t => { t with nextId := followingId t.nextId }

theorem rollMakesRoom_eq (s : State) : s.rollMakesRoom = s.listed.evict := rfl

theorem listed_frame (s : State) : (∀ j, j ∈ s.listed.delivery.list → j ∈ s.delivery.list ∨ j = s.takes.nextId)
    ∧ (s.listed.takes.table.map fun r => r.id) = s.takes.table.map (fun r => r.id)
    ∧ s.link.notices <+: s.listed.link.notices := by
  unfold State.listed
  split
  · exact enterList_frame (s.modTakes fun t => { t with nextId := followingId t.nextId }) _
  · exact ⟨fun _ => .inl, rfl, List.prefix_rfl⟩

/-- With room in the list nothing is truncated. -/
theorem listed_room (room : s.delivery.list.length < 4) : s.listed =
    { s with takes := { s.takes with nextId := followingId s.takes.nextId }
             delivery := { s.delivery with
               list := if s.anyDrainEnabled then s.delivery.list ++ [s.takes.nextId] else s.delivery.list } } := by
  unfold State.listed
  split
  · exact enterList_room (s := s.modTakes fun t => { t with nextId := followingId t.nextId }) room _
  · rfl

theorem rollMakesRoom_notices (s : State) : s.link.notices <+: s.rollMakesRoom.link.notices :=
  (listed_frame s).2.2.trans (evict_frame _).2.2.1

/-- No record of the table after it has made room holds an id that none held before. -/
theorem rollMakesRoom_fresh {id : Nat} (fresh : ∀ r ∈ s.takes.table, r.id ≠ id) : s.rollMakesRoom.record? id = none := by
  have ids := (evict_frame s.listed).2.1
  rw [(listed_frame s).2.1, ← rollMakesRoom_eq] at ids
  refine List.find?_eq_none.2 fun r mem hit => ?_
  obtain ⟨p, there, same⟩ := List.mem_map.1 (ids.subset (List.mem_map_of_mem (f := fun r => r.id) mem))
  exact fresh p there (same.trans (beq_iff_eq.1 hit))

end

/-! ## The take enters (R78, R111) -/

/-- The machine in which a new take has entered the table, before the drains move on (R78 steps 6 to 8). -/
def State.takeEntered (s : State) (cause : Cause) (r : Nat) : State :=
  (s.rollMakesRoom.modTakes fun t =>
    { t with table := t.table ++ [s.newRecord cause r], state := .rolling
             lastSlate := some { id := (s.newRecord cause r).id, scene := (s.newRecord cause r).slate.scene
                                 number := (s.newRecord cause r).slate.number } }).modBinding Binding.taken

section
variable {s : State} (cause : Cause) (r : Nat)

theorem rollOpens_eq (s : State) : s.rollOpens cause r =
    (s.takeEntered cause r).activate.notify ((s.newRecord cause r).openNotice s.anyDrainEnabled) := rfl

theorem takeEntered_record? (s : State) (id : Nat) : (s.takeEntered cause r).record? id =
    (s.rollMakesRoom.record? id).or (if s.takes.nextId = id then some (s.newRecord cause r) else none) := by
  refine List.find?_append.trans (congrArg _ ?_)
  rw [List.find?_singleton]
  exact ite_congr (propext beq_iff_eq) (fun _ => rfl) fun _ => rfl

theorem rollOpens_record? (s : State) (id : Nat) : (s.rollOpens cause r).record? id =
    ((s.takeEntered cause r).record? id).map fun p => p.movedOn (s.takeEntered cause r) := by
  rw [rollOpens_eq, notify_record?, record?_activate]

theorem notify_currentTake (s : State) (n : Notice) (d : Drain) : (s.notify n).currentTake d = s.currentTake d := rfl

theorem rollOpens_currentTake (s : State) (d : Drain) :
    (s.rollOpens cause r).currentTake d = (s.takeEntered cause r).currentTake d := by
  rw [rollOpens_eq, notify_currentTake, activate_currentTake]

theorem rollOpens_delivery (s : State) : (s.rollOpens cause r).delivery = s.rollMakesRoom.delivery := by
  rw [rollOpens_eq, notify_delivery, activate_delivery]
  rfl

theorem rollOpens_last (s : State) : (s.rollOpens cause r).takes.table.getLast? =
    some ((s.newRecord cause r).movedOn (s.takeEntered cause r)) := by
  rw [rollOpens_eq, notify_takes, activate_eq]
  refine List.getLast?_map.trans ?_
  rw [State.takeEntered]
  exact congrArg _ List.getLast?_concat

theorem rollOpens_notices (s : State) : s.link.notices <+: (s.rollOpens cause r).link.notices :=
  (rollMakesRoom_notices s).trans (((sweeps_activate (s.takeEntered cause r)).notices).trans (sweeps_notify _ _).notices)

theorem newRecord_section (s : State) (d : Drain) : (s.newRecord cause r).sections.get d =
    newSection (s.drain d).settings.enabled (s.rollStart r) := by cases d <;> rfl

theorem newSection_live (pending : Bool) (start : Nat) : (newSection pending start).live = pending := by
  cases pending <;> rfl

theorem anyDrainEnabled_of {d : Drain} (enabled : (s.drain d).settings.enabled = true) : s.anyDrainEnabled = true := by
  rw [State.anyDrainEnabled, Bool.or_eq_true]
  cases d
  · exact .inl enabled
  · exact .inr enabled

section
variable (room : s.delivery.list.length < 4) (unlisted : s.takes.nextId ∉ s.delivery.list)
  (fresh : ∀ r ∈ s.takes.table, r.id ≠ s.takes.nextId)
include room

/-- With room in the list the new take joins it at its end if a drain is enabled. -/
theorem rollMakesRoom_list : s.rollMakesRoom.delivery.list =
    if s.anyDrainEnabled = true then s.delivery.list ++ [s.takes.nextId] else s.delivery.list := by
  rw [rollMakesRoom_eq, (evict_frame _).1, listed_room room]

/-- With room in the list no listed take loses its record: eviction takes that of an unlisted one. -/
theorem rollMakesRoom_record?_listed {id : Nat} (mem : id ∈ s.delivery.list) :
    s.rollMakesRoom.record? id = s.record? id := by
  have entered : id ∈ s.listed.delivery.list := by
    rw [listed_room room]
    dsimp only
    split
    · exact List.mem_append_left _ mem
    · exact mem
  rw [rollMakesRoom_eq, (evict_frame s.listed).2.2.2 id fun x chosen same =>
    evictee_unlisted chosen (same ▸ entered), listed_room room]
  rfl

omit room in
include fresh in
theorem takeEntered_new : (s.takeEntered cause r).record? s.takes.nextId = some (s.newRecord cause r) := by
  rw [takeEntered_record?, rollMakesRoom_fresh fresh, if_pos rfl]
  rfl

include unlisted fresh

/-- After the take has entered, each drain stays on its current take, or takes the new one if it is enabled (R111). -/
theorem takeEntered_currentTake (d : Drain) : (s.takeEntered cause r).currentTake d =
    (s.currentTake d).or (if (s.drain d).settings.enabled = true then some s.takes.nextId else none) := by
  have older : s.delivery.list.find? ((s.takeEntered cause r).liveOn d) = s.currentTake d := by
    rw [currentTake_eq]
    refine List.find?_congr fun id mem => ?_
    have other : s.takes.nextId ≠ id := fun same => unlisted (same ▸ mem)
    unfold State.liveOn
    rw [takeEntered_record?, rollMakesRoom_record?_listed room mem, if_neg other, Option.or_none]
  have newer : (s.takeEntered cause r).liveOn d s.takes.nextId = (s.drain d).settings.enabled := by
    rw [liveOn_found (takeEntered_new cause r fresh), newRecord_section, newSection_live]
  have list : (s.takeEntered cause r).delivery.list = s.rollMakesRoom.delivery.list := rfl
  rw [currentTake_eq, list, rollMakesRoom_list room]
  split
  · rw [List.find?_append, older, List.find?_singleton, newer]
  · rename_i off
    rw [older, if_neg fun enabled => off (anyDrainEnabled_of enabled), Option.or_none]

/-- The sections of the new take: ACTIVE on an enabled drain without another take, PENDING on one with, else OFF (R110). -/
theorem newRecord_movedOn_section (d : Drain) :
    ((s.newRecord cause r).movedOn (s.takeEntered cause r)).sections.get d =
      { state := if (s.drain d).settings.enabled = false then .off
          else if s.currentTake d = none then .active else .pending
        formation := s.rollStart r, confirmed := s.rollStart r, nextSeq := 0, delivered := 0, gapTotal := 0
        abandoned := 0, gaps := [], notListed := 0, gapPending := false, owing := false } := by
  rw [movedOn_sections, newRecord_section, takeEntered_currentTake cause r room unlisted fresh]
  cases (s.drain d).settings.enabled with
  | false => exact section_movedOn_of_not fun pending => absurd pending.1 nofun
  | true =>
    cases current : s.currentTake d with
    | none => exact section_movedOn_of rfl
    | some id =>
      refine section_movedOn_of_not fun pending => unlisted ?_
      obtain rfl : id = s.takes.nextId := Option.some.inj pending.2
      exact (currentTake_some current).1

omit unlisted fresh in
/-- With room in the table too, no record is touched but by the drains moving on, and of the delivery engine the list alone. -/
theorem rollOpens_room (table : s.takes.table.length < 16) :
    (s.rollOpens cause r).delivery = { s.delivery with list := (s.rollOpens cause r).delivery.list }
    ∧ (∀ id, id ≠ s.takes.nextId → (s.rollOpens cause r).record? id =
        (s.record? id).map fun p => p.movedOn (s.rollOpens cause r))
    ∧ (NoticeRoom s → (s.rollOpens cause r).link.notices = s.link.notices ++
        [{ seq := s.link.nextSeq, notice := (s.newRecord cause r).openNotice s.anyDrainEnabled }]) := by
  have whole : s.listed.takes.table.length < 16 := by
    rw [listed_room room]
    exact table
  have listed : s.rollMakesRoom = s.listed := (rollMakesRoom_eq s).trans (evict_room whole)
  refine ⟨?_, fun id other => ?_, fun space => ?_⟩
  · rw [rollOpens_delivery, listed, listed_room room]
  · rw [rollOpens_record?, takeEntered_record?, if_neg other.symm, Option.or_none, listed, listed_room room]
    simp only [record_movedOn_congr (rollOpens_currentTake cause r s)]
    rfl
  · have link : (s.takeEntered cause r).activate.link = s.link := by
      rw [activate_eq, State.takeEntered, listed, listed_room room]
      rfl
    rw [rollOpens_eq, notify_room _ (show (s.takeEntered cause r).activate.link.notices.length < 32 by rwa [link]), link]
    rfl

end

end

/-! ## What an older record keeps through a roll -/

/-- A record that a roll leaves in the table: its state, its truncation and its sections can differ, and it does not open. -/
structure TakeKept (p q : TakeRecord) : Prop where
  same : q = { p with state := q.state, earlyFinal := q.earlyFinal, truncated := q.truncated, sections := q.sections }
  closed : p.state ≠ .opened → q.state ≠ .opened

theorem TakeKept.refl (p : TakeRecord) : TakeKept p p := ⟨rfl, fun h => h⟩

theorem TakeKept.trans {p q r : TakeRecord} (h : TakeKept p q) (k : TakeKept q r) : TakeKept p r := by
  refine ⟨?_, fun closed => k.closed (h.closed closed)⟩
  rw [k.same, h.same]

theorem RecordFollows.takeKept {p q : TakeRecord} (h : RecordFollows p q) : TakeKept p q := by
  refine ⟨?_, fun closed => ?_⟩
  · rw [h.same]
  · rcases h.state with same | ⟨-, final⟩
    · rwa [same]
    · rw [final]
      nofun

section
variable {s : State} {id : Nat} {p : TakeRecord}

theorem truncateOldest_keeps (found : s.record? id = some p) : ∃ q, s.truncateOldest.record? id = some q ∧ TakeKept p q := by
  unfold State.truncateOldest
  split
  · exact ⟨p, found, TakeKept.refl p⟩
  · rename_i j _ _
    have cut := record?_updRecord s j id (fun r : TakeRecord =>
      { r with truncated := true, sections := { a := r.sections.a.truncateAt (r.endPos.getD 0)
                                                b := r.sections.b.truncateAt (r.endPos.getD 0) } }) fun _ => rfl
    rw [found, Option.map_some] at cut
    obtain ⟨q, hq, follows, -⟩ := (sweeps_sweepList _).records id _ cut
    refine ⟨q, hq, TakeKept.trans ?_ follows.takeKept⟩
    split
    · exact ⟨rfl, fun h => h⟩
    · exact TakeKept.refl p

theorem listed_keeps (found : s.record? id = some p) : ∃ q, s.listed.record? id = some q ∧ TakeKept p q := by
  unfold State.listed
  split
  · unfold State.enterList
    split
    · exact ⟨p, found, TakeKept.refl p⟩
    · exact truncateOldest_keeps (s := s.modTakes fun t => { t with nextId := followingId t.nextId }) found
  · exact ⟨p, found, TakeKept.refl p⟩

/-- A record stays in the table through a roll, unless it is the one evicted. -/
theorem rollOpens_keeps (cause : Cause) (r : Nat) (found : s.record? id = some p)
    (stays : ∀ x, s.listed.evictee = some x → s.listed.takes.table.length < 16 ∨ x.id ≠ id) :
    ∃ q, (s.rollOpens cause r).record? id = some q ∧ TakeKept p q := by
  obtain ⟨q, hq, kept⟩ := listed_keeps found
  have left : s.rollMakesRoom.record? id = some q := by
    rw [rollMakesRoom_eq, ← hq]
    by_cases room : s.listed.takes.table.length < 16
    · rw [evict_room room]
    · exact (evict_frame s.listed).2.2.2 id fun x chosen => (stays x chosen).resolve_left room
  refine ⟨q.movedOn (s.takeEntered cause r), ?_, kept.trans ⟨rfl, fun h => h⟩⟩
  rw [rollOpens_record?, takeEntered_record?, left]
  rfl

end

end Sys2Proof.Machine
end

section
/-! SUPPORT. The roll as a request (R78 to R81, R96): the close of the tailing take, what it leaves of the other takes, and the
answers of a ROLL. -/

namespace Sys2Proof.Machine

/-! ## The close, for the other takes (R87) -/

/-- A record whose abandonments left open are counted at its end (R117). -/
def TakeRecord.settleOwing (e : Nat) (r : TakeRecord) : TakeRecord :=
  { r with sections := { a := r.sections.a.settleOwing e, b := r.sections.b.settleOwing e } }

/-- A record with TAIL SHORTENED set (R80). -/
def TakeRecord.shortened (r : TakeRecord) : TakeRecord := { r with tailShortened := true }

section
variable {s : State} {r : TakeRecord}

/-- A close, in its steps: the record, the take state and the notice, and then the end handed over (R87). -/
theorem closeOpen_eq (e : Nat) (opened : s.openRecord? = some r) : s.closeOpen e =
    (((((((s.updRecord r.id (TakeRecord.close (r.closingEnd e) s.takes.caps.window)).modTakes
      fun t => { t with state := .stopped }).notify (r.closNotice (r.closingEnd e) s.takes.caps.window)).updRecord r.id
        (TakeRecord.settleOwing (r.closingEnd e))).testDone r.id .a).testDone r.id .b).sweepList).finalTest r.id := by
  unfold State.closeOpen
  rw [opened]
  rfl

/-- Before a close sweeps the list, it has changed the records of its own take alone. -/
theorem closeOpen_sweeps (e : Nat) (opened : s.openRecord? = some r) : ∃ u : State,
    s.closeOpen e = u.sweepList.finalTest r.id ∧ u.delivery = s.delivery
    ∧ (u.takes.table.map fun q => q.id) = s.takes.table.map (fun q => q.id)
    ∧ ∀ id, id ≠ r.id → u.record? id = s.record? id := by
  have tested (v : State) (d : Drain) : (v.testDone r.id d).delivery = v.delivery
      ∧ ((v.testDone r.id d).takes.table.map fun q => q.id) = v.takes.table.map (fun q => q.id)
      ∧ ∀ id, id ≠ r.id → (v.testDone r.id d).record? id = v.record? id := by
    unfold State.testDone
    split
    · exact ⟨rfl, rfl, fun _ _ => rfl⟩
    · split
      · exact ⟨rfl, ids_updRecord v r.id _ fun _ => rfl, fun id ne => record?_updRecord_other (fun _ => rfl) ne⟩
      · exact ⟨rfl, rfl, fun _ _ => rfl⟩
  rw [closeOpen_eq e opened]
  generalize settled : State.updRecord _ r.id (TakeRecord.settleOwing (r.closingEnd e)) = v
  refine ⟨(v.testDone r.id .a).testDone r.id .b, rfl, ?_, ?_, fun id ne => ?_⟩
  · rw [(tested _ _).1, (tested _ _).1, ← settled]
    rfl
  · rw [(tested _ _).2.1, (tested _ _).2.1, ← settled]
    exact (ids_updRecord _ r.id (TakeRecord.settleOwing _) fun _ => rfl).trans
      (ids_updRecord s r.id (TakeRecord.close _ _) fun _ => rfl)
  · rw [(tested _ _).2.2 id ne, (tested _ _).2.2 id ne, ← settled]
    exact (record?_updRecord_other (f := TakeRecord.settleOwing _) (fun _ => rfl) ne).trans
      (record?_updRecord_other (s := s) (f := TakeRecord.close _ _) (fun _ => rfl) ne)

/-- What a close leaves of the list, the ids, the other takes and the drains (R87, R109, R111). -/
theorem closeOpen_frame (e : Nat) (opened : s.openRecord? = some r) :
    (s.closeOpen e).delivery.list.Sublist s.delivery.list
    ∧ ((s.closeOpen e).takes.table.map fun q => q.id) = s.takes.table.map (fun q => q.id)
    ∧ OthersMovedOn s (s.closeOpen e) r.id
    ∧ ∀ d, (s.drain d).inFlight = none → (s.closeOpen e).drain d = s.drain d := by
  obtain ⟨u, run, delivery, ids, others⟩ := closeOpen_sweeps e opened
  have sweeps := (sweeps_sweepList u).trans (sweeps_finalTest u.sweepList r.id)
  have final := finalsOf_finalTest (List.mem_singleton_self r.id) u.sweepList
  have drain (d : Drain) : u.drain d = s.drain d := congrArg (fun e => e.drains.get d) delivery
  rw [run]
  refine ⟨delivery ▸ sweeps.list, sweeps.ids.trans ids, fun p ne found => ?_, fun d idle => ?_⟩
  · obtain ⟨q, hq, same, kept⟩ := othersMovedOn_sweepList (congrArg Delivery.list delivery) others p ne found
    refine ⟨q, (final.others _ fun mem => ne (List.mem_singleton.1 mem)).trans hq, same, fun left => ?_⟩
    rw [record_movedOn_congr final.currentTake]
    exact kept left
  · rw [sweeps.drain_idle ((drain d).symm ▸ idle), drain]

/-- The tailing take closes at the roll position, or at its cut if that is later, with TAIL SHORTENED set (R80). -/
theorem closeTail_eq (p : Nat) (opened : s.openRecord? = some r) : s.closeTail p =
    (s.updRecord r.id TakeRecord.shortened).closeOpen (max p (r.cut.getD 0)) := by
  unfold State.closeTail
  rw [opened]
  rfl

theorem shortened_open (opened : s.openRecord? = some r) :
    (s.updRecord r.id TakeRecord.shortened).openRecord? = some r.shortened :=
  openRecord?_updRecord (fun _ => rfl) opened

theorem shortened_found (found : s.record? r.id = some r) :
    (s.updRecord r.id TakeRecord.shortened).record? r.id = some r.shortened :=
  record?_updRecord_same (fun _ => rfl) found

/-- What closing the tail leaves of the list, the ids, the other takes and the drains. -/
theorem closeTail_frame (p : Nat) (opened : s.openRecord? = some r) :
    (s.closeTail p).delivery.list.Sublist s.delivery.list
    ∧ ((s.closeTail p).takes.table.map fun q => q.id) = s.takes.table.map (fun q => q.id)
    ∧ OthersMovedOn s (s.closeTail p) r.id
    ∧ ∀ d, (s.drain d).inFlight = none → (s.closeTail p).drain d = s.drain d := by
  obtain ⟨list, ids, others, drains⟩ := closeOpen_frame (max p (r.cut.getD 0)) (shortened_open opened)
  rw [closeTail_eq p opened]
  refine ⟨list, ids.trans (ids_updRecord s r.id _ fun _ => rfl), fun q ne found => ?_, drains⟩
  exact others q ne ((record?_updRecord_other (f := TakeRecord.shortened) (fun _ => rfl) ne).trans found)

end

/-- What closing the tail leaves of the record that was open and in the controller, and the CLOS notice it queues first. -/
theorem closeTail_spec {s : State} {r : TakeRecord} (p : Nat) (opened : s.openRecord? = some r)
    (found : s.record? r.id = some r) {e : Nat} (target : e = r.endRaised (max p (r.cut.getD 0))) :
    (s.closeTail p).takes.nextId = s.takes.nextId ∧ (s.closeTail p).takes.caps = s.takes.caps
    ∧ (NoticeRoom s → s.link.notices ++ [{ seq := s.link.nextSeq
                                           notice := .clos r.id r.cutCause r.cut e (e + s.takes.caps.window) true r.limited
                                             r.events.length r.eventsLost }] <+: (s.closeTail p).link.notices)
    ∧ ∃ q, (s.closeTail p).record? r.id = some q ∧ q.state ≠ .opened ∧ q.tailShortened = true ∧ q.endPos = some e
      ∧ q.windowEnd = some (e + s.takes.caps.window) ∧ q.endTarget = none ∧ q.cut = r.cut ∧ q.slate = r.slate
      ∧ q.events = r.events := by
  have raised : r.shortened.closingEnd (max p (r.cut.getD 0)) = e := (closingEnd_eq r _).trans target.symm
  obtain ⟨q, hq, -, nextId, -, caps, -, closed, endPos, windowEnd, endTarget, cut, -, slate, events, -, -, -, shortened, -,
    notices⟩ := closeOpen_spec (max p (r.cut.getD 0)) (shortened_open opened) (shortened_found found)
  rw [closeTail_eq p opened]
  rw [raised] at endPos windowEnd notices
  refine ⟨nextId, caps, notices, q, hq, ?_, shortened, endPos, windowEnd, endTarget, cut, slate, events⟩
  rcases closed with state | state <;> rw [state] <;> nofun

/-! ## The roll after the close (R80) -/

/-- The table that a roll in TAIL finds leaves the tailing take's record where it is: it has room, or an older record, of a
take that is not listed, goes first. -/
theorem tail_stays {s c : State} {r : TakeRecord}
    (ids : (c.takes.table.map fun q => q.id) = s.takes.table.map fun q => q.id)
    (list : c.delivery.list.Sublist s.delivery.list) (nextId : c.takes.nextId = s.takes.nextId)
    (h : s.takes.table.length < 16 ∨ (((s.takes.table.map fun q => q.id) ++ [s.takes.nextId]).Nodup
      ∧ ∃ older newer x, s.takes.table = older ++ r :: newer ∧ x ∈ older ∧ x.id ∉ s.delivery.list)) :
    ∀ y, c.listed.evictee = some y → c.listed.takes.table.length < 16 ∨ y.id ≠ r.id := by
  obtain ⟨listed, listedIds, -⟩ := listed_frame c
  have all := listedIds.trans ids
  intro y chosen
  rcases h with room | ⟨nodup, older, newer, x, table, before, unlisted⟩
  · have length := congrArg List.length all
    rw [List.length_map, List.length_map] at length
    exact .inl (length ▸ room)
  · rw [table] at all nodup
    refine .inr (evictee_ne chosen all (List.nodup_append.1 nodup).1 before fun mem => ?_)
    rcases listed _ mem with still | new
    · exact unlisted (list.subset still)
    · have member : x.id ∈ (older ++ r :: newer).map fun q => q.id := List.mem_map_of_mem (List.mem_append_left _ before)
      exact (List.nodup_append.1 nodup).2.2 _ member _ (List.mem_singleton_self _) (new.trans nextId)

section
variable {s c : State} {id : Nat} (cause : Cause) (r : Nat)

/-- Another take after a roll that follows a close: the drains that the close moved on to it stay. -/
theorem othersMovedOn_rollOpens (others : OthersMovedOn s c id) (fresh : ∀ x ∈ s.takes.table, x.id ≠ c.takes.nextId)
    (records : ∀ j, j ≠ c.takes.nextId → (c.rollOpens cause r).record? j =
      (c.record? j).map fun p => p.movedOn (c.rollOpens cause r))
    (current : ∀ d j, c.currentTake d = some j → (c.rollOpens cause r).currentTake d = some j) :
    OthersMovedOn s (c.rollOpens cause r) id := by
  intro p ne found
  obtain ⟨q, hq, same, kept⟩ := others p ne found
  refine ⟨q.movedOn (c.rollOpens cause r), ?_, ?_, fun left => ?_⟩
  · rw [records p.id (fresh p (record?_mem found)), hq, Option.map_some]
  · rw [same]
    rfl
  · rw [kept left]
    exact movedOn_movedOn fun d => current d p.id

end

/-! ## The request (R96) -/

section
variable {s : State} (tag : BitVec 8)

theorem rollStart_eq (s : State) (r : Nat) : s.rollStart r = startOf r s.takes.caps.preRoll (s.ring.p - 2097152) := rfl

theorem followingId_eq (id : Nat) : followingId id = if id = 65535 then 1 else id % 65535 + 1 := by
  unfold followingId
  split <;> omega

theorem rollReq_stopped {p : Nat} (cause : Cause) (here : s.ring.p = p) (stopped : s.takes.state = .stopped)
    (armed : s.router.armed ≠ 0) : s.rollReq cause p = (s.rollOpens cause p, .taken s.takes.nextId (s.rollStart p)) := by
  unfold State.rollReq
  rw [stopped]
  dsimp only
  rw [if_neg armed, here, Nat.min_self]
  rfl

theorem rollReq_tail {p : Nat} (cause : Cause) (here : s.ring.p = p) (tail : s.takes.state = .tail)
    (armed : s.router.armed ≠ 0) : s.rollReq cause p =
      ((s.closeTail p).rollOpens cause p, .taken (s.closeTail p).takes.nextId ((s.closeTail p).rollStart p)) := by
  unfold State.rollReq
  rw [tail]
  dsimp only
  rw [if_neg armed, here, Nat.min_self]
  rfl

/-- A ROLL without an armed track, in STOPPED or in TAIL, is refused (R81). -/
theorem reqRoll_unarmed (going : s.takes.state ≠ .rolling) (unarmed : s.router.armed = 0) :
    reqRoll s = refuse s .notArmed := by
  have none_opens : s.rollReq .command s.ring.p = (s, .notArmed) := by
    unfold State.rollReq
    cases state : s.takes.state with
    | rolling => exact absurd state going
    | stopped => exact if_pos unarmed
    | tail => exact if_pos unarmed
  rw [reqRoll, none_opens]
  rfl

/-- A ROLL in ROLLING has no effect (R79). -/
theorem reqRoll_rolling {r : TakeRecord} (rolling : s.takes.state = .rolling) (opened : s.openRecord? = some r) :
    reqRoll s = okAnswer s (.rollAlready r.id r.roll) := by
  have none_opens : s.rollReq .command s.ring.p = (s, .alreadyRolling) := by
    unfold State.rollReq
    rw [rolling]
  rw [reqRoll, none_opens, rollAnswer, State.openId, opened]

/-- A ROLL that opens a take, with room for its reply (R96). -/
theorem exec_roll_taken (room : HasRoom s) {u : State} {id start : Nat}
    (taken : (s.modLink Link.goodFrame).rollReq .command s.ring.p = (u, .taken id start)) :
    exec (.roll tag) s = .next (u.withReply tag .roll .ok (.rollTaken id start s.ring.p)) := by
  have answer : reqRoll (s.modLink Link.goodFrame) = okAnswer u (.rollTaken id start s.ring.p) := by
    refine (congrArg (rollAnswer (s.modLink Link.goodFrame)) taken).trans ?_
    rfl
  refine congrArg Host.Outcome.next ((serve_room tag ReqKind.roll.word reqRoll room).trans ?_)
  rw [answer]
  rfl

theorem withReply_replies (kind : ReqKind) (status : Status) (result : Result) (s : State) :
    (s.withReply tag kind status result).link.replies =
      s.link.replies ++ [{ tag := tag, kind := kind.word, status := status, result := result }] := rfl

theorem withReply_notices (kind : ReqKind) (status : Status) (result : Result) (s : State) :
    (s.withReply tag kind status result).link.notices = s.link.notices := rfl

theorem withReply_drain (kind : ReqKind) (status : Status) (result : Result) (s : State) (d : Drain) :
    (s.withReply tag kind status result).drain d = s.drain d := rfl

theorem withReply_record? (kind : ReqKind) (status : Status) (result : Result) (s : State) (id : Nat) :
    (s.withReply tag kind status result).record? id = s.record? id := rfl

theorem withReply_movedOn (kind : ReqKind) (status : Status) (result : Result) (s : State) (p : TakeRecord) :
    p.movedOn (s.withReply tag kind status result) = p.movedOn s := rfl

/-- A confined change with a reply after it, written as an update. -/
theorem Confined.withReply_eq {u : State} {f : Link → Link} (h : Confined (s.modLink f) u) (kind : ReqKind)
    (status : Status) (result : Result) :
    u.withReply tag kind status result = { s with
      link := (u.withReply tag kind status result).link, takes := (u.withReply tag kind status result).takes
      delivery := (u.withReply tag kind status result).delivery
      binding := (u.withReply tag kind status result).binding } :=
  congrArg (fun v : State => { v with link := (u.withReply tag kind status result).link }) h.eq

theorem othersMovedOn_withReply {u : State} {id : Nat} {kind : ReqKind} {status : Status} {result : Result}
    (h : OthersMovedOn s u id) : OthersMovedOn s (u.withReply tag kind status result) id := fun p => h p

/-- The ids of two tables that are the same: the tables are as long, and hold the same ids. -/
theorem fresh_of_ids {c : State} {id : Nat} (ids : (c.takes.table.map fun q => q.id) = s.takes.table.map fun q => q.id)
    (fresh : ∀ x ∈ s.takes.table, x.id ≠ id) : ∀ x ∈ c.takes.table, x.id ≠ id := by
  intro x mem same
  have there := List.mem_map_of_mem (f := fun q => q.id) mem
  rw [ids] at there
  obtain ⟨y, hy, eq⟩ := List.mem_map.1 there
  exact fresh y hy (eq.trans same)

end

/-! ## A ROLL that opens a take (R78, R80) -/

section
variable {s : State}

theorem rollOpens_nextId (cause : Cause) (r : Nat) : (s.rollOpens cause r).takes.nextId =
    if s.takes.nextId = 65535 then 1 else s.takes.nextId % 65535 + 1 := by
  obtain ⟨-, -, -, -, -, next, -⟩ := rollOpens_spec s cause r
  exact next.trans (followingId_eq _)

theorem rollOpens_rolling (cause : Cause) (r : Nat) : (s.rollOpens cause r).takes.state = .rolling := by
  obtain ⟨-, -, -, state, -⟩ := rollOpens_spec s cause r
  exact state

theorem rollOpens_lastSlate (cause : Cause) (r : Nat) : (s.rollOpens cause r).takes.lastSlate =
    some { id := (s.newRecord cause r).id, scene := (s.newRecord cause r).slate.scene
           number := (s.newRecord cause r).slate.number } := by
  obtain ⟨q, last, -, -, -, -, slate, -⟩ := rollOpens_spec s cause r
  obtain rfl := Option.some.inj (last.symm.trans (rollOpens_last cause r s))
  exact slate

/-- The list after a roll that finds room in it (R109). -/
theorem rollOpens_list (cause : Cause) (r : Nat) (room : s.delivery.list.length < 4) :
    (s.rollOpens cause r).delivery.list =
      if (s.drain .a).settings.enabled = true ∨ (s.drain .b).settings.enabled = true then
        s.delivery.list ++ [s.takes.nextId] else s.delivery.list := by
  rw [rollOpens_delivery, rollMakesRoom_list room]
  exact if_congr (Bool.or_eq_true _ _ ▸ Iff.rfl) rfl rfl

/-- With room in the list and in the table, a roll after the close of the tailing take leaves the other takes and the drains as
the close left them, but for the drains that move on. -/
theorem rollOpens_tail_frame {r : TakeRecord} (opened : s.openRecord? = some r) (p : Nat) (cause : Cause)
    (table : s.takes.table.length < 16) (list : s.delivery.list.length < 4) (unlisted : s.takes.nextId ∉ s.delivery.list)
    (fresh : ∀ x ∈ s.takes.table, x.id ≠ s.takes.nextId) (nextId : (s.closeTail p).takes.nextId = s.takes.nextId) :
    OthersMovedOn s ((s.closeTail p).rollOpens cause p) r.id
    ∧ ∀ d, (s.drain d).inFlight = none → ((s.closeTail p).rollOpens cause p).drain d = s.drain d := by
  obtain ⟨sublist, ids, others, drains⟩ := closeTail_frame p opened
  generalize s.closeTail p = c at *
  have length := congrArg List.length ids
  rw [List.length_map, List.length_map] at length
  have roomy : c.delivery.list.length < 4 := Nat.lt_of_le_of_lt sublist.length_le list
  have new : c.takes.nextId ∉ c.delivery.list := fun mem => unlisted (nextId ▸ sublist.subset mem)
  obtain ⟨delivery, records, -⟩ := rollOpens_room cause p roomy (length ▸ table)
  refine ⟨othersMovedOn_rollOpens cause p others (nextId ▸ fresh) records fun d j current => ?_, fun d idle => ?_⟩
  · rw [rollOpens_currentTake, takeEntered_currentTake cause p roomy new (nextId ▸ fresh_of_ids ids fresh), current]
    rfl
  · exact (congrArg (fun e => e.drains.get d) delivery).trans (drains d idle)

variable (tag : BitVec 8)

/-- What a ROLL adds to a roll that opened a take: its reply, and nothing outside the parts that a roll touches. -/
theorem rollTaken_replied {u : State} {result : Result} (h : Confined (s.modLink Link.goodFrame) u) :
    (u.withReply tag .roll .ok result).link.replies =
      s.link.replies ++ [{ tag := tag, kind := ReqKind.roll.word, status := .ok, result := result }]
    ∧ u.withReply tag .roll .ok result = { s with
        link := (u.withReply tag .roll .ok result).link, takes := (u.withReply tag .roll .ok result).takes
        delivery := (u.withReply tag .roll .ok result).delivery
        binding := (u.withReply tag .roll .ok result).binding } := by
  refine ⟨?_, h.withReply_eq tag .roll .ok result⟩
  rw [withReply_replies, h.replies]
  rfl

end

/-- Settles O30: STOPPED by what opening a take leaves; TAIL by the close and then the opening; the rest refuses or reports. -/
theorem rollOpensATake : Obligations.RollOpensATake := by
  unfold Obligations.RollOpensATake
  intro s tag room
  refine ⟨fun stopped armed => ?stopped, fun r tail armed opened found survives => ?tail, fun going unarmed => ?unarmed,
    fun r rolling opened => ?rolling⟩
  case unarmed =>
    refine congrArg Host.Outcome.next ((serve_room tag ReqKind.roll.word reqRoll room).trans ?_)
    rw [reqRoll_unarmed (s := s.modLink Link.goodFrame) going unarmed]
    exact refuse_place s tag .roll .notArmed
  case rolling =>
    refine congrArg Host.Outcome.next ((serve_room tag ReqKind.roll.word reqRoll room).trans ?_)
    rw [reqRoll_rolling (s := s.modLink Link.goodFrame) rolling opened]
    exact read_place s tag .roll _
  case stopped =>
    have run := exec_roll_taken tag room (rollReq_stopped (s := s.modLink Link.goodFrame) .command rfl stopped armed)
    obtain ⟨replies, confined⟩ := rollTaken_replied tag
      (result := .rollTaken s.takes.nextId ((s.modLink Link.goodFrame).rollStart s.ring.p) s.ring.p)
      (confined_rollOpens (s.modLink Link.goodFrame) .command s.ring.p)
    refine ⟨_, ((s.modLink Link.goodFrame).newRecord .command s.ring.p).movedOn
      ((s.modLink Link.goodFrame).takeEntered .command s.ring.p), run,
      rollOpens_rolling (s := s.modLink Link.goodFrame) .command s.ring.p,
      rollOpens_last .command s.ring.p (s.modLink Link.goodFrame), rfl, rfl, rfl, rfl, rfl, rfl, rfl, rfl, rfl, rfl, rfl,
      rollOpens_lastSlate (s := s.modLink Link.goodFrame) .command s.ring.p,
      rollOpens_nextId (s := s.modLink Link.goodFrame) .command s.ring.p, replies, fun list unlisted fresh => ?_, confined⟩
    refine ⟨rollOpens_list (s := s.modLink Link.goodFrame) .command s.ring.p list, rfl,
      newRecord_movedOn_section (s := s.modLink Link.goodFrame) .command s.ring.p list unlisted fresh,
      fun table space => ?_, fun table => ?_⟩ <;>
      obtain ⟨delivery, records, notices⟩ := rollOpens_room (s := s.modLink Link.goodFrame) .command s.ring.p list table
    · rw [withReply_notices, notices space]
      rfl
    · refine ⟨delivery, fun p there => ?_⟩
      rw [withReply_record?, withReply_movedOn, records p.id (fresh p (record?_mem there))]
      exact congrArg (Option.map _) there
  case tail =>
    have run := exec_roll_taken tag room (rollReq_tail (s := s.modLink Link.goodFrame) .command rfl tail armed)
    obtain ⟨nextId, caps, notices, old, closed, oldState, shortened, endPos, windowEnd, endTarget, cut, slate, events⟩ :=
      closeTail_spec (s := s.modLink Link.goodFrame) s.ring.p opened found rfl
    obtain ⟨list, ids, -⟩ := closeTail_frame (s := s.modLink Link.goodFrame) s.ring.p opened
    have frame := rollOpens_tail_frame (s := s.modLink Link.goodFrame) opened s.ring.p .command
    have closes := confined_closeTail (s.modLink Link.goodFrame) s.ring.p
    generalize (s.modLink Link.goodFrame).closeTail s.ring.p = c at *
    obtain ⟨kept, left, same, stays⟩ := rollOpens_keeps .command s.ring.p closed (tail_stays ids list nextId survives)
    obtain ⟨replies, confined⟩ := rollTaken_replied tag
      (result := .rollTaken c.takes.nextId (c.rollStart s.ring.p) s.ring.p)
      (closes.trans (confined_rollOpens c .command s.ring.p))
    have start : c.rollStart s.ring.p = startOf s.ring.p s.takes.caps.preRoll (s.ring.p - 2097152) := by
      rw [rollStart_eq, caps, closes.ring]
      rfl
    refine ⟨_, (c.newRecord .command s.ring.p).movedOn (c.takeEntered .command s.ring.p), kept, _, run,
      rollOpens_rolling .command s.ring.p, rollOpens_last .command s.ring.p c, nextId, rfl, rfl, start,
      (withReply_record? tag ..).trans left, stays oldState, (congrArg TakeRecord.tailShortened same).trans shortened,
      (congrArg TakeRecord.endPos same).trans endPos, rfl, (congrArg TakeRecord.windowEnd same).trans windowEnd,
      (congrArg TakeRecord.endTarget same).trans endTarget, (congrArg TakeRecord.cut same).trans cut,
      (congrArg TakeRecord.slate same).trans slate, (congrArg TakeRecord.events same).trans events, fun space => ?_, replies,
      fun table full unlisted fresh => ?_, confined⟩
    · rw [withReply_notices]
      exact (notices space).trans (rollOpens_notices .command s.ring.p c)
    · obtain ⟨others, drains⟩ := frame table full unlisted fresh nextId
      exact ⟨othersMovedOn_withReply tag others, fun d idle => (withReply_drain tag ..).trans (drains d idle)⟩

end Sys2Proof.Machine
end

section
/-! SUPPORT. Cuts and closes (R83 to R87): a request by its cases, the record that a cut leaves in TAIL, and what a close leaves
of the record, the controller, the list and the other takes, said once for every row that cuts or closes. -/

namespace Sys2Proof.Machine

/-! ## The requests by their cases (R79, R83, R84) -/

section
variable {s : State} (cause : Cause) (pos : Nat)

theorem rollReq_rolling (rolling : s.takes.state = .rolling) : s.rollReq cause pos = (s, .alreadyRolling) := by
  unfold State.rollReq
  rw [rolling]

theorem rollReq_unarmed (going : s.takes.state ≠ .rolling) (unarmed : s.router.armed = 0) :
    s.rollReq cause pos = (s.refuseRoll cause (min pos s.ring.p), .notArmed) := by
  unfold State.rollReq
  cases state : s.takes.state with
  | rolling => exact absurd state going
  | stopped => exact if_pos unarmed
  | tail => exact if_pos unarmed

theorem cutReq_idle (level : Option Line) (idle : s.takes.state ≠ .rolling) :
    s.cutReq cause pos level = (s, .notRolling) := by
  unfold State.cutReq
  cases state : s.takes.state with
  | rolling => exact absurd state idle
  | stopped => rfl
  | tail => rfl

theorem cutReq_held {r : TakeRecord} {level : Option Line} (rolling : s.takes.state = .rolling)
    (opened : s.openRecord? = some r) (held : s.cutHeld level = true) : s.cutReq cause pos level = (s, .held) := by
  unfold State.cutReq
  rw [rolling, opened]
  exact if_pos held

theorem cutReq_taken {r : TakeRecord} {level : Option Line} {c : Nat} (rolling : s.takes.state = .rolling)
    (opened : s.openRecord? = some r) (free : s.cutHeld level = false) (place : c = max (min pos s.ring.p) r.roll) :
    s.cutReq cause pos level = (s.cutOpen r cause c, .taken r.id c) := by
  subst place
  unfold State.cutReq
  rw [rolling, opened]
  exact if_neg (by rw [free]; nofun)

end

/-! ## Without effect (R79, R84) -/

/-- Settles O32: a roll in ROLLING is the first case of the request. -/
theorem rollInRollingHasNoEffect : Obligations.RollInRollingHasNoEffect := by
  unfold Obligations.RollInRollingHasNoEffect
  exact fun _ cause p rolling => rollReq_rolling cause p rolling

/-- Settles O33: the cut is the request's idle case, also for a stop mark, whose disarming keeps the take state. -/
theorem cutOutsideRollingHasNoEffect : Obligations.CutOutsideRollingHasNoEffect := by
  unfold Obligations.CutOutsideRollingHasNoEffect
  intro s cause p level idle
  refine ⟨cutReq_idle cause p level idle, fun c1 c2 => ?_⟩
  have none_cut := cutReq_idle (s := s.disarm .stop) .mark p none idle
  rw [State.fireMark]
  dsimp only
  rw [none_cut, notify_takes]
  rfl

/-! ## A cut into TAIL (R83) -/

/-- A record that has been cut (R83), with LIMITED where the maximum length cut it (R85). -/
def TakeRecord.cutAt (cause : Cause) (c : Nat) (r : TakeRecord) : TakeRecord :=
  { r with cut := some c, cutCause := some cause, limited := r.limited || decide (cause = .limit) }

/-- From `s` to `t` the open take `r` has been cut into TAIL, and nothing else has changed (R83). -/
structure CutIntoTail (s t : State) (r : TakeRecord) (cause : Cause) (c : Nat) : Prop where
  record : t.record? r.id = some { r.cutAt cause c with endTarget := some (c + s.takes.caps.postRoll) }
  others : ∀ id, id ≠ r.id → t.record? id = s.record? id
  rest : t = { s with takes := { s.takes with state := .tail, table := t.takes.table } }

theorem cutAt_limit (r : TakeRecord) (c : Nat) : r.cutAt .limit c =
    { r with cut := some c, cutCause := some .limit, limited := true } := by
  simp only [TakeRecord.cutAt, decide_true, Bool.or_true]

theorem cutAt_other {cause : Cause} (other : cause ≠ .limit) (r : TakeRecord) (c : Nat) : r.cutAt cause c =
    { r with cut := some c, cutCause := some cause } := by
  simp only [TakeRecord.cutAt, other, decide_false, Bool.or_false]

theorem CutIntoTail.record_limit {s t : State} {r : TakeRecord} {c : Nat} (h : CutIntoTail s t r .limit c) :
    t.record? r.id = some { r with cut := some c, cutCause := some .limit, limited := true
                                   endTarget := some (c + s.takes.caps.postRoll) } := by
  rw [h.record, cutAt_limit]

theorem CutIntoTail.record_other {s t : State} {r : TakeRecord} {cause : Cause} {c : Nat} (h : CutIntoTail s t r cause c)
    (other : cause ≠ .limit) : t.record? r.id =
      some { r with cut := some c, cutCause := some cause, endTarget := some (c + s.takes.caps.postRoll) } := by
  rw [h.record, cutAt_other other]

section
variable {s : State} {r : TakeRecord} (cause : Cause) (c : Nat)

theorem cutOpen_eq : s.cutOpen r cause c =
    if s.ring.p < c + s.takes.caps.postRoll then
      ((s.updRecord r.id (TakeRecord.cutAt cause c)).updRecord r.id fun q =>
        { q with endTarget := some (c + s.takes.caps.postRoll) }).modTakes fun t => { t with state := .tail }
    else (s.updRecord r.id (TakeRecord.cutAt cause c)).closeOpen (c + s.takes.caps.postRoll) := rfl

theorem cutOpen_tail (found : s.record? r.id = some r) (ahead : s.ring.p < c + s.takes.caps.postRoll) :
    CutIntoTail s (s.cutOpen r cause c) r cause c := by
  rw [cutOpen_eq, if_pos ahead]
  have cut : (s.updRecord r.id (TakeRecord.cutAt cause c)).record? r.id = some (r.cutAt cause c) :=
    record?_updRecord_same (fun _ => rfl) found
  refine ⟨record?_updRecord_same (f := fun q : TakeRecord =>
    { q with endTarget := some (c + s.takes.caps.postRoll) }) (fun _ => rfl) cut, fun id ne => ?_, rfl⟩
  exact (record?_updRecord_other (f := fun q : TakeRecord => { q with endTarget := some (c + s.takes.caps.postRoll) })
    (fun _ => rfl) ne).trans (record?_updRecord_other (f := TakeRecord.cutAt cause c) (fun _ => rfl) ne)

end

/-! ## A close (R87, R117) -/

theorem le_endRaised (r : TakeRecord) (e : Nat) : e ≤ r.endRaised e := by
  refine le_trans ?_ (Nat.le_max_left ..)
  split
  · exact Nat.le_refl e
  · exact Nat.le_max_left ..

/-- A section of a take that is not to be delivered again: DONE where its formation cursor stands at the end (R117). -/
def Section.doneAt (e : Nat) (x : Section) : Section :=
  if x.live = true ∧ x.formation = e then { x with state := .done } else x

/-- From `s` to `t` the open take `r` has been closed at `e` and stands as `q` (R87). -/
structure TakeClosed (s t : State) (r q : TakeRecord) (e : Nat) : Prop where
  found : t.record? r.id = some q
  closed : q.state ≠ .opened
  same : q = { r with state := q.state, endTarget := none, endPos := some e, windowEnd := some (e + s.takes.caps.window)
                      earlyFinal := q.earlyFinal, sections := q.sections }
  takes : t.takes = { s.takes with state := .stopped, table := t.takes.table }
  notices : NoticeRoom s → s.link.notices ++ [{ seq := s.link.nextSeq, notice := r.closNotice e s.takes.caps.window }]
    <+: t.link.notices
  others : OthersMovedOn s t r.id
  swept : ListSwept s t
  idle : ∀ d, (s.drain d).inFlight = none → t.drain d = s.drain d
  sections : ∀ d, (s.drain d).inFlight = none →
    ∃ current : Bool, q.sections.get d = (((r.sections.get d).settleOwing e).doneAt e).movedOn (current = true)
  confined : Confined s t
  rest : t = { s with link := t.link, takes := t.takes, delivery := t.delivery }

/-- The tests for FINAL leave the list and what is live of the takes. -/
theorem listSwept_finals {l : List Nat} {s t u : State} (swept : ListSwept s t) (finals : FinalsOf l t u) :
    ListSwept s u := by
  intro id
  rw [finals.list, swept id]
  refine and_congr_right fun _ => ?_
  cases found : t.record? id with
  | none => rw [finals.missing id found]
  | some p =>
    obtain ⟨q, hq, follows⟩ := finals.records id p found
    have live : q.live = p.live := congrArg₂ or (follows.live .a) (follows.live .b)
    simp only [hq, Option.some.injEq, exists_eq_left', live]

/-- A section that the test for DONE looks at: of a closed take, on a drain without a block in flight. -/
theorem testDone_section {v : State} {id e : Nat} {d : Drain} {p : TakeRecord} (found : v.record? id = some p)
    (closed : p.state ≠ .opened) (ended : p.endPos = some e) : ∃ q, (v.testDone id d).record? id = some q
      ∧ q.state = p.state ∧ q.endPos = p.endPos ∧ (∀ o, o ≠ d → q.sections.get o = p.sections.get o)
      ∧ ((v.drain d).inFlight = none → q.sections.get d = (p.sections.get d).doneAt e) := by
  have left (x : Section) (h : ¬(x.live = true ∧ x.formation = e)) : x.doneAt e = x := if_neg h
  unfold State.testDone
  rw [found]
  dsimp only
  split
  · rename_i done
    obtain ⟨-, live, reached, -⟩ := done
    refine ⟨_, record?_updRecord_same (fun _ => rfl) found, rfl, rfl, fun o ne => PerDrain.get_modify_other _ _ _ _ ne,
      fun _ => ?_⟩
    rw [PerDrain.get_modify_same]
    exact (if_pos ⟨live, Option.some.inj (reached.symm.trans ended)⟩).symm
  · rename_i done
    refine ⟨p, found, rfl, rfl, fun _ _ => rfl, fun idle => (left _ fun h => done ?_).symm⟩
    refine ⟨closed, h.1, by rw [ended, h.2], ?_⟩
    rw [idle]
    rfl

/-- On a drain without a block in flight the tests for FINAL leave a section. -/
theorem section_idle_of_finals {l : List Nat} {s t : State} {id : Nat} {d : Drain} {p q : TakeRecord}
    (finals : FinalsOf l s t) (sweeps : Sweeps s t) (found : s.record? id = some p) (after : t.record? id = some q)
    (idle : (s.drain d).inFlight = none) : q.sections.get d = p.sections.get d := by
  obtain ⟨x, hx, follows⟩ := finals.records id p found
  obtain ⟨y, hy, -, kept⟩ := sweeps.records id p found
  obtain rfl := Option.some.inj (after.symm.trans hx)
  obtain rfl := Option.some.inj (after.symm.trans hy)
  rw [follows.sections, kept d idle]

section
variable {s : State} {r : TakeRecord}

/-- Beyond the take state and the table, a close keeps the controller and the binding unit. -/
theorem closeOpen_controller (e : Nat) (opened : s.openRecord? = some r) :
    (s.closeOpen e).takes = { s.takes with state := .stopped, table := (s.closeOpen e).takes.table }
    ∧ (s.closeOpen e).binding = s.binding := by
  have kept (v : State) : SameController v ((v.handEnd r.id (r.closingEnd e)).finalTest r.id) :=
    (sameController_handEnd v r.id _).trans (sweeps_finalTest _ r.id).sameController
  unfold State.closeOpen
  rw [opened]
  exact ⟨(kept _).takes_eq, (kept _).binding⟩

/-- The record of a close, from the tests for DONE to the sweep and the test for FINAL (R87, R117). -/
theorem closeOpen_record {e : Nat} (opened : s.openRecord? = some r) (found : s.record? r.id = some r) :
    ∃ q, (s.closeOpen e).record? r.id = some q
      ∧ RecordFollows ((r.close (r.closingEnd e) s.takes.caps.window).settleOwing (r.closingEnd e)) q
      ∧ ∀ d, (s.drain d).inFlight = none → ∃ current : Bool, q.sections.get d =
          (((r.sections.get d).settleOwing (r.closingEnd e)).doneAt (r.closingEnd e)).movedOn (current = true) := by
  rw [closeOpen_eq e opened]
  generalize before : ((s.updRecord r.id (TakeRecord.close (r.closingEnd e) s.takes.caps.window)).modTakes
    fun t => { t with state := .stopped }).notify (r.closNotice (r.closingEnd e) s.takes.caps.window) = v
  generalize r.closingEnd e = e at *
  have closed : v.record? r.id = some (r.close e s.takes.caps.window) := by
    rw [← before]
    exact record?_updRecord_same (s := s) (f := TakeRecord.close e s.takes.caps.window) (fun _ => rfl) found
  have drains (d : Drain) : (v.updRecord r.id (TakeRecord.settleOwing e)).drain d = s.drain d := by rw [← before]; rfl
  have settled : (v.updRecord r.id (TakeRecord.settleOwing e)).record? r.id =
      some ((r.close e s.takes.caps.window).settleOwing e) := record?_updRecord_same (fun _ => rfl) closed
  generalize v.updRecord r.id (TakeRecord.settleOwing e) = v at *
  obtain ⟨p, hp, pState, pEnd, pOther, pDone⟩ := testDone_section (d := .a) settled nofun rfl
  obtain ⟨p', hp', -, -, pOther', pDone'⟩ := testDone_section (d := .b) hp (by rw [pState]; nofun) pEnd
  have tested := (sweeps_testDone v r.id .a).trans (sweeps_testDone _ r.id .b)
  have final := sweeps_finalTest ((v.testDone r.id .a).testDone r.id .b).sweepList r.id
  obtain ⟨q, hq, follows, -⟩ := ((tested.trans (sweeps_sweepList _)).trans final).records r.id _ settled
  refine ⟨q, hq, follows, fun d idle => ?_⟩
  have doneAt : p'.sections.get d = ((r.sections.get d).settleOwing e).doneAt e := by
    cases d with
    | a => exact (pOther' .a nofun).trans (pDone (by rwa [drains]))
    | b =>
      refine (pDone' ?_).trans (congrArg _ (pOther .b nofun))
      rw [(sweeps_testDone v r.id .a).drain_idle (by rwa [drains]), drains]
      exact idle
  have idle' : (((v.testDone r.id .a).testDone r.id .b).drain d).inFlight = none := by
    rw [tested.drain_idle (by rwa [drains]), drains]
    exact idle
  obtain ⟨m, hm, -⟩ := sweepList_record? _ hp'
  refine ⟨decide (((v.testDone r.id .a).testDone r.id .b).currentTake d = some p'.id), ?_⟩
  rw [section_idle_of_finals (finalsOf_finalTest (List.mem_singleton_self r.id) _) final hm hq
      (((sweeps_sweepList _).drains d).2 idle'), sweepList_section_idle _ hp' hm idle', movedOn_sections, doneAt]
  simp only [Section.movedOn, decide_eq_true_eq]

/-- A close, for every row that closes the open take (R87, R109, R111, R117). -/
theorem takeClosed_closeOpen {e ended : Nat} (opened : s.openRecord? = some r) (found : s.record? r.id = some r)
    (raised : ended = r.endRaised e) : ∃ q, TakeClosed s (s.closeOpen e) r q ended := by
  obtain ⟨-, -, -, -, -, -, -, -, -, -, -, -, -, -, -, -, -, -, -, -, notices⟩ := closeOpen_spec e opened found
  obtain ⟨takes, binding⟩ := closeOpen_controller e opened
  obtain ⟨q, hq, follows, sections⟩ := closeOpen_record (e := e) opened found
  obtain ⟨-, -, others, idle⟩ := closeOpen_frame e opened
  obtain ⟨u, run, delivery, -, -⟩ := closeOpen_sweeps e opened
  obtain rfl : r.closingEnd e = ended := (closingEnd_eq r e).trans raised.symm
  have swept : ListSwept s (s.closeOpen e) := by
    rw [run]
    exact listSwept_finals (listSwept_sweepList (congrArg Delivery.list delivery))
      (finalsOf_finalTest (List.mem_singleton_self r.id) _)
  refine ⟨q, hq, ?_, follows.same, takes, notices, others, swept, idle, sections,
    confined_closeOpen s e, confined_eq_of_binding (confined_closeOpen s e) binding⟩
  exact follows.takeKept.closed nofun

/-- A cut whose end target P has passed closes the take at once (R83, R87). -/
theorem cutOpen_closed (cause : Cause) (c : Nat) {ended : Nat} (opened : s.openRecord? = some r)
    (found : s.record? r.id = some r) (passed : c + s.takes.caps.postRoll ≤ s.ring.p)
    (raised : ended = r.endRaised (c + s.takes.caps.postRoll)) :
    ∃ q, TakeClosed s (s.cutOpen r cause c) (r.cutAt cause c) q ended := by
  rw [cutOpen_eq, if_neg (Nat.not_lt.2 passed)]
  obtain ⟨q, h⟩ := takeClosed_closeOpen (openRecord?_updRecord (f := TakeRecord.cutAt cause c) (fun _ => rfl) opened)
    (record?_updRecord_same (s := s) (f := TakeRecord.cutAt cause c) (fun _ => rfl) found) raised
  refine ⟨q, h.found, h.closed, h.same, h.takes, h.notices, fun p ne there => ?_, h.swept, h.idle, h.sections,
    (confined_updRecord ..).trans h.confined, h.rest⟩
  exact h.others p ne ((record?_updRecord_other (f := TakeRecord.cutAt cause c) (fun _ => rfl) ne).trans there)

end

end Sys2Proof.Machine
end

section
/-! SUPPORT. The rows that cut and close the open take: CUT, LIMIT_CUT and TAIL_END (R83 to R87, R97). -/

namespace Sys2Proof.Machine

/-! ## CUT (R97) -/

section
variable {s u : State} (tag : BitVec 8)

/-- A CUT that is taken, with room for its reply (R97). -/
theorem exec_cut_taken (room : HasRoom s) {id cut : Nat}
    (taken : (s.modLink Link.goodFrame).cutReq .command s.ring.p none = (u, .taken id cut)) :
    exec (.cut tag) s = .next (u.withReply tag .cut .ok
      (.cutTaken id cut (u.cutTarget id) (decide (u.takes.state = .stopped)))) := by
  have answer : reqCut (s.modLink Link.goodFrame) =
      okAnswer u (.cutTaken id cut (u.cutTarget id) (decide (u.takes.state = .stopped))) :=
    congrArg (cutAnswer (s.modLink Link.goodFrame)) taken
  refine congrArg Host.Outcome.next ((serve_room tag ReqKind.cut.word reqCut room).trans ?_)
  rw [answer]
  rfl

/-- A CUT outside ROLLING (R84, R97). -/
theorem exec_cut_idle (room : HasRoom s) (idle : s.takes.state ≠ .rolling) :
    exec (.cut tag) s = .next (replied s tag .cut .ok (.cutNot s.takes.state s.openId)) := by
  have answer : reqCut (s.modLink Link.goodFrame) =
      okAnswer (s.modLink Link.goodFrame) (.cutNot s.takes.state s.openId) :=
    congrArg (cutAnswer (s.modLink Link.goodFrame))
      (cutReq_idle (s := s.modLink Link.goodFrame) .command s.ring.p none idle)
  refine congrArg Host.Outcome.next ((serve_room tag ReqKind.cut.word reqCut room).trans ?_)
  rw [answer]
  exact read_place s tag .cut _

theorem openId_of {r : TakeRecord} (opened : s.openRecord? = some r) : s.openId = r.id := by
  rw [State.openId, opened]

theorem cutTarget_ahead {id e : Nat} {q : TakeRecord} (found : s.record? id = some q) (ahead : q.endTarget = some e) :
    s.cutTarget id = e := by
  rw [State.cutTarget, found]
  dsimp only
  rw [ahead]

theorem cutTarget_closed {id e : Nat} {q : TakeRecord} (found : s.record? id = some q) (gone : q.endTarget = none)
    (ended : q.endPos = some e) : s.cutTarget id = e := by
  rw [State.cutTarget, found]
  dsimp only
  rw [gone]
  dsimp only
  rw [ended]
  rfl

/-- A reply after a request that changed the take controller alone. -/
theorem withReply_of_takes (kind : ReqKind) (status : Status) (result : Result) {x : TakeCtl}
    (rest : u = { s.modLink Link.goodFrame with takes := x }) : u.withReply tag kind status result =
      { s with link := answered s.link tag kind status result, takes := x } :=
  congrArg (fun v : State => v.withReply tag kind status result) rest

/-- A reply after a request that changed the take controller, the delivery engine and the notices. -/
theorem withReply_of_rest (kind : ReqKind) (status : Status) (result : Result)
    (rest : u = { s.modLink Link.goodFrame with link := u.link, takes := u.takes, delivery := u.delivery }) :
    u.withReply tag kind status result = { s with
      link := (u.withReply tag kind status result).link, takes := (u.withReply tag kind status result).takes
      delivery := (u.withReply tag kind status result).delivery } :=
  congrArg (fun v : State => { v with link := (u.withReply tag kind status result).link }) rest

theorem withReply_replies_of_confined (kind : ReqKind) (status : Status) (result : Result)
    (confined : Confined (s.modLink Link.goodFrame) u) : (u.withReply tag kind status result).link.replies =
      s.link.replies ++ [{ tag := tag, kind := kind.word, status := status, result := result }] := by
  rw [withReply_replies, confined.replies]
  rfl

end

/-- Settles O35: the cut at P is into TAIL or closes the take, as the post-roll is; outside ROLLING the request is idle. -/
theorem cutEntersTheTail : Obligations.CutEntersTheTail := by
  unfold Obligations.CutEntersTheTail
  intro s tag r room opened found
  have taken (rolling : s.takes.state = .rolling) (behind : r.roll ≤ s.ring.p) :=
    exec_cut_taken tag room (cutReq_taken (s := s.modLink Link.goodFrame) (level := none) (c := s.ring.p) .command
      s.ring.p rolling opened rfl (by rw [State.modLink_ring, Nat.min_self, Nat.max_eq_left behind]))
  refine ⟨fun rolling behind postRoll => ?tail, fun rolling behind postRoll => ?close, fun tail => ?idle,
    fun u room stopped closed => ?stopped⟩
  case tail =>
    have cut := cutOpen_tail (s := s.modLink Link.goodFrame) .command s.ring.p found (Nat.lt_add_of_pos_right postRoll)
    have run := taken rolling behind
    generalize (s.modLink Link.goodFrame).cutOpen r .command s.ring.p = u at *
    have state : u.takes.state = .tail := congrArg (fun v : State => v.takes.state) cut.rest
    rw [cutTarget_ahead cut.record rfl, state] at run
    exact ⟨_, run, state, cut.record_other nofun, cut.others, withReply_of_takes tag .cut .ok _ cut.rest⟩
  case close =>
    obtain ⟨q, closes⟩ := cutOpen_closed (s := s.modLink Link.goodFrame) (ended := r.endRaised s.ring.p) .command s.ring.p
      opened found (by rw [State.modLink_takes, postRoll]; exact Nat.le_refl _)
      (by rw [State.modLink_takes, postRoll]; rfl)
    have run := taken rolling behind
    generalize (s.modLink Link.goodFrame).cutOpen r .command s.ring.p = u at *
    have endPos := congrArg TakeRecord.endPos closes.same
    have state : u.takes.state = .stopped := congrArg TakeCtl.state closes.takes
    rw [cutTarget_closed (id := r.id) closes.found (congrArg TakeRecord.endTarget closes.same) endPos, state] at run
    refine ⟨_, q, _, run, state, closes.found, closes.closed, congrArg TakeRecord.cut closes.same,
      congrArg TakeRecord.cutCause closes.same, endPos, rfl, congrArg TakeRecord.windowEnd closes.same, fun space => ?_,
      withReply_replies_of_confined tag .cut .ok _ closes.confined, fun p => closes.others p, closes.swept, closes.idle,
      withReply_of_rest tag .cut .ok _ closes.rest⟩
    have notices := closes.notices space
    rw [cutAt_other (cause := .command) nofun] at notices
    exact notices
  case idle =>
    rw [exec_cut_idle tag room (by rw [tail]; nofun), tail, openId_of opened]
  case stopped =>
    rw [exec_cut_idle tag room (by rw [stopped]; nofun), stopped, State.openId, closed]

/-! ## LIMIT_CUT (R85) -/

section
variable {s : State} {r : TakeRecord}

theorem takeLimitCut_idle (idle : s.takes.state ≠ .rolling) : s.takeLimitCut = s := by
  have none_due : s.limitDue = none := by
    unfold State.limitDue
    cases state : s.takes.state with
    | rolling => exact absurd state idle
    | stopped => rfl
    | tail => rfl
  rw [State.takeLimitCut, none_due]

variable (rolling : s.takes.state = .rolling) (opened : s.openRecord? = some r)
include rolling opened

theorem limitDue_rolling : s.limitDue =
    if s.takes.caps.maxLength ≠ 0 ∧ r.roll + s.takes.caps.maxLength ≤ s.ring.p then some r else none := by
  unfold State.limitDue
  rw [rolling, opened]

/-- Without a maximum length, or before P reaches it, there is nothing to cut. -/
theorem takeLimitCut_early (early : s.takes.caps.maxLength = 0 ∨ s.ring.p < r.roll + s.takes.caps.maxLength) :
    s.takeLimitCut = s := by
  rw [State.takeLimitCut, limitDue_rolling rolling opened, if_neg]
  exact fun due => early.elim due.1 fun before => Nat.not_lt.2 due.2 before

/-- A maximum length that P has reached cuts at roll + M. -/
theorem takeLimitCut_due (some_length : 0 < s.takes.caps.maxLength)
    (reached : r.roll + s.takes.caps.maxLength ≤ s.ring.p) :
    s.takeLimitCut = s.cutOpen r .limit (r.roll + s.takes.caps.maxLength) := by
  rw [State.takeLimitCut, limitDue_rolling rolling opened, if_pos ⟨some_length.ne', reached⟩]
  refine congrArg Prod.fst (cutReq_taken .limit _ rolling opened rfl ?_)
  rw [Nat.min_eq_left reached, Nat.max_eq_left (Nat.le_add_right ..)]

end

/-! ## TAIL_END (R86, R117) -/

section
variable {s : State} {r : TakeRecord} {e : Nat}

theorem takeTailEnd_eq (tail : s.takes.state = .tail) (opened : s.openRecord? = some r) (target : r.endTarget = some e) :
    s.takeTailEnd = if e ≤ s.ring.p then s.closeOpen e else s := by
  unfold State.takeTailEnd State.tailDue
  rw [tail, opened]
  dsimp only
  rw [target]
  split <;> split <;> simp_all

variable (e) (x : Section)

theorem settleOwing_owing (owing : x.owing = true) :
    x.settleOwing e = { x with abandoned := x.abandoned + (e - x.confirmed), owing := false } := if_pos owing

theorem settleOwing_settled (settled : x.owing = false) : x.settleOwing e = x := if_neg (by rw [settled]; nofun)

theorem settleOwing_state : (x.settleOwing e).state = x.state := by
  unfold Section.settleOwing
  split <;> rfl

theorem settleOwing_live : (x.settleOwing e).live = x.live := live_congr (settleOwing_state e x)

theorem settleOwing_formation : (x.settleOwing e).formation = x.formation := by
  unfold Section.settleOwing
  split <;> rfl

/-- The test for DONE and a drain moving on change the state of a section alone. -/
theorem doneAt_movedOn_same (c : Prop) [Decidable c] :
    (x.doneAt e).movedOn c = { x with state := ((x.doneAt e).movedOn c).state } := by
  unfold Section.doneAt
  split <;> rfl

theorem doneAt_movedOn_gone (c : Prop) [Decidable c] (gone : x.live = false) :
    ((x.doneAt e).movedOn c).state = x.state := by
  have pending : x.state ≠ .pending := fun k => by rw [Section.live, k] at gone; cases gone
  rw [Section.doneAt, if_neg (fun k => by rw [gone] at k; cases k.1), section_movedOn_of_not fun k => pending k.1]

theorem doneAt_movedOn_live (c : Prop) [Decidable c] (live : x.live = true) :
    if x.formation = e then ((x.doneAt e).movedOn c).state = .done else ((x.doneAt e).movedOn c).live = true := by
  unfold Section.doneAt
  split
  · rename_i reached
    rw [if_pos ⟨live, reached⟩]
    exact congrArg Section.state (section_movedOn_of_not (x := { x with state := .done }) fun k => nomatch k.1)
  · rename_i short
    rw [if_neg fun k => short k.2, movedOn_live, live]

end

/-- Settles O36: the cut at roll + M is into TAIL or closes the take; the tail closes at its end target. -/
theorem limitCutAndTailEndTakeEffect : Obligations.LimitCutAndTailEndTakeEffect := by
  unfold Obligations.LimitCutAndTailEndTakeEffect
  refine ⟨fun s r opened found rolling => ⟨fun early => ?early, fun some_length reached ahead => ?tail,
    fun some_length passed => ?close⟩,
    fun s r e opened found tail target => ⟨fun before => ?before, fun reached => ?ends⟩⟩
  case early => exact congrArg Host.Outcome.next (takeLimitCut_early rolling opened early)
  case tail =>
    have cut := cutOpen_tail .limit (r.roll + s.takes.caps.maxLength) found ahead
    rw [← takeLimitCut_due rolling opened some_length reached] at cut
    exact ⟨_, rfl, congrArg (fun v : State => v.takes.state) cut.rest, cut.record_limit, cut.others, cut.rest⟩
  case close =>
    have reached : r.roll + s.takes.caps.maxLength ≤ s.ring.p := Nat.le_trans (Nat.le_add_right ..) passed
    obtain ⟨q, closes⟩ := cutOpen_closed .limit (r.roll + s.takes.caps.maxLength) opened found passed rfl
    rw [← takeLimitCut_due rolling opened some_length reached, cutAt_limit] at closes
    exact ⟨_, q, _, rfl, congrArg TakeCtl.state closes.takes, closes.found, closes.closed,
      congrArg TakeRecord.cut closes.same, congrArg TakeRecord.cutCause closes.same,
      congrArg TakeRecord.limited closes.same, congrArg TakeRecord.endPos closes.same, rfl,
      congrArg TakeRecord.windowEnd closes.same, closes.notices, closes.others, closes.swept, closes.idle, closes.rest⟩
  case before =>
    exact congrArg Host.Outcome.next ((takeTailEnd_eq tail opened target).trans (if_neg (Nat.not_le.2 before)))
  case ends =>
    obtain ⟨q, closes⟩ := takeClosed_closeOpen (ended := r.endRaised e) opened found rfl
    have run : exec .tailEnd s = .next (s.closeOpen e) :=
      congrArg Host.Outcome.next ((takeTailEnd_eq tail opened target).trans (if_pos reached))
    refine ⟨_, q, _, run, congrArg TakeCtl.state closes.takes, closes.found, closes.closed, rfl,
      congrArg TakeRecord.endPos closes.same, congrArg TakeRecord.windowEnd closes.same,
      congrArg TakeRecord.endTarget closes.same, (congrArg TakeRecord.cut closes.same :),
      (congrArg TakeRecord.slate closes.same :), (congrArg TakeRecord.events closes.same :), closes.notices, fun d idle => ?_,
      closes.others, closes.swept, closes.idle, closes.rest⟩
    obtain ⟨current, handed⟩ := closes.sections d idle
    generalize r.sections.get d = x at *
    generalize r.endRaised e = ended at *
    rw [handed]
    refine ⟨fun owing => ?_, fun settled => ?_, fun gone => ?_, fun live => ?_⟩
    · rw [settleOwing_owing ended x owing]
      exact doneAt_movedOn_same ..
    · rw [settleOwing_settled ended x settled]
      exact doneAt_movedOn_same ..
    · rw [doneAt_movedOn_gone _ _ _ ((settleOwing_live ended x).trans gone), settleOwing_state]
    · have done := doneAt_movedOn_live ended (x.settleOwing ended) (current = true) ((settleOwing_live ended x).trans live)
      rwa [settleOwing_formation] at done

end Sys2Proof.Machine
end

section
/-! SUPPORT. A roll by any of its sources (R69, R78 to R81): what a roll that opens a take leaves, in STOPPED and in TAIL, and
what every roll keeps of the controller. -/

namespace Sys2Proof.Machine

/-- From `s` to `t` a roll has opened a take at `r`, which stands last in the table as `q` (R75, R78). -/
structure TakeOpened (s t : State) (q : TakeRecord) (cause : Cause) (r : Nat) : Prop where
  last : t.takes.table.getLast? = some q
  record : q = { s.newRecord cause r with sections := q.sections }
  takes : t.takes = { s.takes with state := .rolling, table := t.takes.table, nextId := followingId s.takes.nextId
                                   lastSlate := t.takes.lastSlate }
  confined : Confined s t

section
variable {s : State} (cause : Cause) (pos : Nat)

theorem rollOpens_takes (r : Nat) : (s.rollOpens cause r).takes =
    { s.takes with state := .rolling, table := (s.rollOpens cause r).takes.table, nextId := followingId s.takes.nextId
                   lastSlate := (s.rollOpens cause r).takes.lastSlate } := by
  have made := rollMakesRoom_controller s
  have moved := (sweeps_activate (s.takeEntered cause r)).sameController
  rw [rollOpens_eq, notify_takes, moved.takes_eq, State.takeEntered, State.modBinding_takes, State.modTakes_takes,
    made.takes_eq]
  rfl

/-- Closing the tail keeps the controller but for the take state and the table, and the binding unit. -/
theorem closeTail_controller (p : Nat) : (s.closeTail p).takes =
      { s.takes with state := (s.closeTail p).takes.state, table := (s.closeTail p).takes.table }
    ∧ (s.closeTail p).binding = s.binding := by
  cases opened : s.openRecord? with
  | none =>
    have same : s.closeTail p = s := by
      unfold State.closeTail
      rw [opened]
    rw [same]
    exact ⟨rfl, rfl⟩
  | some r =>
    obtain ⟨takes, binding⟩ := closeOpen_controller (max p (r.cut.getD 0)) (shortened_open opened)
    rw [← closeTail_eq p opened] at takes binding
    exact ⟨by rw [takes]; rfl, binding⟩

theorem rollReq_armed (going : s.takes.state ≠ .rolling) (armed : s.router.armed ≠ 0) : s.rollReq cause pos =
    (if s.takes.state = .tail then s.closeTail (min pos s.ring.p) else s).rollTaken cause (min pos s.ring.p) := by
  unfold State.rollReq
  cases state : s.takes.state with
  | rolling => exact absurd state going
  | stopped => exact if_neg armed
  | tail => exact if_neg armed

/-- A roll in STOPPED or in TAIL with a track armed opens a take. -/
theorem rollReq_opens {r : Nat} (going : s.takes.state ≠ .rolling) (armed : s.router.armed ≠ 0)
    (place : r = min pos s.ring.p) : ∃ t q, s.rollReq cause pos = (t, .taken s.takes.nextId (s.rollStart r))
      ∧ TakeOpened s t q cause r ∧ (s.takes.state = .stopped → t = s.rollOpens cause r) := by
  subst place
  rw [rollReq_armed cause pos going armed, State.rollTaken]
  generalize min pos s.ring.p = r at *
  have after : ∃ c, (if s.takes.state = .tail then s.closeTail r else s) = c ∧ Confined s c
      ∧ c.takes = { s.takes with state := c.takes.state, table := c.takes.table } ∧ c.binding = s.binding
      ∧ (s.takes.state = .stopped → c = s) := by
    refine ⟨_, rfl, ?_⟩
    split
    · rename_i tail
      exact ⟨confined_closeTail s r, (closeTail_controller r).1, (closeTail_controller r).2, by rw [tail]; nofun⟩
    · exact ⟨Confined.refl s, rfl, rfl, fun _ => rfl⟩
  obtain ⟨c, run, confined, takes, binding, from_stopped⟩ := after
  rw [run]
  have nextId : c.takes.nextId = s.takes.nextId := by rw [takes]
  have lastSlate : c.takes.lastSlate = s.takes.lastSlate := by rw [takes]
  have start : c.rollStart r = s.rollStart r := by rw [rollStart_eq, rollStart_eq, takes, confined.ring]
  refine ⟨_, _, by rw [nextId, start], ⟨rollOpens_last cause r c, ?_, ?_,
    confined.trans (confined_rollOpens c cause r)⟩, fun stopped => by rw [from_stopped stopped]⟩
  · simp only [TakeRecord.movedOn, State.newRecord, start, nextId, lastSlate, confined.timeline, confined.router, binding]
  · rw [rollOpens_takes cause r, takes]

/-- Every roll keeps the capture settings and the marks. -/
theorem rollReq_takes : (s.rollReq cause pos).1.takes =
    { s.takes with state := (s.rollReq cause pos).1.takes.state, table := (s.rollReq cause pos).1.takes.table
                   nextId := (s.rollReq cause pos).1.takes.nextId
                   lastSlate := (s.rollReq cause pos).1.takes.lastSlate } := by
  by_cases rolling : s.takes.state = .rolling
  · rw [rollReq_rolling cause pos rolling]
  · by_cases armed : s.router.armed = 0
    · rw [rollReq_unarmed cause pos rolling armed]
      cases cause <;> rfl
    · obtain ⟨t, q, run, opens, -⟩ := rollReq_opens cause pos rolling armed rfl
      rw [run, opens.takes]

/-- A roll in STOPPED that finds room leaves the other takes, but for the drains moving on, and adds OPEN (R82, R111). -/
theorem rollOpens_link (r : Nat) (list : s.delivery.list.length < 4) (table : s.takes.table.length < 16)
    (space : NoticeRoom s) : (s.rollOpens cause r).link =
      noticed s.link ((s.newRecord cause r).openNotice s.anyDrainEnabled) := by
  have whole : s.listed.takes.table.length < 16 := by
    rw [listed_room list]
    exact table
  have made : s.rollMakesRoom = s.listed := (rollMakesRoom_eq s).trans (evict_room whole)
  have link : (s.takeEntered cause r).activate.link = s.link := by
    rw [activate_eq, State.takeEntered, made, listed_room list]
    rfl
  rw [rollOpens_eq, notify_room _ (show (s.takeEntered cause r).activate.link.notices.length < 32 by rwa [link]), link]

end

end Sys2Proof.Machine
end

section
/-! SUPPORT. The marks (R98 to R102): which of them fire, and what a mark's roll or cut leaves with the MRKE notice after it. -/

namespace Sys2Proof.Machine

/-! ## Which marks fire (R100) -/

section
variable {s : State}

theorem notify_of_eq {t u : State} (n : Notice) (same : t = u) : t.notify n = { u with link := (t.notify n).link } := by
  rw [same]
  rfl

theorem notify_link {n : Notice} {l : Link} (before : s.link = l) (space : l.notices.length < 32) :
    (s.notify n).link = noticed l n := by
  subst before
  rw [notify_room n space]

theorem noticed_length (l : Link) (n : Notice) : (noticed l n).notices.length = l.notices.length + 1 :=
  List.length_append ..

/-- The firing of the start mark leaves the stop mark. -/
theorem fireMark_start_stopMark (pos c1 c2 : Nat) : (s.fireMark .start pos c1 c2).takes.stopMark = s.takes.stopMark := by
  rw [State.fireMark, notify_takes, rollReq_takes]
  rfl

theorem takeMarksFired_some {due : MarkDue} (waits : s.takes.markDue = some due) : s.takeMarksFired =
    ((s.modTakes fun t => { t with markDue := none }).fireEntered due .start due.start).fireEntered due .stop due.stop := by
  rw [State.takeMarksFired, waits]

/-- Whether a mark fires is told by its setting before any mark has fired. -/
theorem fireEntered_of {v : State} {due : MarkDue} {m : MarkName} {entered : Bool} (same : v.mark m = s.mark m)
    (fires : entered = true ∧ (s.mark m).armed = true ∧ (s.mark m).count = due.count) :
    v.fireEntered due m entered = v.fireMark m due.pos due.count due.count := if_pos (by rwa [same])

theorem fireEntered_of_not {v : State} {due : MarkDue} {m : MarkName} {entered : Bool} (same : v.mark m = s.mark m)
    (stays : ¬(entered = true ∧ (s.mark m).armed = true ∧ (s.mark m).count = due.count)) :
    v.fireEntered due m entered = v := if_neg (by rwa [same])

end

/-! ## A mark's roll and cut (R102) -/

section
variable {s : State} (pos c1 c2 : Nat)

theorem fireMark_start {u : State} {o : RollOutcome} (taken : (s.disarm .start).rollReq .mark pos = (u, o)) :
    s.fireMark .start pos c1 c2 =
      u.notify (s.mrkeNotice .start true pos c1 c2 (some o.forMark) (o.markTake u.openId)) := by
  rw [State.fireMark, taken]

theorem fireMark_stop {u : State} {o : CutOutcome} (taken : (s.disarm .stop).cutReq .mark pos none = (u, o)) :
    s.fireMark .stop pos c1 c2 = u.notify (s.mrkeNotice .stop true pos c1 c2 (some o.forMark) o.markTake) := by
  rw [State.fireMark, taken]

end

/-- Settles O38: the marks that fire are those entered and armed, the start mark first; each hands its roll or cut, and MRKE
follows what that queues. -/
theorem markFiredDisarmsAndReports : Obligations.MarkFiredDisarmsAndReports := by
  unfold Obligations.MarkFiredDisarmsAndReports
  refine ⟨fun s => ⟨fun none_due => ?none, fun due u fires waits hu hfires => ?some⟩,
    fun s pos c1 c2 mrke disarmed hmrke hdisarmed => ⟨fun rolling space => ?already, fun going unarmed space => ?unarmed,
      fun going armed => ?opens⟩,
    fun s pos c1 c2 mrke disarmed hmrke hdisarmed => ⟨fun idle space => ?idle,
      fun r c rolling opened found hc => ⟨fun ahead => ?tail, fun passed => ?close⟩⟩⟩
  case none =>
    refine congrArg Host.Outcome.next ?_
    rw [State.takeMarksFired, none_due]
  case some =>
    subst hu
    have run := congrArg (Host.Outcome.next (φ := Fault) (ρ := Refusal)) (takeMarksFired_some waits)
    generalize hu : (s.modTakes fun t => { t with markDue := none }) = u at run
    have marks (m : MarkName) : u.mark m = s.mark m := by
      rw [← hu]
      cases m <;> rfl
    have stop : (u.fireMark .start due.pos due.count due.count).mark .stop = s.mark .stop :=
      (fireMark_start_stopMark ..).trans (marks .stop)
    have fired (m : MarkName) (h : fires m) := (hfires m).1 h
    have stayed (m : MarkName) (h : ¬fires m) := fun k => h ((hfires m).2 k)
    rw [show State.mk .. = u from hu]
    refine ⟨fun start_stays stop_stays => run.trans ?_, fun m other ne m_fires other_stays => run.trans ?_,
      fun start_fires stop_fires => run.trans ?_⟩
    · rw [fireEntered_of_not (marks .start) (stayed .start start_stays),
        fireEntered_of_not (marks .stop) (stayed .stop stop_stays)]
    · cases m with
      | start =>
        cases other with
        | start => exact absurd rfl ne
        | stop => rw [fireEntered_of (marks .start) (fired .start m_fires),
            fireEntered_of_not stop (stayed .stop other_stays)]
      | stop =>
        cases other with
        | start => rw [fireEntered_of_not (marks .start) (stayed .start other_stays),
            fireEntered_of (marks .stop) (fired .stop m_fires)]
        | stop => exact absurd rfl ne
    · rw [fireEntered_of (marks .start) (fired .start start_fires), fireEntered_of stop (fired .stop stop_fires)]
  case already =>
    rw [fireMark_start pos c1 c2 (rollReq_rolling (s := s.disarm .start) .mark pos rolling),
      notify_room (s := s.disarm .start) _ space, hmrke, hdisarmed]
    rfl
  case unarmed =>
    have refused := rollReq_unarmed (s := s.disarm .start) .mark pos going unarmed
    rw [State.refuseRoll, notify_room (s := s.disarm .start) _ (by exact Nat.lt_of_succ_lt space)] at refused
    rw [fireMark_start pos c1 c2 refused, notify_room _ (by exact (noticed_length ..).trans_lt space), hmrke, hdisarmed]
    rfl
  case opens =>
    obtain ⟨t, q, taken, opens, from_stopped⟩ := rollReq_opens (s := s.disarm .start) (r := min pos s.ring.p) .mark pos
      going armed rfl
    have run := fireMark_start pos c1 c2 taken
    have record := opens.record
    generalize q.sections = x at record
    subst record
    refine ⟨_, _, run, congrArg TakeCtl.state opens.takes, congrArg TakeCtl.startMark opens.takes,
      (congrArg TakeCtl.stopMark opens.takes :), opens.last, rfl, rfl, rfl, rfl, rfl, rfl,
      fun stopped table list space => ?_, fun stopped table list unlisted fresh p there => ?_, ?_⟩
    · have link := rollOpens_link (s := s.disarm .start) .mark (min pos s.ring.p) list table (Nat.lt_of_succ_lt space)
      rw [← from_stopped stopped] at link
      rw [notify_link link (by exact (noticed_length ..).trans_lt space), hmrke]
      rfl
    · obtain ⟨-, records, -⟩ := rollOpens_room (s := s.disarm .start) .mark (min pos s.ring.p) list table
      rw [← from_stopped stopped] at records
      exact (records p.id (fresh p (record?_mem there))).trans (congrArg (Option.map _) there)
    · rw [← run]
      exact (confined_fireMark s .start pos c1 c2).eq
  case idle =>
    rw [fireMark_stop pos c1 c2 (cutReq_idle (s := s.disarm .stop) .mark pos none idle),
      notify_room (s := s.disarm .stop) _ space, hmrke, hdisarmed]
    rfl
  case tail =>
    have cut := cutOpen_tail (s := s.disarm .stop) .mark c found ahead
    have run := fireMark_stop pos c1 c2 (cutReq_taken (s := s.disarm .stop) .mark pos rolling opened rfl hc)
    refine ⟨_, run, cut.record_other nofun, cut.others, fun space => ?_, ?_⟩
    · rw [notify_link (congrArg State.link cut.rest) space, hmrke]
      rfl
    · rw [hdisarmed]
      exact notify_of_eq _ cut.rest
  case close =>
    obtain ⟨q, closes⟩ := cutOpen_closed (s := s.disarm .stop) .mark c opened found passed rfl
    have run := fireMark_stop pos c1 c2 (cutReq_taken (s := s.disarm .stop) .mark pos rolling opened rfl hc)
    exact ⟨_, q, _, run, congrArg TakeCtl.state closes.takes, closes.found, closes.closed,
      congrArg TakeRecord.cut closes.same, congrArg TakeRecord.cutCause closes.same, congrArg TakeRecord.endPos closes.same,
      le_endRaised r _, congrArg TakeCtl.stopMark closes.takes, fun p => closes.others p, closes.swept, closes.idle,
      notify_of_eq _ closes.rest⟩

end Sys2Proof.Machine
end

section
/-! SUPPORT. The trigger lines (R103 to R107): what a confirmed edge hands to the take controller, when a LEVEL cut is held, and
the machine after one line's request or after both. -/

namespace Sys2Proof.Machine

/-! ## The lines -/

theorem triggers_ext {t u : Triggers} (h : ∀ n, t.get n = u.get n) : t = u := by
  obtain ⟨one, two⟩ := t
  obtain ⟨one', two'⟩ := u
  exact congrArg₂ Triggers.mk (h .one) (h .two)

theorem get_modify_line (t : Triggers) (n : Line) (f : TrigLine → TrigLine) : (t.modify n f).get n = f (t.get n) := by
  cases n <;> rfl

theorem get_modify_other_line (t : Triggers) {n o : Line} (f : TrigLine → TrigLine) (ne : o ≠ n) :
    (t.modify n f).get o = t.get o := by
  cases n <;> cases o
  · exact absurd rfl ne
  · rfl
  · rfl
  · exact absurd rfl ne

theorem otherLine_ne (n : Line) : otherLine n ≠ n := by cases n <;> nofun

theorem eq_otherLine {n o : Line} (ne : o ≠ n) : o = otherLine n := by
  cases n <;> cases o
  · exact absurd rfl ne
  · rfl
  · rfl
  · exact absurd rfl ne

/-- Both filters brought up to date (R105). -/
def Triggers.settled (t : Triggers) : Triggers := { line1 := t.line1.settleEdge, line2 := t.line2.settleEdge }

/-- The machine once both filters are up to date (R105). -/
def State.edgesSettled (s : State) : State := { s with triggers := s.triggers.settled }

theorem settled_get (t : Triggers) (n : Line) : t.settled.get n = (t.get n).settleEdge := by cases n <;> rfl

theorem settleEdge_none {l : TrigLine} (quiet : l.confirmed = none) : l.settleEdge = l := by
  rw [TrigLine.settleEdge, quiet]

theorem settleEdge_some {l : TrigLine} {c : ConfirmedEdge} (confirmed : l.confirmed = some c) : l.settleEdge =
    { l with level := some c.level, pending := none, lastEdge := some (c.first, c.direction)
             edgeCount := (l.edgeCount + 1) % 65536, confirmed := none } := by
  rw [TrigLine.settleEdge, confirmed]

theorem isAsserted_iff (l : TrigLine) : l.isAsserted = true ↔ l.level = some (!l.assertedLow) := by
  unfold TrigLine.isAsserted
  cases l.level with
  | none => exact iff_of_false nofun nofun
  | some high => cases high <;> cases l.assertedLow <;> decide

/-- A LEVEL cut is held while the other line is in LEVEL mode and asserted (R83, R106). -/
theorem otherHolds_iff (s : State) (n : Line) : s.otherHolds n = true ↔
    (s.triggers.get (otherLine n)).mode = .level
    ∧ (s.triggers.get (otherLine n)).level = some (!(s.triggers.get (otherLine n)).assertedLow) := by
  rw [State.otherHolds, Bool.and_eq_true, decide_eq_true_iff, isAsserted_iff]

/-! ## The request of an edge (R105, R107) -/

/-- The outcome kept by a line (R107). -/
def Triggers.keep (t : Triggers) (n : Line) (o : LineOutcome) : Triggers :=
  t.modify n fun l => { l with lastOutcome := some o }

section
variable {s u : State} {n : Line} {e : ConfirmedEdge} {q : TrigRequest} {o : LineOutcome}

theorem takeEdges_eq (s : State) : s.takeEdges =
    (s.edgesSettled.handEdge .one s.triggers.line1.confirmed).handEdge
      .two s.triggers.line2.confirmed := rfl

theorem handEdge_request (request : e.request = some q) (taken : s.lineRequest n q e.first = (u, o)) :
    s.handEdge n (some e) = { u with triggers := u.triggers.keep n o } := by
  unfold State.handEdge
  dsimp only
  rw [request]
  dsimp only
  rw [taken]
  rfl

theorem handEdge_silent (request : e.request = none) : s.handEdge n (some e) = s := by
  unfold State.handEdge
  dsimp only
  rw [request]

/-- With an edge confirmed on one line alone, that line's request is all that is handed. -/
theorem takeEdges_single (confirmed : (s.triggers.get n).confirmed = some e)
    (others : ∀ o, o ≠ n → (s.triggers.get o).confirmed = none) :
    s.takeEdges = s.edgesSettled.handEdge n (some e) := by
  rw [takeEdges_eq]
  cases n with
  | one =>
    rw [show s.triggers.line1.confirmed = some e from confirmed,
      show s.triggers.line2.confirmed = none from others .two nofun]
    rfl
  | two =>
    rw [show s.triggers.line2.confirmed = some e from confirmed,
      show s.triggers.line1.confirmed = none from others .one nofun]
    rfl

variable (pos : Nat)

/-- A roll, and a toggle outside ROLLING, is handed as a roll. -/
theorem lineRequest_roll (rolls : q = .roll ∨ (q = .toggle ∧ s.takes.state ≠ .rolling)) :
    s.lineRequest n q pos = s.lineRoll n pos := by
  rcases rolls with rfl | ⟨rfl, going⟩
  · rfl
  · exact if_neg going

/-- A LEVEL cut is handed with its mark, and a toggle in ROLLING as a cut without one. -/
theorem lineRequest_cut (cuts : q = .levelCut ∨ (q = .toggle ∧ s.takes.state = .rolling)) :
    s.lineRequest n q pos = s.lineCut n pos (if q = .levelCut then some n else none) := by
  rcases cuts with rfl | ⟨rfl, rolling⟩
  · rfl
  · exact if_pos rolling

theorem lineRoll_of {o : RollOutcome} (taken : s.rollReq (lineCause n) pos = (u, o)) :
    s.lineRoll n pos = (u, o.forLine) := by
  rw [State.lineRoll, taken]

theorem lineCut_of {o : CutOutcome} {level : Option Line} (taken : s.cutReq (lineCause n) pos level = (u, o)) :
    s.lineCut n pos level = (u, o.forLine) := by
  rw [State.lineCut, taken]

theorem refuseRoll_line (r : Nat) (space : NoticeRoom s) : s.refuseRoll (lineCause n) r =
    { s with link := noticed s.link (.refu (lineCause n) r) } := by
  cases n <;> exact notify_room _ space

end

theorem withTriggers_of_eq {t u : State} (x : Triggers) (same : t = u) :
    ({ t with triggers := x } : State) = { u with triggers := x } := by rw [same]

/-! ## One line's edge -/

section
variable {s : State} {n : Line} {c : ConfirmedEdge} {after : Option LineOutcome → Triggers}
  (confirmed : (s.triggers.get n).confirmed = some c) (others : ∀ o, o ≠ n → (s.triggers.get o).confirmed = none)
  (line : ∀ outcome, (after outcome).get n = { s.triggers.get n with
      level := some c.level, pending := none, lastEdge := some (c.first, c.direction)
      edgeCount := ((s.triggers.get n).edgeCount + 1) % 65536, lastOutcome := outcome, confirmed := none }
    ∧ ∀ o, o ≠ n → (after outcome).get o = s.triggers.get o)
include confirmed others line

/-- The lines once both filters are up to date, in the words of the statement. -/
theorem settled_single : s.triggers.settled = after (s.triggers.get n).lastOutcome := by
  refine triggers_ext fun o => ?_
  obtain ⟨here, elsewhere⟩ := line (s.triggers.get n).lastOutcome
  rw [settled_get]
  by_cases same : o = n
  · rw [same, here, settleEdge_some confirmed]
  · rw [elsewhere o same, settleEdge_none (others o same)]

theorem keep_single (o : LineOutcome) : s.triggers.settled.keep n o = after (some o) := by
  rw [settled_single confirmed others line]
  refine triggers_ext fun m => ?_
  obtain ⟨before, before_others⟩ := line (s.triggers.get n).lastOutcome
  obtain ⟨here, elsewhere⟩ := line (some o)
  by_cases same : m = n
  · rw [same, Triggers.keep, get_modify_line, before, here]
  · rw [Triggers.keep, get_modify_other_line _ _ same, before_others m same, elsewhere m same]

/-- An edge that hands a request leaves what the request leaves, and its line keeps the outcome. -/
theorem exec_edge_single {q : TrigRequest} {u : State} {o : LineOutcome} (request : c.request = some q)
    (taken : s.edgesSettled.lineRequest n q c.first = (u, o))
    (kept : u.triggers = s.triggers.settled) : exec .edgeConfirmed s = .next { u with triggers := after (some o) } := by
  refine congrArg Host.Outcome.next ?_
  rw [takeEdges_single confirmed others, handEdge_request request taken, kept, keep_single confirmed others line]

theorem exec_edge_roll {u : State} {o : RollOutcome}
    (rolls : c.request = some .roll ∨ (c.request = some .toggle ∧ s.takes.state ≠ .rolling))
    (taken : s.edgesSettled.rollReq (lineCause n) c.first = (u, o))
    (kept : u.triggers = s.triggers.settled) :
    exec .edgeConfirmed s = .next { u with triggers := after (some o.forLine) } := by
  obtain ⟨q, request, hands⟩ : ∃ q, c.request = some q
      ∧ (q = .roll ∨ (q = .toggle ∧ s.takes.state ≠ .rolling)) :=
    rolls.elim (fun h => ⟨_, h, .inl rfl⟩) fun h => ⟨_, h.1, .inr ⟨rfl, h.2⟩⟩
  exact exec_edge_single confirmed others line request
    ((lineRequest_roll (s := s.edgesSettled) _ hands).trans (lineRoll_of _ taken)) kept

/-- The mark that an edge's cut carries: a LEVEL cut that of its line, a toggle none. -/
def ConfirmedEdge.cutMark (c : ConfirmedEdge) (n : Line) : Option Line :=
  if c.request = some .levelCut then some n else none

theorem exec_edge_cut {u : State} {o : CutOutcome}
    (cuts : c.request = some .levelCut ∨ (c.request = some .toggle ∧ s.takes.state = .rolling))
    (taken : s.edgesSettled.cutReq (lineCause n) c.first (c.cutMark n) = (u, o))
    (kept : u.triggers = s.triggers.settled) :
    exec .edgeConfirmed s = .next { u with triggers := after (some o.forLine) } := by
  obtain ⟨q, request, hands⟩ : ∃ q, c.request = some q
      ∧ (q = .levelCut ∨ (q = .toggle ∧ s.takes.state = .rolling)) :=
    cuts.elim (fun h => ⟨_, h, .inl rfl⟩) fun h => ⟨_, h.1, .inr ⟨rfl, h.2⟩⟩
  have mark : c.cutMark n = if q = .levelCut then some n else none := by
    rw [ConfirmedEdge.cutMark, request]
    exact if_congr (Option.some_inj ..) rfl rfl
  rw [mark] at taken
  refine exec_edge_single confirmed others line request ((lineRequest_cut (s := s.edgesSettled) _ hands).trans ?_) kept
  exact lineCut_of _ taken

omit confirmed line in
/-- Whether the edge's cut is held, in the words of the statement (R83, R106). -/
theorem cutHeld_settled_iff : s.edgesSettled.cutHeld (c.cutMark n) = true ↔
    c.request = some .levelCut ∧ ∃ o, o ≠ n ∧ (s.triggers.get o).mode = .level
      ∧ (s.triggers.get o).level = some (!(s.triggers.get o).assertedLow) := by
  have other : s.edgesSettled.triggers.get (otherLine n) = s.triggers.get (otherLine n) := by
    rw [State.edgesSettled, settled_get, settleEdge_none (others _ (otherLine_ne n))]
  unfold ConfirmedEdge.cutMark
  split
  · rename_i level
    refine (otherHolds_iff _ n).trans ?_
    simp only [other]
    refine ⟨fun holds => ⟨level, _, otherLine_ne n, holds⟩, fun ⟨_, o, ne, holds⟩ => ?_⟩
    obtain rfl := eq_otherLine ne
    exact holds
  · rename_i toggle
    exact iff_of_false nofun fun h => toggle h.1

end

/-! ## Both lines' edges (R105) -/

section
variable {s : State} {c1 c2 : ConfirmedEdge} (one : s.triggers.line1.confirmed = some c1)
  (two : s.triggers.line2.confirmed = some c2)
include one two

/-- Line 1's request is handed, and then the roll of line 2 finds a take open. -/
theorem takeEdges_both {q : TrigRequest} {u : State} {o : LineOutcome} (first : c1.request = some q)
    (second : c2.request = some .roll)
    (taken : s.edgesSettled.lineRequest .one q c1.first = (u, o))
    (rolling : u.takes.state = .rolling) :
    s.takeEdges = { u with triggers := (u.triggers.keep .one o).keep .two .alreadyRolling } := by
  have after := lineRoll_of (n := .two) c2.first (rollReq_rolling (s := { u with triggers := u.triggers.keep .one o })
    (lineCause .two) c2.first rolling)
  rw [takeEdges_eq, one, two, handEdge_request first taken, handEdge_request (o := .alreadyRolling) second after]

end

/-- Settles O39: one line's request by what it asks for and by the take state, and then both lines' in their order. -/
theorem confirmedEdgesAreActedOn : Obligations.ConfirmedEdgesAreActedOn := by
  unfold Obligations.ConfirmedEdgesAreActedOn
  refine ⟨fun s one two => congrArg Host.Outcome.next (takeEdges_none one two),
    fun s n c cause pos rolls cuts after confirmed others hcause hpos hrolls hcuts line => ?single,
    fun s c1 c2 one two second => ⟨fun first going armed => ?rolls, fun r first rolling opened mode level => ?held⟩,
    fun s cause p r rolling opened => ⟨fun mode level => ?two_holds, fun mode level => ?one_holds⟩⟩
  case single =>
    obtain rfl : cause = lineCause n := by rw [hcause]; cases n <;> rfl
    have settled : s.edgesSettled = { s with triggers := after (s.triggers.get n).lastOutcome } :=
      congrArg (fun t => ({ s with triggers := t } : State)) (settled_single confirmed others line)
    have run_roll {u : State} {o : RollOutcome} (h : rolls) :=
      exec_edge_roll (u := u) (o := o) confirmed others line (hrolls.1 h)
    have run_cut {u : State} {o : CutOutcome} (h : cuts) :=
      exec_edge_cut (u := u) (o := o) confirmed others line (hcuts.1 h)
    refine ⟨fun silent => ?silent, fun roll rolling => ?already, fun roll going unarmed space => ?unarmed,
      fun roll going armed => ?opens, fun cut idle => ?idle,
      fun r held at_pos cut rolling opened found hat hheld => ⟨fun holds => ?holds, fun free ahead => ?tail,
        fun free passed => ?close⟩⟩
    case silent =>
      refine congrArg Host.Outcome.next ((takeEdges_single confirmed others).trans ?_)
      exact (handEdge_silent silent).trans settled
    case already => exact run_roll roll (rollReq_rolling (s := s.edgesSettled) _ _ rolling) rfl
    case unarmed =>
      have refused := rollReq_unarmed (s := s.edgesSettled) (lineCause n) c.first going unarmed
      rw [refuseRoll_line _ (by exact space)] at refused
      refine (run_roll roll refused rfl).trans ?_
      rw [hpos]
      rfl
    case opens =>
      obtain ⟨t, q, taken, opens, from_stopped⟩ :=
        rollReq_opens (s := s.edgesSettled) (lineCause n) c.first going armed hpos
      have run := run_roll roll taken opens.confined.triggers
      have record := opens.record
      generalize q.sections = x at record
      subst record
      refine ⟨_, _, run, congrArg TakeCtl.state opens.takes, opens.last, rfl, rfl, rfl, rfl, rfl, rfl, rfl,
        fun stopped table list unlisted fresh p there => ?_, ?_⟩
      · obtain ⟨-, records, -⟩ := rollOpens_room (s := s.edgesSettled) (lineCause n) pos list table
        rw [← from_stopped stopped] at records
        exact (records p.id (fresh p (record?_mem there))).trans (congrArg (Option.map _) there)
      · exact withTriggers_of_eq _ opens.confined.eq
    case idle => exact run_cut cut (cutReq_idle (s := s.edgesSettled) _ _ _ idle) rfl
    case holds =>
      exact run_cut cut (cutReq_held (s := s.edgesSettled) _ _ rolling opened
        ((cutHeld_settled_iff others).2 (hheld.1 holds))) rfl
    case tail =>
      have taken := cutReq_taken (s := s.edgesSettled) (level := c.cutMark n) (lineCause n) c.first rolling opened
        (Bool.eq_false_iff.2 fun h => free (hheld.2 ((cutHeld_settled_iff others).1 h))) (hpos ▸ hat)
      have cuts := cutOpen_tail (s := s.edgesSettled) (lineCause n) at_pos found ahead
      refine ⟨_, run_cut cut taken (by rw [cuts.rest]; rfl), cuts.record_other (by cases n <;> nofun), cuts.others, ?_⟩
      exact withTriggers_of_eq _ cuts.rest
    case close =>
      have taken := cutReq_taken (s := s.edgesSettled) (level := c.cutMark n) (lineCause n) c.first rolling opened
        (Bool.eq_false_iff.2 fun h => free (hheld.2 ((cutHeld_settled_iff others).1 h))) (hpos ▸ hat)
      obtain ⟨q, closes⟩ := cutOpen_closed (s := s.edgesSettled) (lineCause n) at_pos opened found passed rfl
      exact ⟨_, q, run_cut cut taken closes.confined.triggers, congrArg TakeCtl.state closes.takes, closes.found,
        closes.closed, congrArg TakeRecord.cut closes.same, congrArg TakeRecord.cutCause closes.same,
        congrArg TakeRecord.endPos closes.same, rfl, fun p => closes.others p, closes.swept, closes.idle,
        withTriggers_of_eq _ closes.rest⟩
  case rolls =>
    obtain ⟨t, q, taken, opens, -⟩ := rollReq_opens (s := s.edgesSettled) .trigger1 c1.first going armed rfl
    have run := congrArg (Host.Outcome.next (φ := Fault) (ρ := Refusal)) (takeEdges_both one two first second
      (lineRoll_of (n := .one) _ taken) (congrArg TakeCtl.state opens.takes))
    have record := opens.record
    generalize q.sections = x at record
    subst record
    exact ⟨_, _, run, opens.last, rfl, rfl, rfl, rfl, rfl⟩
  case held =>
    have asserted : s.edgesSettled.triggers.line2.level = some c2.level := by
      rw [State.edgesSettled, Triggers.settled, settleEdge_some two]
    have same : s.edgesSettled.triggers.line2.mode = .level
        ∧ s.edgesSettled.triggers.line2.assertedLow = s.triggers.line2.assertedLow := by
      rw [State.edgesSettled, Triggers.settled, settleEdge_some two]
      exact ⟨mode, rfl⟩
    have holds : s.edgesSettled.otherHolds .one = true :=
      (otherHolds_iff _ .one).2 ⟨same.1, asserted.trans (by rw [level]; exact congrArg (fun b => some !b) same.2.symm)⟩
    have taken := cutReq_held (s := s.edgesSettled) (level := some .one) .trigger1 c1.first rolling opened holds
    have run := congrArg (Host.Outcome.next (φ := Fault) (ρ := Refusal)) (takeEdges_both one two first second
      (lineCut_of (n := .one) _ taken) rolling)
    exact ⟨_, run, rfl, rfl, rfl⟩
  case two_holds => exact cutReq_held cause p rolling opened ((otherHolds_iff s .one).2 ⟨mode, level⟩)
  case one_holds => exact cutReq_held cause p rolling opened ((otherHolds_iff s .two).2 ⟨mode, level⟩)

end Sys2Proof.Machine
end

section
/-! SUPPORT. The settings of the take controller, the marks and the trigger lines (R67, R68, R98, R99, R108). -/

namespace Sys2Proof.Machine

/-! ## CAPS (R67, R68) -/

theorem clamp_zero (high n : Nat) : clamp 0 high n = min n high := (clamp_eq n (Nat.zero_le high)).trans (Nat.zero_max _)

theorem capturesOf_eq (f : CaptureFields) : capturesOf f =
    { preRoll := min f.preRoll.toNat 10000 * 48, postRoll := min f.postRoll.toNat 10000 * 48
      maxLength := min f.maxLength.toNat 240 * 2880000, window := min f.window.toNat 120 * 48000
      grace := min f.grace.toNat 60 * 48000 } := by
  simp only [capturesOf, clamp_zero]

/-- The machine with new capture settings (R68). -/
def State.withCaps (s : State) (x : Captures) : State := s.modTakes fun t => { t with caps := x }

/-- A CAPS set stores the settings, and tests the maximum length at once (R68, R85). -/
theorem exec_capsSet {s : State} (tag : BitVec 8) {f : CaptureFields} {x : Captures} (room : HasRoom s)
    (fields : capturesOf f = x) : exec (.capsSet tag f) s =
      .next (((s.modLink Link.goodFrame).withCaps x).takeLimitCut.withReply tag .caps .ok (.caps x)) := by
  subst fields
  exact congrArg Host.Outcome.next (serve_room tag ReqKind.caps.word (reqCapsSet f) room)

/-! ## MARK (R98, R99) -/

section
variable {s : State} (tag : BitVec 8) {n : BitVec 8} {m : MarkName}

theorem markOf_eq (code : n = match m with | .start => 0 | .stop => 1) : markOf n = some m := by
  subst code
  cases m <;> rfl

theorem exec_markSet_label (room : HasRoom s) (mark : markOf n = some m) {l : Label}
    (invalid : validLabel s.timeline.rate l = false) :
    exec (.markSet tag n l) s = .next (replied s tag .mark .label .none) := by
  have answer : reqMarkSet n l (s.modLink Link.goodFrame) = refuse (s.modLink Link.goodFrame) .label := by
    rw [reqMarkSet, mark]
    exact if_pos invalid
  refine congrArg Host.Outcome.next ((serve_room tag ReqKind.mark.word (reqMarkSet n l) room).trans ?_)
  rw [answer]
  rfl

theorem exec_markSet (room : HasRoom s) (mark : markOf n = some m) {l : Label}
    (valid : validLabel s.timeline.rate l = true) : exec (.markSet tag n l) s =
      .next ((s.armMark m (labelCount s.timeline.rate l)).modLink fun x => answered x tag .mark .ok
        (s.armMark m (labelCount s.timeline.rate l)).markResult) := by
  have answer : reqMarkSet n l (s.modLink Link.goodFrame) =
      okAnswer ((s.modLink Link.goodFrame).armMark m (labelCount s.timeline.rate l))
        ((s.modLink Link.goodFrame).armMark m (labelCount s.timeline.rate l)).markResult := by
    rw [reqMarkSet, mark]
    exact if_neg (by rw [State.modLink_timeline, valid]; nofun)
  refine congrArg Host.Outcome.next ((serve_room tag ReqKind.mark.word (reqMarkSet n l) room).trans ?_)
  rw [answer]
  cases m <;> rfl

theorem exec_markClear (room : HasRoom s) (mark : markOf n = some m) : exec (.markClear tag n) s =
    .next ((s.disarm m).modLink fun x => answered x tag .mark .ok (s.disarm m).markResult) := by
  have answer : reqMarkClear n (s.modLink Link.goodFrame) =
      okAnswer ((s.modLink Link.goodFrame).disarm m) ((s.modLink Link.goodFrame).disarm m).markResult := by
    rw [reqMarkClear, mark]
  refine congrArg Host.Outcome.next ((serve_room tag ReqKind.mark.word (reqMarkClear n) room).trans ?_)
  rw [answer]
  cases m <;> rfl

end

/-! ## TRIG (R108) -/

theorem modify_eq_set {t : Triggers} {n : Line} {f : TrigLine → TrigLine} {x : TrigLine} (h : f (t.get n) = x) :
    t.modify n f = t.modify n fun _ => x := by
  subst h
  cases n <;> rfl

theorem exec_trigSet {s : State} (tag : BitVec 8) {line mc pc : BitVec 8} {g : BitVec 16} {n : Line} {m : TrigMode}
    {low : Bool} {x : TrigLine} (room : HasRoom s) (named : lineOf line = some n) (mode : trigModeOf mc = some m)
    (polarity : flagOf pc = some low)
    (settings : x = { s.triggers.get n with mode := m, assertedLow := low, filter := min g.toNat 4800 }) :
    exec (.trigSet tag line mc pc g) s = .next { s with
      link := answered s.link tag .trig .ok (.trig x), triggers := s.triggers.modify n fun _ => x } := by
  have answer : reqTrigSet line mc pc g (s.modLink Link.goodFrame) =
      okAnswer ((s.modLink Link.goodFrame).modTriggers fun t => t.modify n fun _ => x) (.trig x) := by
    have configured : (s.triggers.get n).configure m low (clamp 0 4800 g.toNat) = x := by
      rw [settings, clamp_zero]
      rfl
    rw [reqTrigSet, named, mode, polarity]
    exact congrArg₂ (fun t y => okAnswer { s.modLink Link.goodFrame with triggers := t } (.trig y))
      (modify_eq_set (f := fun l => l.configure m low (clamp 0 4800 g.toNat)) configured) configured
  refine congrArg Host.Outcome.next ((serve_room tag ReqKind.trig.word (reqTrigSet line mc pc g) room).trans ?_)
  rw [answer]
  rfl

/-- Settles O40: the settings are stored, and a maximum length then reached cuts by the rule of LIMIT_CUT. -/
theorem captureMarkAndTriggerSettingsAreStored : Obligations.CaptureMarkAndTriggerSettingsAreStored := by
  unfold Obligations.CaptureMarkAndTriggerSettingsAreStored
  refine ⟨fun s tag f x room going hx => ?idle,
    fun s tag f x r c room rolling opened found hc hx => ⟨fun early => ?early, fun some_length reached ahead => ?tail,
      fun some_length passed => ?close⟩,
    fun s tag l m n room code => ⟨fun invalid => ?label, fun valid => ?set, ?clear⟩,
    fun s tag mc pc g n m low x room mode polarity hx => ?trig⟩
  case idle =>
    rw [exec_capsSet tag room ((capturesOf_eq f).trans hx.symm),
      takeLimitCut_idle (s := (s.modLink Link.goodFrame).withCaps x) going]
    rfl
  case early =>
    subst hc
    rw [exec_capsSet tag room ((capturesOf_eq f).trans hx.symm),
      takeLimitCut_early (s := (s.modLink Link.goodFrame).withCaps x) rolling opened early]
    rfl
  case tail =>
    subst hc
    have run := exec_capsSet tag room ((capturesOf_eq f).trans hx.symm)
    rw [takeLimitCut_due (s := (s.modLink Link.goodFrame).withCaps x) rolling opened some_length reached] at run
    have cut := cutOpen_tail (s := (s.modLink Link.goodFrame).withCaps x) .limit (r.roll + x.maxLength) found ahead
    exact ⟨_, run, cut.record_limit, cut.others, withReply_of_takes tag .caps .ok _ cut.rest⟩
  case close =>
    subst hc
    have run := exec_capsSet tag room ((capturesOf_eq f).trans hx.symm)
    rw [takeLimitCut_due (s := (s.modLink Link.goodFrame).withCaps x) rolling opened some_length
      (Nat.le_trans (Nat.le_add_right ..) passed)] at run
    obtain ⟨q, closes⟩ := cutOpen_closed (s := (s.modLink Link.goodFrame).withCaps x) .limit (r.roll + x.maxLength)
      opened found passed rfl
    rw [cutAt_limit] at closes
    exact ⟨_, q, _, run, congrArg TakeCtl.state closes.takes, congrArg TakeCtl.caps closes.takes, closes.found,
      closes.closed, congrArg TakeRecord.cut closes.same, congrArg TakeRecord.cutCause closes.same,
      congrArg TakeRecord.limited closes.same, congrArg TakeRecord.endPos closes.same, le_endRaised r _,
      congrArg TakeRecord.windowEnd closes.same, withReply_replies_of_confined tag .caps .ok _
        ((confined_modTakes ..).trans closes.confined),
      fun p => closes.others p, closes.swept, closes.idle, withReply_of_rest tag .caps .ok _ closes.rest⟩
  case label => exact exec_markSet_label tag room (markOf_eq code) invalid
  case set =>
    refine ⟨_, exec_markSet tag room (markOf_eq code) valid, ?_⟩
    cases m <;> rfl
  case clear =>
    refine ⟨_, exec_markClear tag room (markOf_eq code), ?_⟩
    cases m <;> rfl
  case trig =>
    refine (exec_trigSet tag room (n := n) (by cases n <;> rfl) mode polarity hx).trans ?_
    cases n <;> rfl

end Sys2Proof.Machine
end

section
/-! SUPPORT. FINAL (R91, R130): the record and the notice that one test leaves, and the window's end for the whole table. -/

namespace Sys2Proof.Machine

/-! ## Settling the blocks in flight (R130) -/

theorem unsettledOf_iff {x : DrainState} {id : Nat} {b : Block} : x.unsettledOf id = some b ↔
    x.inFlight = some b ∧ b.header.takeId = id ∧ b.settled = false := by
  unfold DrainState.unsettledOf
  cases x.inFlight with
  | none => exact iff_of_false nofun nofun
  | some c =>
    dsimp only
    split
    · rename_i unsettled
      refine ⟨fun h => ?_, fun h => h.1⟩
      obtain rfl := Option.some.inj h
      exact ⟨rfl, unsettled⟩
    · rename_i other
      refine iff_of_false nofun fun ⟨same, unsettled⟩ => other ?_
      obtain rfl := Option.some.inj same
      exact unsettled

/-- What FINAL abandons on a drain is the take's count in flight there (R130). -/
theorem flightOf_eq (x : DrainState) (id : Nat) :
    x.flightOf id = ((x.unsettledOf id).map fun b => b.header.count).getD 0 := by
  unfold DrainState.flightOf DrainState.unsettledOf
  cases x.inFlight with
  | none => rfl
  | some b =>
    dsimp only
    split <;> rfl

/-- A record with the sample periods of a drain's block in flight abandoned (R130). -/
def TakeRecord.abandonFlight (d : Drain) (n : Nat) (r : TakeRecord) : TakeRecord :=
  { r with sections := r.sections.modify d fun x => { x with abandoned := x.abandoned + n } }

/-- A drain whose block in flight is settled where it is an unsettled one of a take (R130). -/
def DrainState.settle (x : DrainState) (id : Nat) : DrainState :=
  match x.unsettledOf id with
  | some b => { x with inFlight := some { b with settled := true } }
  | none => x

section
variable (s : State) (id : Nat) (d : Drain)

theorem settleOn_record? (j : Nat) : (s.settleOn id d).record? j =
    (s.record? j).map fun r => if r.id = id then r.abandonFlight d ((s.drain d).flightOf id) else r := by
  rw [flightOf_eq]
  unfold State.settleOn
  cases (s.drain d).unsettledOf id with
  | some b => exact record?_updSection s id j d _
  | none =>
    have same (r : TakeRecord) : (if r.id = id then r.abandonFlight d 0 else r) = r := by
      split
      · cases d <;> rfl
      · rfl
    exact ((congrArg (fun f => Option.map f (s.record? j)) (funext same)).trans Option.map_id').symm

theorem settleOn_link : (s.settleOn id d).link = s.link := by
  unfold State.settleOn
  split <;> rfl

theorem settleOn_drain : (s.settleOn id d).drain d = (s.drain d).settle id := by
  unfold State.settleOn DrainState.settle
  cases (s.drain d).unsettledOf id with
  | some b => exact State.drain_modDrain_same ..
  | none => rfl

theorem settleOn_drain_other {o : Drain} (ne : o ≠ d) : (s.settleOn id d).drain o = s.drain o := by
  unfold State.settleOn
  split
  · exact State.drain_modDrain_other _ _ _ _ ne
  · rfl

end

/-! ## One record (R91) -/

/-- A record made FINAL in `s`: its blocks in flight are settled first (R77, R91, R130). -/
def TakeRecord.finalIn (s : State) (early : Bool) (r : TakeRecord) : TakeRecord :=
  { r with
    state := .final, earlyFinal := r.earlyFinal || early
    sections := { a := { r.sections.a with abandoned := r.sections.a.abandoned + (s.drain .a).flightOf r.id }
                  b := { r.sections.b with abandoned := r.sections.b.abandoned + (s.drain .b).flightOf r.id } } }

theorem notify_link_congr {s t : State} (n : Notice) (same : t.link = s.link) : (t.notify n).link = (s.notify n).link := by
  rw [State.notify, State.notify, State.modLink_link, State.modLink_link, same]

section
variable {s : State} {id : Nat} {r : TakeRecord} (early : Bool)

theorem makeFinal_found (found : s.record? id = some r) :
    (s.makeFinal id early).record? id = some (r.finalIn s early)
    ∧ (s.makeFinal id early).link = (s.notify (.finl id { r.header with earlyFinal := r.earlyFinal || early })).link
    ∧ ∀ d, (s.makeFinal id early).drain d = (s.drain d).settle id := by
  obtain rfl := record?_id found
  have settled : ((s.settleOn r.id .a).settleOn r.id .b).record? r.id = some
      ((r.abandonFlight .a ((s.drain .a).flightOf r.id)).abandonFlight .b ((s.drain .b).flightOf r.id)) := by
    rw [settleOn_record?, settleOn_record?, found, settleOn_drain_other s r.id .a (o := .b) nofun, Option.map_some,
      if_pos rfl]
    exact congrArg some (if_pos rfl)
  have final : (((s.settleOn r.id .a).settleOn r.id .b).updRecord r.id (TakeRecord.madeFinal early)).record? r.id =
      some (r.finalIn s early) := record?_updRecord_same (f := TakeRecord.madeFinal early) (fun _ => rfl) settled
  have run : s.makeFinal r.id early =
      (((s.settleOn r.id .a).settleOn r.id .b).updRecord r.id (TakeRecord.madeFinal early)).notify
        (.finl r.id (r.finalIn s early).header) := by
    unfold State.makeFinal
    exact congrArg (fun o : Option TakeRecord => match o with
      | some q => (((s.settleOn r.id .a).settleOn r.id .b).updRecord r.id (TakeRecord.madeFinal early)).notify
          (.finl r.id q.header)
      | none => ((s.settleOn r.id .a).settleOn r.id .b).updRecord r.id (TakeRecord.madeFinal early)) final
  rw [run]
  refine ⟨final, notify_link_congr _ ?_, fun d => ?_⟩
  · rw [updRecord_link, settleOn_link, settleOn_link]
  · rw [notify_drain, updRecord_drain]
    cases d with
    | a => rw [settleOn_drain_other _ r.id .b (o := .a) nofun, settleOn_drain]
    | b => rw [settleOn_drain, settleOn_drain_other s r.id .a (o := .b) nofun]

end

/-! ## The tests of a run of takes (R91) -/

theorem isDueFinal_iff (s : State) (r : TakeRecord) : s.isDueFinal r = true ↔
    r.state = .closed ∧ r.id ∉ s.delivery.list ∧ ∃ w, r.windowEnd = some w ∧ w ≤ s.ring.p := by
  unfold State.isDueFinal
  cases r.windowEnd with
  | none => simp
  | some w => simp [and_assoc]

theorem isDueFinal_congr {s t : State} (list : t.delivery.list = s.delivery.list) (ring : t.ring = s.ring)
    (r : TakeRecord) : t.isDueFinal r = s.isDueFinal r := by
  rw [State.isDueFinal, State.isDueFinal, list, ring]

section
variable {s : State} {id : Nat} {r : TakeRecord}

theorem finalTest_due (found : s.record? id = some r) (due : s.isDueFinal r = true) :
    s.finalTest id = s.makeFinal id false := by
  unfold State.finalTest
  rw [found]
  exact if_pos due

theorem finalTest_left (found : s.record? id = some r) (early : s.isDueFinal r = false) : s.finalTest id = s := by
  unfold State.finalTest
  rw [found]
  exact if_neg (by rw [early]; nofun)

theorem finalTest_other {j : Nat} (ne : j ≠ id) : (s.finalTest id).record? j = s.record? j :=
  (finalsOf_finalTest (List.mem_singleton_self id) s).others j fun mem => ne (List.mem_singleton.1 mem)

theorem finalTest_dueness (id : Nat) (r : TakeRecord) : (s.finalTest id).isDueFinal r = s.isDueFinal r :=
  isDueFinal_congr (finalsOf_finalTest (List.mem_singleton_self id) s).list (confined_finalTest s id).ring r

/-- A record that is not due is left by the tests of any takes. -/
theorem finalTests_left (l : List Nat) (found : s.record? id = some r) (early : s.isDueFinal r = false) :
    (runAll (fun id s => s.finalTest id) l s).record? id = some r := by
  induction l generalizing s with
  | nil => exact found
  | cons j l ih =>
    refine ih (s := s.finalTest j) ?_ ((finalTest_dueness j r).trans early)
    by_cases same : j = id
    · subst same
      rw [finalTest_left found early]
      exact found
    · exact (finalTest_other fun h => same h.symm).trans found

/-- A record that is due is FINAL after the tests of takes of which it is one. -/
theorem finalTests_final {l : List Nat} (tested : id ∈ l) (found : s.record? id = some r) (due : s.isDueFinal r = true) :
    ∃ q, (runAll (fun id s => s.finalTest id) l s).record? id = some q ∧ q.state = .final := by
  induction l generalizing s with
  | nil => cases tested
  | cons j l ih =>
    by_cases same : j = id
    · subst same
      obtain ⟨final, -, -⟩ := makeFinal_found false found
      rw [← finalTest_due found due] at final
      exact ⟨_, finalTests_left l final (by rw [Bool.eq_false_iff, Ne, isDueFinal_iff]; exact fun h => nomatch h.1), rfl⟩
    · exact ih ((List.mem_cons.1 tested).resolve_left fun h => same h.symm)
        ((finalTest_other fun h => same h.symm).trans found) ((finalTest_dueness j r).trans due)

/-- Records that are due queue FINL in their order, with room for all. -/
theorem finalTests_link {due : List TakeRecord} (each : ∀ r ∈ due, s.record? r.id = some r ∧ s.isDueFinal r = true)
    (nodup : (due.map fun r => r.id).Nodup) (room : s.link.notices.length + due.length ≤ 32) :
    (runAll (fun id s => s.finalTest id) (due.map fun r => r.id) s).link =
      (due.map fun r => Notice.finl r.id r.header).foldl noticed s.link := by
  induction due generalizing s with
  | nil => rfl
  | cons r due ih =>
    obtain ⟨found, isDue⟩ := each r List.mem_cons_self
    obtain ⟨fresh, nodup⟩ := List.nodup_cons.1 nodup
    rw [List.length_cons] at room
    have link : (s.finalTest r.id).link = noticed s.link (.finl r.id r.header) := by
      obtain ⟨-, link, -⟩ := makeFinal_found false found
      rw [finalTest_due found isDue, link, Bool.or_false, notify_room _ (show s.link.notices.length < 32 by omega)]
      rfl
    refine (ih (s := s.finalTest r.id) (fun q mem => ?_) nodup ?_).trans ?_
    · obtain ⟨there, qDue⟩ := each q (List.mem_cons_of_mem _ mem)
      refine ⟨(finalTest_other fun same => fresh ?_).trans there, (finalTest_dueness r.id q).trans qDue⟩
      exact List.mem_map.2 ⟨q, mem, same⟩
    · rw [link, noticed_length]
      omega
    · rw [link]
      rfl

/-- Where no id stands twice, each record of the table is the one its id finds. -/
theorem record?_of_mem (nodup : (s.takes.table.map fun r => r.id).Nodup) (mem : r ∈ s.takes.table) :
    s.record? r.id = some r := by
  unfold State.record?
  generalize s.takes.table = l at nodup mem
  induction l with
  | nil => cases mem
  | cons q l ih =>
    obtain ⟨fresh, nodup⟩ := List.nodup_cons.1 nodup
    rw [List.find?_cons]
    rcases List.mem_cons.1 mem with rfl | later
    · rw [beq_self_eq_true]
    · have ne : (q.id == r.id) = false := beq_eq_false_iff_ne.2 fun same =>
        fresh (List.mem_map.2 ⟨r, later, same.symm⟩)
      rw [ne]
      exact ih nodup later

end

/-! ## WINDOW_END (R91) -/

/-- Settles O37: the tests are of the takes that are due, so each of these becomes FINAL and every other record is left. -/
theorem windowEndMakesRecordsFinal : Obligations.WindowEndMakesRecordsFinal := by
  unfold Obligations.WindowEndMakesRecordsFinal
  intro s
  have sweeps := sweeps_takeWindowEnd s
  refine ⟨s.takeWindowEnd, rfl, fun id r found closed unlisted passed => ?final, fun id r found early => ?left,
    fun due hdue nodup room => ?link, (finalsOf_runAll s.finalDue s).list, sweeps.eq⟩
  case final =>
    obtain rfl := record?_id found
    have due : s.isDueFinal r = true := (isDueFinal_iff s r).2 ⟨closed, unlisted, passed⟩
    refine finalTests_final ?_ found due
    exact List.mem_map_of_mem (List.mem_filter.2 ⟨record?_mem found, due⟩)
  case left =>
    obtain rfl := record?_id found
    refine finalTests_left _ found ?_
    rw [Bool.eq_false_iff, Ne, isDueFinal_iff]
    rintro ⟨closed, unlisted, w, window, passed⟩
    rcases early with state | listed | before
    · exact state closed
    · exact unlisted listed
    · exact Nat.not_lt.2 passed (before w window)
  case link =>
    have dueTable : due = s.takes.table.filter s.isDueFinal := by
      rw [hdue]
      refine List.filter_congr fun r _ => ?_
      rw [Bool.eq_iff_iff, decide_eq_true_iff, isDueFinal_iff]
      cases r.windowEnd <;> simp
    have run : s.takeWindowEnd = runAll (fun id s => s.finalTest id) (due.map fun r => r.id) s := by
      rw [dueTable]
      rfl
    rw [run]
    refine finalTests_link (fun r mem => ?_) ?_ room
    · rw [dueTable] at mem
      obtain ⟨there, isDue⟩ := List.mem_filter.1 mem
      exact ⟨record?_of_mem nodup there, isDue⟩
    · rw [dueTable]
      exact nodup.sublist (List.filter_sublist.map _)

end Sys2Proof.Machine
end

section
/-! SUPPORT. A full list and a full table make room (R77, R109, R129), and a record that becomes FINAL settles its block in
flight (R130). -/

namespace Sys2Proof.Machine

/-! ## The oldest take is truncated (R109, R129) -/

theorem truncateAt_eq (x : Section) (e : Nat) : x.truncateAt e = if x.state = .pending ∨ x.state = .active then
    { x with state := .abandoned, abandoned := x.abandoned + (e - x.formation) } else x := by
  unfold Section.truncateAt Section.live
  cases x.state <;> rfl

theorem truncateAt_live (x : Section) (e : Nat) : (x.truncateAt e).live = false := by
  cases live : x.live with
  | true => rw [Section.truncateAt, if_pos live]; rfl
  | false => rw [Section.truncateAt, if_neg (by rw [live]; nofun), live]

/-- A truncated record: the rest of its sections is given up (R129). -/
def TakeRecord.truncate (r : TakeRecord) : TakeRecord :=
  { r with truncated := true, sections := { a := r.sections.a.truncateAt (r.endPos.getD 0)
                                            b := r.sections.b.truncateAt (r.endPos.getD 0) } }

theorem truncate_live (r : TakeRecord) : r.truncate.live = false :=
  congrArg₂ or (truncateAt_live r.sections.a _) (truncateAt_live r.sections.b _)

theorem truncate_section (r : TakeRecord) {e : Nat} (ended : r.endPos = some e) (d : Drain) :
    r.truncate.sections.get d = (r.sections.get d).truncateAt e := by
  unfold TakeRecord.truncate
  rw [ended]
  cases d <;> rfl

section
variable {s : State} {id : Nat} {rest : List Nat} {r : TakeRecord}

/-- The machine that has truncated the oldest take, before the sweep. -/
def State.oldestCut (s : State) (id : Nat) : State :=
  (s.modTakes fun t => { t with nextId := followingId t.nextId }).updRecord id TakeRecord.truncate

theorem listed_full (enabled : s.anyDrainEnabled = true) (list : s.delivery.list = id :: rest) (full : rest.length = 3) :
    s.listed = (s.oldestCut id).sweepList.modDelivery fun e => { e with list := e.list ++ [s.takes.nextId] } := by
  have truncated : (s.modTakes fun t => { t with nextId := followingId t.nextId }).truncateOldest =
      (s.oldestCut id).sweepList := by
    unfold State.truncateOldest
    rw [State.modTakes_delivery, list]
    rfl
  have long : ¬s.delivery.list.length < Config.maxDelivering := by
    rw [list, List.length_cons, full]
    exact Nat.lt_irrefl 4
  rw [State.listed, if_pos enabled, State.enterList, State.modTakes_delivery, if_neg long, truncated]

theorem oldestCut_found (found : s.record? id = some r) : (s.oldestCut id).record? id = some r.truncate :=
  record?_updRecord_same (s := s.modTakes fun t => { t with nextId := followingId t.nextId }) (fun _ => rfl) found

variable (list : s.delivery.list = id :: rest) (apart : id ∉ rest)
  (live : ∀ j ∈ rest, ∃ q, s.record? j = some q ∧ q.live = true) (found : s.record? id = some r)
include list apart live found

/-- Of the four takes listed, the one truncated alone has nothing left to deliver. -/
theorem oldestCut_stillDelivering : ∀ j ∈ s.delivery.list, (s.oldestCut id).stillDelivering j = decide (j ≠ id) := by
  intro j mem
  rw [list] at mem
  rcases List.mem_cons.1 mem with rfl | later
  · rw [stillDelivering_found (oldestCut_found found), truncate_live]
    exact (decide_eq_false fun h => h rfl).symm
  · have ne : j ≠ id := fun same => apart (same ▸ later)
    obtain ⟨q, there, qLive⟩ := live j later
    have left : (s.oldestCut id).record? j = some q :=
      (record?_updRecord_other (s := s.modTakes fun t => { t with nextId := followingId t.nextId })
        (f := TakeRecord.truncate) (fun _ => rfl) ne).trans there
    rw [stillDelivering_found left, qLive, decide_eq_true ne]

theorem oldestCut_list : (s.oldestCut id).sweepList.delivery.list = rest := by
  have cut := oldestCut_stillDelivering list apart live found
  rw [sweepList_list]
  refine (List.filter_congr cut).trans ?_
  rw [list, List.filter_cons_of_neg (by simp), List.filter_eq_self]
  exact fun j mem => decide_eq_true fun same => apart (same ▸ mem)

/-- Before the take's window ends nothing becomes FINAL: the drains keep their blocks, and the record is the truncated one. -/
theorem oldestCut_swept {w : Nat} (window : r.windowEnd = some w) (before : s.ring.p < w) :
    (s.oldestCut id).swept = (s.oldestCut id).modDelivery fun e => { e with list := rest } := by
  have cut := oldestCut_stillDelivering list apart live found
  have tested : (s.delivery.list.filter fun j => !(s.oldestCut id).stillDelivering j) = [id] := by
    refine (List.filter_congr fun j mem => congrArg not (cut j mem)).trans ?_
    rw [list, List.filter_cons_of_pos (by simp), List.filter_eq_nil_iff.2]
    exact fun j mem h => absurd (decide_eq_true fun same : j = id => apart (same ▸ mem)) (by simpa using h)
  have kept : (s.delivery.list.filter fun j => (s.oldestCut id).stillDelivering j) = rest := by
    rw [← oldestCut_list list apart live found, sweepList_list]
    rfl
  have left : ((s.oldestCut id).modDelivery fun e =>
      { e with list := e.list.filter fun j => (s.oldestCut id).stillDelivering j }) =
      (s.oldestCut id).modDelivery fun e => { e with list := rest } :=
    congrArg (fun l => ({ s.oldestCut id with delivery := { s.delivery with list := l } } : State)) kept
  rw [State.swept, show (s.oldestCut id).delivery = s.delivery from rfl, tested, left]
  refine finalTest_left (oldestCut_found found) ?_
  rw [Bool.eq_false_iff, Ne, isDueFinal_iff]
  rintro ⟨-, -, w', window', passed⟩
  obtain rfl := Option.some.inj (window.symm.trans window')
  exact Nat.not_lt.2 passed before

/-- The truncated take's record once the new take has entered the list (R129). -/
theorem listed_full_record (enabled : s.anyDrainEnabled = true) (full : rest.length = 3) :
    ∃ q, s.listed.record? id = some q ∧ q.live = false
      ∧ q = { r.truncate with state := q.state, sections := q.sections }
      ∧ (∀ d, (q.sections.get d).state = (r.truncate.sections.get d).state)
      ∧ (∀ d, (s.drain d).inFlight = none → q.sections.get d = r.truncate.sections.get d)
      ∧ ∀ w, r.windowEnd = some w → s.ring.p < w → q = r.truncate ∧ ∀ d, s.listed.drain d = s.drain d := by
  have cut := oldestCut_found found
  obtain ⟨q, hq, follows⟩ := sweepList_record? _ cut
  rw [movedOn_eq _ _ (truncate_live r)] at follows
  have dead : q.live = r.truncate.live := congrArg₂ or (follows.live .a) (follows.live .b)
  have here : s.listed.record? id = some q :=
    (congrArg (fun v => State.record? v id) (listed_full enabled list full)).trans hq
  refine ⟨q, here, dead.trans (truncate_live r), follows.same, fun d => (congrArg Section.state (follows.sections d) :),
    fun d idle => ?_, fun w window before => ?_⟩
  · rw [sweepList_section_idle _ cut hq idle, movedOn_eq _ _ (truncate_live r)]
  · have swept := oldestCut_swept list apart live found window before
    refine ⟨?_, fun d => ?_⟩
    · rw [sweepList_eq, record?_activate, swept] at hq
      have same := (congrArg (Option.map _) cut).symm.trans hq
      exact (Option.some.inj same).symm.trans (movedOn_eq _ _ (truncate_live r))
    · rw [listed_full enabled list full, sweepList_eq, State.drain, State.modDelivery_delivery, activate_delivery, swept]
      rfl

end

section
variable {s : State} {id : Nat} (cause : Cause) (p : Nat)

/-- A table with room keeps what the list has left (R77). -/
theorem rollMakesRoom_table (room : s.takes.table.length < 16) : s.rollMakesRoom = s.listed := by
  rw [rollMakesRoom_eq, evict_room]
  have length := congrArg List.length (listed_frame s).2.1
  rw [List.length_map, List.length_map] at length
  rwa [length]

/-- A record that is not live is left as the new take enters. -/
theorem rollOpens_record?_dead {q : TakeRecord} (found : s.rollMakesRoom.record? id = some q) (dead : q.live = false) :
    (s.rollOpens cause p).record? id = some q := by
  rw [rollOpens_record?, takeEntered_record?, found]
  exact congrArg some (movedOn_eq _ _ dead)

theorem rollOpens_drain (d : Drain) : (s.rollOpens cause p).drain d = s.rollMakesRoom.drain d :=
  congrArg (fun e => e.drains.get d) (rollOpens_delivery cause p s)

theorem rollOpens_ids : ((s.rollOpens cause p).takes.table.map fun q => q.id) =
    (s.rollMakesRoom.takes.table.map fun q => q.id) ++ [s.takes.nextId] := by
  rw [rollOpens_eq, notify_takes, (sweeps_activate _).ids, State.takeEntered]
  exact List.map_append

/-- What making room queued stands before OPEN. -/
theorem rollOpens_notices_after : s.rollMakesRoom.link.notices <+: (s.rollOpens cause p).link.notices :=
  (sweeps_activate (s.takeEntered cause p)).notices.trans (sweeps_notify _ _).notices

end

/-! ## The oldest unlisted record is evicted (R77) -/

section
variable {s : State} {older newer : List TakeRecord} {r : TakeRecord} (table : s.takes.table = older ++ r :: newer)
  (listed : ∀ q ∈ older, q.id ∈ s.delivery.list) (unlisted : r.id ∉ s.delivery.list)
include table listed unlisted

theorem evictee_of_split : s.evictee = some r := by
  unfold State.evictee
  rw [table, List.find?_append, List.find?_eq_none.2, Option.none_or, List.find?_cons]
  · simp [unlisted]
  · intro q mem
    simpa using listed q mem

/-- Eviction in a full table: the record leaves it, reported by FINL where it was CLOSED. -/
theorem evict_split (full : s.takes.table.length = 16) (nodup : (s.takes.table.map fun q => q.id).Nodup) :
    (s.evict.takes.table.map fun q => q.id) = (older ++ newer).map (fun q => q.id)
    ∧ (r.state = .closed → NoticeRoom s →
        s.link.notices ++ [{ seq := s.link.nextSeq, notice := .finl r.id { r.header with earlyFinal := true } }]
          <+: s.evict.link.notices) := by
  have run : s.evict = (if r.state = .closed then s.makeFinal r.id true else s).modTakes fun t =>
      { t with table := t.table.eraseP fun q => q.id == r.id } := by
    unfold State.evict
    rw [if_neg (by rw [full]; exact Nat.lt_irrefl 16), evictee_of_split table listed unlisted]
  have ids : ((if r.state = .closed then s.makeFinal r.id true else s).takes.table.map fun q => q.id) =
      (older.map fun q => q.id) ++ r.id :: newer.map fun q => q.id := by
    have before : (s.takes.table.map fun q => q.id) = (older.map fun q => q.id) ++ r.id :: newer.map fun q => q.id := by
      rw [table, List.map_append, List.map_cons]
    split
    · exact (makeFinal_frame s r.id true).2.1.trans before
    · exact before
  rw [run]
  refine ⟨?_, fun closed space => ?_⟩
  · refine (List.eraseP_map (f := fun q : TakeRecord => q.id) (p := fun j => j == r.id)
      (l := (if r.state = .closed then s.makeFinal r.id true else s).takes.table)).symm.trans ?_
    rw [table, List.map_append, List.map_cons] at nodup
    have apart := (List.nodup_append.1 nodup).2.2
    rw [ids, List.eraseP_append_right, List.eraseP_cons_of_pos (p := fun j => j == r.id) (beq_self_eq_true r.id),
      List.map_append]
    intro j mem
    exact fun same => apart j mem r.id List.mem_cons_self (beq_iff_eq.1 same)
  · have found : s.record? r.id = some r := record?_of_mem nodup (by rw [table]; simp)
    obtain ⟨-, link, -⟩ := makeFinal_found true found
    rw [if_pos closed, State.modTakes_link, link, notify_room _ space, Bool.or_true]
    exact List.prefix_rfl

end

theorem record?_none_of_ids {s : State} {id : Nat} (gone : id ∉ s.takes.table.map fun q => q.id) : s.record? id = none :=
  List.find?_eq_none.2 fun q mem same => gone (List.mem_map.2 ⟨q, mem, beq_iff_eq.1 same⟩)

/-- Making room in a full table whose list has room. -/
theorem evict_listed {s : State} {older newer : List TakeRecord} {r : TakeRecord}
    (table : s.takes.table = older ++ r :: newer) (list : s.delivery.list.length < 4)
    (olderListed : ∀ q ∈ older, q.id ∈ s.delivery.list) (unlisted : r.id ∉ s.delivery.list)
    (full : s.takes.table.length = 16) (nodup : ((s.takes.table.map fun q => q.id) ++ [s.takes.nextId]).Nodup) :
    (s.listed.evict.takes.table.map fun q => q.id) = (older ++ newer).map (fun q => q.id)
    ∧ (r.state = .closed → NoticeRoom s →
        s.link.notices ++ [{ seq := s.link.nextSeq, notice := .finl r.id { r.header with earlyFinal := true } }]
          <+: s.listed.evict.link.notices) := by
  obtain ⟨ids, -, fresh⟩ := List.nodup_append.1 nodup
  have new : r.id ≠ s.takes.nextId := fresh _ (List.mem_map_of_mem (by rw [table]; simp)) _ (List.mem_singleton_self _)
  have entered := listed_room list
  have listed : s.listed.delivery.list =
      if s.anyDrainEnabled then s.delivery.list ++ [s.takes.nextId] else s.delivery.list := by
    rw [entered]
  have takes : s.listed.takes.table = s.takes.table := by rw [entered]
  have link : s.listed.link = s.link := by rw [entered]
  obtain ⟨evicted, notices⟩ := evict_split (s := s.listed) (takes.trans table)
    (fun q mem => by
      rw [listed]
      split
      · exact List.mem_append_left _ (olderListed q mem)
      · exact olderListed q mem)
    (by
      rw [listed]
      split
      · exact fun mem => (List.mem_append.1 mem).elim unlisted fun h => new (List.mem_singleton.1 h)
      · exact unlisted)
    (by rw [takes, full]) (by rwa [takes])
  rw [NoticeRoom, link] at notices
  exact ⟨evicted, notices⟩

/-! ## A block in flight is settled at the window's end (R91, R130) -/

section
variable {s : State} {d : Drain}

theorem settle_of_none {x : DrainState} {id : Nat} (none_left : x.unsettledOf id = none) : x.settle id = x := by
  rw [DrainState.settle, none_left]

theorem unsettledOf_none {x : DrainState} {id : Nat} {b : Block} (flies : x.inFlight = some b)
    (other : b.header.takeId ≠ id ∨ b.settled = true) : x.unsettledOf id = none := by
  refine Option.eq_none_iff_forall_ne_some.2 fun c unsettled => ?_
  obtain ⟨same, takeId, settled⟩ := unsettledOf_iff.1 unsettled
  obtain rfl := Option.some.inj (flies.symm.trans same)
  rcases other with ne | done
  · exact ne takeId
  · rw [settled] at done
    cases done

theorem finalTest_drain_left {j : Nat} (none_left : (s.drain d).unsettledOf j = none) :
    (s.finalTest j).drain d = s.drain d := by
  unfold State.finalTest
  split
  · rename_i q found
    split
    · rw [(makeFinal_found false found).2.2, settle_of_none none_left]
    · rfl
  · rfl

/-- A drain without an unsettled block is left by the tests of any takes. -/
theorem finalTests_drain_left (l : List Nat) (none_left : ∀ j, (s.drain d).unsettledOf j = none) :
    (runAll (fun id s => s.finalTest id) l s).drain d = s.drain d := by
  induction l generalizing s with
  | nil => rfl
  | cons j l ih =>
    have left := finalTest_drain_left (none_left j)
    exact (ih (s := s.finalTest j) (by rwa [left])).trans left

/-- The tests of takes of which one is due and in flight on a drain settle its block, and its record counts it abandoned. -/
theorem finalTests_settle {l : List Nat} {r : TakeRecord} {b : Block} (tested : r.id ∈ l) (found : s.record? r.id = some r)
    (due : s.isDueFinal r = true) (flies : (s.drain d).inFlight = some b) (own : b.header.takeId = r.id)
    (unsettled : b.settled = false) :
    (runAll (fun id s => s.finalTest id) l s).drain d = { s.drain d with inFlight := some { b with settled := true } }
    ∧ ∃ q, (runAll (fun id s => s.finalTest id) l s).record? r.id = some q ∧ q.state = .final
      ∧ q.sections.get d = { r.sections.get d with abandoned := (r.sections.get d).abandoned + b.header.count } := by
  induction l generalizing s with
  | nil => cases tested
  | cons j l ih =>
    by_cases same : j = r.id
    · subst same
      obtain ⟨final, -, drains⟩ := makeFinal_found false found
      have settles : (s.drain d).settle r.id = { s.drain d with inFlight := some { b with settled := true } } := by
        rw [DrainState.settle, unsettledOf_iff.2 ⟨flies, own, unsettled⟩]
      have drain := (drains d).trans settles
      rw [← finalTest_due found due] at final drain
      refine ⟨(finalTests_drain_left l fun j => ?_).trans drain, r.finalIn s false, finalTests_left l final ?_, rfl, ?_⟩
      · exact unsettledOf_none (by rw [drain]) (.inr rfl)
      · rw [Bool.eq_false_iff, Ne, isDueFinal_iff]
        exact fun h => nomatch h.1
      · have count : (s.drain d).flightOf r.id = b.header.count := by
          rw [flightOf_eq, unsettledOf_iff.2 ⟨flies, own, unsettled⟩]
          rfl
        rw [← count]
        cases d <;> rfl
    · have left := finalTest_drain_left (s := s) (j := j) (unsettledOf_none flies (.inl fun h => same (h.symm.trans own)))
      rw [← left]
      exact ih (s := s.finalTest j) ((List.mem_cons.1 tested).resolve_left fun h => same h.symm)
        ((finalTest_other fun h => same h.symm).trans found) ((finalTest_dueness j r).trans due) (by rw [left, flies])

end

/-- Settles O48: the oldest of four takes is truncated, the oldest unlisted record is evicted, and FINAL settles a block. -/
theorem fullListAndTableMakeRoom : Obligations.FullListAndTableMakeRoom := by
  unfold Obligations.FullListAndTableMakeRoom
  refine ⟨fun s tag id e w rest r given room stopped armed enabled list full apart live space found closed ended hgiven =>
      ?list,
    fun s tag older newer r room stopped armed list table full nodup olderListed unlisted => ?table,
    fun s d b r w found closed unlisted window passed flies own unsettled => ?settle⟩
  case list =>
    obtain rfl : given = fun y => y.truncateAt e := funext fun y => (hgiven y).trans (truncateAt_eq y e).symm
    have run := exec_roll_taken tag room (rollReq_stopped (s := s.modLink Link.goodFrame) .command rfl stopped armed)
    have made := rollMakesRoom_table (s := s.modLink Link.goodFrame) space
    have anyEnabled : (s.modLink Link.goodFrame).anyDrainEnabled = true := by
      rw [State.anyDrainEnabled, Bool.or_eq_true]
      exact enabled
    obtain ⟨q, hq, dead, same, states, idle, windowed⟩ :=
      listed_full_record (s := s.modLink Link.goodFrame) list apart live found anyEnabled full
    have sweptList := oldestCut_list (s := s.modLink Link.goodFrame) list apart live found
    rw [← made] at hq
    refine ⟨_, q, run, ?_, (withReply_record? tag ..).trans (rollOpens_record?_dead .command s.ring.p hq dead),
      (congrArg TakeRecord.truncated same :),
      fun d => ?_, fun window before => ?_, fun d flies => ?_⟩
    · refine (congrArg Delivery.list (rollOpens_delivery .command s.ring.p _)).trans ?_
      rw [made, listed_full anyEnabled list full]
      exact congrArg (fun l => l ++ [s.takes.nextId]) sweptList
    · rw [states, truncate_section r ended]
    · obtain ⟨whole, drains⟩ := windowed w window before
      refine ⟨?_, fun d => ?_⟩
      · rw [whole, TakeRecord.truncate, ended]
        rfl
      · rw [withReply_drain, rollOpens_drain, made, drains]
        rfl
    · rw [idle d flies, truncate_section r ended]
  case table =>
    have run := exec_roll_taken tag room (rollReq_stopped (s := s.modLink Link.goodFrame) .command rfl stopped armed)
    obtain ⟨ids, notices⟩ := evict_listed (s := s.modLink Link.goodFrame) table list olderListed unlisted full nodup
    have allIds := rollOpens_ids (s := s.modLink Link.goodFrame) .command s.ring.p
    rw [rollMakesRoom_eq, ids] at allIds
    refine ⟨_, run, allIds, (withReply_record? tag ..).trans (record?_none_of_ids ?_), fun closed space => ?_⟩
    · rw [table, List.map_append, List.map_cons] at nodup
      rw [allIds, List.map_append]
      exact (List.nodup_cons.1 ((List.perm_middle.append_right _).nodup_iff.1 nodup)).1
    · rw [withReply_notices]
      exact (notices closed space).trans (rollOpens_notices_after (s := s.modLink Link.goodFrame) .command s.ring.p)
  case settle =>
    have due : s.isDueFinal r = true := (isDueFinal_iff s r).2 ⟨closed, unlisted, w, window, passed⟩
    have tested : r.id ∈ s.finalDue := List.mem_map_of_mem (List.mem_filter.2 ⟨record?_mem found, due⟩)
    obtain ⟨drain, q, hq, final, counted⟩ := finalTests_settle tested found due flies own unsettled
    exact ⟨_, q, rfl, drain, hq, final, counted⟩

end Sys2Proof.Machine
end

section
/-! SUPPORT. The drains disabled by RSET CONFIG with the delivery list empty (R94, R115, R133): the block in flight alone is
taken back. With it the resets' part in the next take id (R75). -/

namespace Sys2Proof.Machine

/-! ## Disabling a drain with no take listed (R115) -/

/-- A section with the block in flight taken back by the disabling of its drain (R115 step 1). -/
def Section.takenBack (x : Section) (b : Block) : Section :=
  { x with formation := x.confirmed, nextSeq := b.header.seq
           abandoned := if x.state = .abandoned then x.abandoned + b.header.count else x.abandoned }

/-- What disabling a drain leaves of its section of take `id`: the block in flight is taken back (R115 step 1). -/
def DrainState.takeBack (x : DrainState) (id : Nat) (y : Section) : Section :=
  match x.inFlight with
  | some b => if x.settings.enabled = true ∧ b.settled = false ∧ b.header.takeId = id then y.takenBack b else y
  | none => y

/-- A record after the disabling of drain `d`, which was in state `x`. -/
def TakeRecord.takeBack (r : TakeRecord) (d : Drain) (x : DrainState) : TakeRecord :=
  { r with sections := r.sections.modify d (x.takeBack r.id) }

/-- A drain disabled with no take listed: each record's section has its block taken back, the drain's state goes to its
disabled values, and of the link only DRAIN STALLED can change. -/
structure DisabledIdle (s t : State) (d : Drain) : Prop where
  confined : Confined s t
  link : t.link = { s.link with conds := { s.link.conds with drainStalled := t.link.conds.drainStalled } }
  takes : t.takes = { s.takes with table := s.takes.table.map fun r => r.takeBack d (s.drain d) }
  list : t.delivery.list = []
  drain : (t.drain d).configReset = (s.drain d).configReset
  other : ∀ e, e ≠ d → t.drain e = s.drain e
  binding : t.binding = s.binding

theorem modify_id {α : Type} {f : α → α} (h : ∀ x, f x = x) (p : PerDrain α) (d : Drain) : p.modify d f = p := by
  cases d <;> simp [PerDrain.modify, h]

theorem takeBack_idle {x : DrainState} (idle : ∀ b, x.inFlight = some b → x.settings.enabled = false ∨ b.settled = true)
    (r : TakeRecord) (d : Drain) : r.takeBack d x = r := by
  have same (y : Section) : x.takeBack r.id y = y := by
    unfold DrainState.takeBack
    split
    · rename_i b flight
      refine if_neg fun ⟨enabled, unsettled, _⟩ => ?_
      cases idle b flight with
      | inl off => exact Bool.false_ne_true (off.symm.trans enabled)
      | inr settled => exact Bool.false_ne_true (unsettled.symm.trans settled)
    · rfl
  rw [TakeRecord.takeBack, modify_id same]

theorem takeBack_unsettled {x : DrainState} {b : Block} (enabled : x.settings.enabled = true) (flight : x.inFlight = some b)
    (unsettled : b.settled = false) (r : TakeRecord) (d : Drain) : r.takeBack d x =
      if r.id = b.header.takeId then { r with sections := r.sections.modify d fun y => y.takenBack b } else r := by
  split
  · rename_i same
    have all : x.takeBack r.id = fun y => y.takenBack b := funext fun y => by
      rw [DrainState.takeBack, flight]
      exact if_pos ⟨enabled, unsettled, same.symm⟩
    rw [TakeRecord.takeBack, all]
  · rename_i apart
    have all (y : Section) : x.takeBack r.id y = y := by
      rw [DrainState.takeBack, flight]
      exact if_neg fun h => apart h.2.2.symm
    rw [TakeRecord.takeBack, modify_id all]

/-- The block in flight taken back (R115 step 1). -/
theorem abortForDisable_takes {s : State} {d : Drain} (enabled : (s.drain d).settings.enabled = true) :
    (s.abortForDisable d).takes = { s.takes with table := s.takes.table.map fun r => r.takeBack d (s.drain d) } := by
  have idle (h : ∀ b, (s.drain d).inFlight = some b → (s.drain d).settings.enabled = false ∨ b.settled = true) :
      s.takes = { s.takes with table := s.takes.table.map fun r => r.takeBack d (s.drain d) } := by
    rw [funext fun r => takeBack_idle h r d, List.map_id']
  unfold State.abortForDisable
  split
  · rename_i none
    exact idle fun b flight => by rw [none] at flight; cases flight
  · rename_i b flight
    dsimp only
    split
    · rename_i settled
      exact idle fun c same => .inr (by rw [flight] at same; cases same; exact settled)
    · rename_i unsettled
      rw [funext fun r => takeBack_unsettled enabled flight (Bool.eq_false_iff.2 unsettled) r d]
      rfl

theorem abortForDisable_drain (s : State) (d : Drain) :
    (s.abortForDisable d).drain d = { s.drain d with inFlight := none } := by
  unfold State.abortForDisable
  split
  · rename_i none
    rw [← none]
  · dsimp only
    split <;> exact State.drain_modDrain_same ..

theorem abortForDisable_frame (s : State) (d : Drain) : (s.abortForDisable d).link = s.link
    ∧ (s.abortForDisable d).delivery.list = s.delivery.list ∧ (s.abortForDisable d).binding = s.binding
    ∧ ∀ e, e ≠ d → (s.abortForDisable d).drain e = s.drain e := by
  unfold State.abortForDisable
  split
  · exact ⟨rfl, rfl, rfl, fun _ _ => rfl⟩
  · dsimp only
    split <;> exact ⟨rfl, rfl, rfl, fun e apart => State.drain_modDrain_other _ _ _ _ apart⟩

theorem abandonSections_empty {s : State} (d : Drain) (empty : s.delivery.list = []) : s.abandonSections d = s := by
  unfold State.abandonSections
  rw [empty]
  rfl

theorem sweepList_empty {s : State} (empty : s.delivery.list = []) : s.sweepList = s := by
  have list : s.delivery.list.filter (fun id => s.stillDelivering id) = s.delivery.list := by
    rw [empty]
    rfl
  have finals : s.delivery.list.filter (fun id => !s.stillDelivering id) = [] := by
    rw [empty]
    rfl
  have current (d : Drain) : s.currentTake d = none := by
    unfold State.currentTake
    rw [empty]
    rfl
  have stays (d : Drain) : s.activateOn d = s := by
    unfold State.activateOn
    rw [current]
  unfold State.sweepList
  rw [finals]
  change (s.modDelivery fun e => { e with list := e.list.filter fun id => s.stillDelivering id }).activate = s
  have same : (s.modDelivery fun e => { e with list := e.list.filter fun id => s.stillDelivering id }) = s :=
    congrArg (fun l => ({ s with delivery := { s.delivery with list := l } } : State)) list
  rw [same, State.activate, stays, stays]

theorem settleStallCondition_link (s : State) : s.settleStallCondition.link =
    { s.link with conds := { s.link.conds with drainStalled := s.settleStallCondition.link.conds.drainStalled } } := by
  unfold State.settleStallCondition
  split <;> rfl

theorem settleStallCondition_binding (s : State) : s.settleStallCondition.binding = s.binding := by
  unfold State.settleStallCondition
  split <;> rfl

theorem disableIfEnabled_idle {s : State} (d : Drain) (empty : s.delivery.list = []) :
    DisabledIdle s (s.disableIfEnabled d) d := by
  unfold State.disableIfEnabled
  split
  · rename_i enabled
    obtain ⟨link, list, binding, other⟩ := abortForDisable_frame s d
    rw [empty] at list
    have confined := confined_disableDrain s d
    unfold State.disableDrain at confined ⊢
    rw [abandonSections_empty d list] at confined ⊢
    generalize turned : (s.abortForDisable d).modDrain d _ = u at confined ⊢
    have same : u.settleStallCondition.sweepList = u.settleStallCondition := sweepList_empty (by
      rw [settleStallCondition_delivery, ← turned]
      exact list)
    rw [same] at confined ⊢
    have drain (e : Drain) : u.settleStallCondition.drain e = u.drain e :=
      congrArg (fun x => Delivery.drains x |>.get e) (settleStallCondition_delivery u)
    subst turned
    refine ⟨confined, ?_, ?_, ?_, ?_, fun e apart => ?_, ?_⟩
    · exact (settleStallCondition_link _).trans (by rw [State.modDrain_link, link])
    · exact (settleStallCondition_takes _).trans (abortForDisable_takes enabled)
    · exact (congrArg Delivery.list (settleStallCondition_delivery _)).trans list
    · rw [drain, State.drain_modDrain_same, abortForDisable_drain]
      rfl
    · rw [drain, State.drain_modDrain_other _ _ _ _ apart, other e apart]
    · exact (settleStallCondition_binding _).trans binding
  · rename_i off
    refine ⟨Confined.refl s, rfl, ?_, empty, rfl, fun _ _ => rfl, rfl⟩
    rw [funext fun r => takeBack_idle (fun b _ => .inl (Bool.eq_false_iff.2 off)) r d, List.map_id']

/-! ## RSET CONFIG (R179, R181) -/

/-- Both drains disabled and at their defaults, with no take listed. -/
structure ConfigDrained (s t : State) : Prop where
  confined : Confined s t
  link : t.link = { s.link with conds := { s.link.conds with drainStalled := t.link.conds.drainStalled } }
  takes : t.takes = { s.takes with
    table := s.takes.table.map fun r => (r.takeBack .a (s.drain .a)).takeBack .b (s.drain .b) }
  drain : ∀ d, t.drain d = (s.drain d).configReset
  binding : t.binding = s.binding

theorem configDrains_idle {s : State} (empty : s.delivery.list = []) : ConfigDrained s s.configDrains := by
  have first := disableIfEnabled_idle .a empty
  have second := disableIfEnabled_idle .b first.list
  have confined := confined_configDrains s
  unfold State.configDrains at confined ⊢
  generalize s.disableIfEnabled .a = u at *
  generalize u.disableIfEnabled .b = t at *
  have untouched : u.drain .b = s.drain .b := first.other .b (by decide)
  refine ⟨confined, ?_, ?_, fun d => ?_, second.binding.trans first.binding⟩
  · rw [State.modDelivery_link, second.link, first.link]
  · rw [State.modDelivery_takes, second.takes, first.takes, untouched, List.map_map]
    rfl
  · cases d with
    | a =>
      calc
        _ = (t.drain .a).configReset := rfl
        _ = (u.drain .a).configReset := by rw [second.other .a (by decide)]
        _ = _ := first.drain
    | b =>
      calc
        _ = (t.drain .b).configReset := rfl
        _ = (u.drain .b).configReset := second.drain
        _ = _ := by rw [untouched]

section
variable {s : State} (tag : BitVec 8)

theorem exec_rsetConfig_busy (room : HasRoom s) (busy : s.takes.state ≠ .stopped ∨ s.delivery.list ≠ []) :
    exec (.rsetConfig tag) s = .next (replied s tag .rset .busy .none) := by
  refine congrArg Host.Outcome.next ((serve_room tag ReqKind.rset.word reqRsetConfig room).trans ?_)
  rw [reqRsetConfig, if_pos (by exact busy), refuse_place]

theorem exec_rsetConfig_free (room : HasRoom s) (stopped : s.takes.state = .stopped) (empty : s.delivery.list = []) :
    exec (.rsetConfig tag) s = .next ((okAnswer (s.modLink Link.goodFrame).configReset
      (.rset true (s.modLink Link.goodFrame).configReset.ring.p)).place tag ReqKind.rset.word) := by
  refine congrArg Host.Outcome.next ((serve_room tag ReqKind.rset.word reqRsetConfig room).trans ?_)
  rw [reqRsetConfig, if_neg (by exact not_or.2 ⟨not_not.2 stopped, not_not.2 empty⟩)]

end

/-- A request that finds no room for its reply is discarded (R169). -/
theorem serve_discards {s : State} (tag : BitVec 8) (kind : Text) (handle : State → Answer) (full : ¬HasRoom s) :
    s.serve tag kind handle = (s.modLink Link.goodFrame).modLink Link.overrunDiscard :=
  if_neg fun room => full (of_decide_eq_true room)

theorem configReset_channels (i : Inputs) (k : Fin 16) : i.configReset.channels[k] =
    { i.channels[k] with settings := ChannelSettings.initial, silence := 0, silentFlag := false } :=
  Vector.getElem_map ..

/-- Settles O6: refused by its check, or each block's own reset, the drains by R115 with no take listed. -/
theorem rsetConfigRestoresTheDefaults : Obligations.RsetConfigRestoresTheDefaults := by
  unfold Obligations.RsetConfigRestoresTheDefaults
  refine fun s tag room => ⟨exec_rsetConfig_busy tag room, fun stopped empty => ?_⟩
  have drained : ConfigDrained (s.modLink Link.goodFrame) (s.modLink Link.goodFrame).configDrains :=
    configDrains_idle empty
  have confined := drained.confined
  refine ⟨_, exec_rsetConfig_free tag room stopped empty, ?link, confined.ring, rfl, ?id, ?slate, ?state, ?table, rfl, rfl,
    configReset_channels _, rfl, rfl, rfl, rfl, fun n => ?trigger, fun d => ?drain, rfl, drained.binding,
    confined.pending⟩
  case link =>
    have link := congrArg (fun l : Link => ({ l.configReset with
      replies := l.replies ++ [({ tag := tag, kind := ReqKind.rset.word, status := .ok
                                  result := .rset true (s.modLink Link.goodFrame).configReset.ring.p } : Reply)] } : Link))
      drained.link
    have place : (s.modLink Link.goodFrame).configReset.ring.p = s.ring.p := congrArg Ring.p confined.ring
    rw [place] at link ⊢
    exact link
  case id =>
    have nextId := congrArg TakeCtl.nextId drained.takes
    exact nextId
  case slate =>
    have lastSlate := congrArg TakeCtl.lastSlate drained.takes
    exact lastSlate
  case state =>
    have state := congrArg TakeCtl.state drained.takes
    exact state.trans stopped
  case table =>
    intro back spec
    have table := congrArg TakeCtl.table drained.takes
    refine table.trans (List.map_congr_left fun r _ => ?_)
    have same (d : Drain) : (s.drain d).takeBack r.id = back d r.id := funext fun x => (spec d r.id x).symm
    rw [← same, ← same]
    rfl
  case trigger => cases n <;> rfl
  case drain =>
    have reached : ((okAnswer (s.modLink Link.goodFrame).configReset
        (.rset true (s.modLink Link.goodFrame).configReset.ring.p)).place tag ReqKind.rset.word).drain d =
          (s.drain d).configReset := drained.drain d
    rw [reached]
    exact ⟨rfl, rfl, rfl, rfl, rfl, rfl, rfl, rfl, rfl⟩

/-! ## The next take id (R75) -/

/-- A roll that opens a take assigns the next take id and moves it on. -/
theorem rollReq_nextId (s : State) (cause : Cause) (p : Nat) :
    ((∀ id start, (s.rollReq cause p).2 ≠ .taken id start) ∧ (s.rollReq cause p).1.takes.nextId = s.takes.nextId)
    ∨ ((∃ start, (s.rollReq cause p).2 = .taken s.takes.nextId start)
      ∧ (s.rollReq cause p).1.takes.nextId = followingId s.takes.nextId) := by
  by_cases rolling : s.takes.state = .rolling
  · rw [rollReq_rolling cause p rolling]
    exact .inl ⟨nofun, rfl⟩
  · by_cases armed : s.router.armed = 0
    · rw [rollReq_unarmed cause p rolling armed]
      exact .inl ⟨nofun, by cases cause <;> rfl⟩
    · obtain ⟨t, q, run, opens, -⟩ := rollReq_opens cause p rolling armed rfl
      rw [run]
      exact .inr ⟨⟨_, rfl⟩, by rw [opens.takes]⟩

/-- Settles O34: the two cases of a roll, and each reset's part in the controller. -/
theorem rollAssignsTheNextTakeId : Obligations.RollAssignsTheNextTakeId := by
  unfold Obligations.RollAssignsTheNextTakeId
  refine ⟨fun s cause p low high => ?roll, fun s t tag => ⟨?power, ?engine, ?config⟩⟩
  case roll =>
    rcases rollReq_nextId s cause p with ⟨none, same⟩ | ⟨⟨start, taken⟩, next⟩
    · rw [same]
      exact ⟨low, high, fun id start k => absurd k (none id start), fun _ => rfl⟩
    · have value : followingId s.takes.nextId = if s.takes.nextId = 65535 then 1 else s.takes.nextId + 1 := by
        rw [followingId_eq]
        split <;> omega
      rw [next, taken]
      refine ⟨?_, ?_, fun id start same => ?_, fun none => absurd rfl (none _ start)⟩
      · rw [value]; split <;> omega
      · rw [value]; split <;> omega
      · cases same
        exact ⟨rfl, value⟩
  case power =>
    rintro ⟨⟩
    rfl
  case engine =>
    rintro ⟨⟩
    by_cases room : s.link.replies.length < 8
    · rw [serve_room _ _ _ room, if_pos room]
      exact ⟨rfl, rfl⟩
    · rw [serve_discards _ _ _ room, if_neg room]
      exact ⟨rfl, rfl⟩
  case config =>
    intro run
    by_cases room : HasRoom s
    · by_cases free : s.takes.state = .stopped ∧ s.delivery.list = []
      · rw [exec_rsetConfig_free tag room free.1 free.2] at run
        cases run
        have drained : ConfigDrained (s.modLink Link.goodFrame) _ := configDrains_idle free.2
        have nextId := congrArg TakeCtl.nextId drained.takes
        exact nextId
      · rw [exec_rsetConfig_busy tag room (not_and_or.1 free)] at run
        cases run
        rfl
    · cases run
      rw [serve_discards _ _ _ room]
      rfl

end Sys2Proof.Machine
end

section
/-! SUPPORT. A FINAL record under the operations (R91): what stands in the way of each operation that would reach it, as one
invariant that every operation of the delivery engine, the take controller and the binding unit keeps. -/

namespace Sys2Proof.Machine

/-- A FINAL record `r` out of reach: its sections have nothing left to deliver, no other record has its id, the delivery list
does not hold it, no block of it in flight is still its own (R130), and its id is not among the next `k` take ids. -/
structure SealedIn (k : Nat) (r : TakeRecord) (table : List TakeRecord) (nextId : Nat) (e : Delivery) : Prop where
  final : r.state = .final
  idle : ∀ d, (r.sections.get d).live = false
  only : ∀ q ∈ table, q.id = r.id → q = r
  unlisted : r.id ∉ e.list
  settled : ∀ d b, (e.drains.get d).inFlight = some b → b.header.takeId = r.id → b.settled = true
  fresh : ∀ i < k, followingId^[i] nextId ≠ r.id

/-- A FINAL record out of reach in a state, while at most `k` takes open. -/
abbrev Sealed (k : Nat) (r : TakeRecord) (s : State) : Prop :=
  SealedIn k r s.takes.table s.takes.nextId s.delivery

namespace Sealed

variable {k : Nat} {r : TakeRecord} {s : State}

/-! ## What it says of what an operation finds -/

theorem apart (h : Sealed k r s) {q : TakeRecord} (held : q ∈ s.takes.table) (live : q.state ≠ .final) : q.id ≠ r.id :=
  fun same => live (h.only q held same ▸ h.final)

theorem found (h : Sealed k r s) {id : Nat} {q : TakeRecord} (found : s.record? id = some q) (same : id = r.id) : q = r :=
  h.only q (record?_mem found) ((record?_id found).trans same)

theorem found_apart (h : Sealed k r s) {id : Nat} {q : TakeRecord} (found : s.record? id = some q)
    (live : q.state ≠ .final) : id ≠ r.id := fun same => live (h.found found same ▸ h.final)

theorem open_apart (h : Sealed k r s) {q : TakeRecord} (opened : s.openRecord? = some q) : q.id ≠ r.id := by
  obtain ⟨state, held⟩ := openRecord?_spec opened
  exact h.apart held (by rw [state]; nofun)

theorem listed_apart (h : Sealed k r s) {id : Nat} (listed : id ∈ s.delivery.list) : id ≠ r.id :=
  fun same => h.unlisted (same ▸ listed)

theorem current_apart (h : Sealed k r s) {d : Drain} {id : Nat} (current : s.currentTake d = some id) : id ≠ r.id :=
  h.listed_apart (currentTake_some current).1

theorem flight_apart (h : Sealed k r s) {d : Drain} {b : Block} (flight : (s.drain d).inFlight = some b)
    (unsettled : b.settled ≠ true) : b.header.takeId ≠ r.id := fun same => unsettled (h.settled d b flight same)

/-! ## The small changes -/

theorem updRecord (h : Sealed k r s) {id : Nat} {f : TakeRecord → TakeRecord} (apart : id ≠ r.id)
    (ids : ∀ q, (f q).id = q.id := by exact fun _ => rfl) : Sealed k r (s.updRecord id f) := by
  refine ⟨h.final, h.idle, fun q held same => ?_, h.unlisted, h.settled, h.fresh⟩
  obtain ⟨p, before, rfl⟩ := List.mem_map.1 held
  split at same
  · rename_i here
    exact absurd (here.symm.trans ((ids p).symm.trans same)) apart
  · rename_i other
    rw [if_neg other]
    exact h.only p before same

theorem updSection (h : Sealed k r s) {id : Nat} {d : Drain} {f : Section → Section} (apart : id ≠ r.id) :
    Sealed k r (s.updSection id d f) := h.updRecord apart

theorem modDrain (h : Sealed k r s) {d : Drain} {f : DrainState → DrainState}
    (flight : ∀ b, (f (s.drain d)).inFlight = some b → b.header.takeId = r.id → b.settled = true) :
    Sealed k r (s.modDrain d f) := by
  refine ⟨h.final, h.idle, h.only, h.unlisted, fun e b here => ?_, h.fresh⟩
  by_cases same : e = d
  · subst same
    exact flight b ((congrArg DrainState.inFlight (s.drain_modDrain_same e f)).symm.trans here)
  · exact h.settled e b ((congrArg DrainState.inFlight (s.drain_modDrain_other d e f same)).symm.trans here)

/-- A drain's flags and timers say nothing of its block. -/
theorem modFlags (h : Sealed k r s) {d : Drain} {f : DrainState → DrainState}
    (keeps : (f (s.drain d)).inFlight = (s.drain d).inFlight := by rfl) : Sealed k r (s.modDrain d f) :=
  h.modDrain fun b here => h.settled d b (keeps ▸ here)

theorem freeDrain (h : Sealed k r s) {d : Drain} {f : DrainState → DrainState}
    (free : (f (s.drain d)).inFlight = none := by rfl) : Sealed k r (s.modDrain d f) :=
  h.modDrain fun b here => by rw [free] at here; cases here

theorem each {α : Type} {f : α → State → State} {xs : List α} (h : Sealed k r s)
    (keeps : ∀ x ∈ xs, ∀ u, Sealed k r u → Sealed k r (f x u)) : Sealed k r (runAll f xs s) := by
  induction xs generalizing s with
  | nil => exact h
  | cons x xs ih =>
    exact ih (keeps x (List.mem_cons_self ..) s h) fun y later => keeps y (List.mem_cons_of_mem _ later)

theorem ite {p : Prop} [Decidable p] {a b : State} (ha : Sealed k r a) (hb : Sealed k r b) :
    Sealed k r (if p then a else b) := by
  split
  · exact ha
  · exact hb

/-! ## Events and FINAL (R88, R91, R130) -/

theorem intake (h : Sealed k r s) (e : Event) : Sealed k r (s.intake e) := by
  unfold State.intake
  split
  · exact h
  · rename_i q opened
    exact (h.updRecord (h.open_apart opened) (fun q => (enter_kept e q).1)).ite h

theorem settleOn (h : Sealed k r s) (id : Nat) (d : Drain) : Sealed k r (s.settleOn id d) := by
  unfold State.settleOn
  split
  · rename_i b unsettled
    obtain ⟨flight, takeId, own⟩ := unsettledOf_iff.1 unsettled
    have apart : id ≠ r.id := takeId ▸ h.flight_apart flight (by rw [own]; nofun)
    refine (h.updSection apart).modDrain fun c marked _ => ?_
    cases marked
    rfl
  · exact h

theorem makeFinal (h : Sealed k r s) {id : Nat} (apart : id ≠ r.id) (early : Bool) : Sealed k r (s.makeFinal id early) := by
  have sealed := ((h.settleOn id .a).settleOn id .b).updRecord
    (f := fun q => { q with state := .final, earlyFinal := q.earlyFinal || early }) apart
  unfold State.makeFinal
  dsimp only
  split
  · exact sealed
  · exact sealed

theorem finalTest (h : Sealed k r s) (id : Nat) : Sealed k r (s.finalTest id) := by
  unfold State.finalTest
  split
  · rename_i q held
    split
    · rename_i due
      have closed : q.state = .closed := by
        simp only [State.isDueFinal, Bool.and_eq_true, beq_iff_eq] at due
        exact due.1.1
      exact h.makeFinal (h.found_apart held (by rw [closed]; nofun)) false
    · exact h
  · exact h

/-! ## The delivery list (R109, R111, R117) -/

theorem activateOn (h : Sealed k r s) (d : Drain) : Sealed k r (s.activateOn d) := by
  unfold State.activateOn
  split
  · rename_i id current
    exact h.updSection (h.current_apart current)
  · exact h

theorem activate (h : Sealed k r s) : Sealed k r s.activate := (h.activateOn .a).activateOn .b

theorem sweepList (h : Sealed k r s) : Sealed k r s.sweepList := by
  have swept : Sealed k r (s.modDelivery fun e => { e with list := e.list.filter fun id => s.stillDelivering id }) :=
    ⟨h.final, h.idle, h.only, fun listed => h.unlisted (List.mem_of_mem_filter listed), h.settled, h.fresh⟩
  exact (swept.each fun id _ u sealed => sealed.finalTest id).activate

theorem testDone (h : Sealed k r s) (id : Nat) (d : Drain) : Sealed k r (s.testDone id d) := by
  unfold State.testDone
  split
  · exact h
  · rename_i q held
    split
    · rename_i test
      obtain ⟨-, live, -⟩ := test
      refine h.updSection fun same => ?_
      rw [h.found held same, h.idle d] at live
      cases live
    · exact h

theorem settleDone (h : Sealed k r s) (id : Nat) (d : Drain) : Sealed k r (s.settleDone id d) := (h.testDone id d).sweepList

theorem gapEpisodeTest (h : Sealed k r s) (d : Drain) (takeId pos offset : Nat) (reason : DrneReason) :
    Sealed k r (s.gapEpisodeTest d takeId pos offset reason) := by
  have flagged : Sealed k r (s.modDrain d fun x => { x with gapEpisode := true }) := h.modFlags
  exact Sealed.ite h flagged

theorem push (h : Sealed k r s) (id : Nat) (d : Drain) : Sealed k r (s.push id d) := by
  cases held : s.record? id with
  | none => rwa [push_gone held]
  | some q =>
    rw [push_found held]
    split
    · rename_i test
      have apart : id ≠ r.id := fun same => by
        rw [h.found held same, h.idle d] at test
        exact Bool.false_ne_true test.1
      exact ((h.updSection apart).gapEpisodeTest ..).settleDone ..
    · exact h

theorem overrun (h : Sealed k r s) : Sealed k r s.overrun :=
  h.each fun id _ _ sealed => (sealed.push id .a).push id .b

theorem truncateOldest (h : Sealed k r s) : Sealed k r s.truncateOldest := by
  unfold State.truncateOldest
  split
  · exact h
  · rename_i id rest list
    exact (h.updRecord (h.listed_apart (list ▸ List.mem_cons_self ..))).sweepList

theorem enterList (h : Sealed k r s) {id : Nat} (apart : id ≠ r.id) : Sealed k r (s.enterList id) := by
  have room : Sealed k r (if s.delivery.list.length < Config.maxDelivering then s else s.truncateOldest) :=
    h.ite h.truncateOldest
  refine ⟨room.final, room.idle, room.only, fun listed => ?_, room.settled, room.fresh⟩
  rcases List.mem_append.1 listed with before | added
  · exact room.unlisted before
  · exact apart (List.mem_singleton.1 added).symm

theorem handEnd (h : Sealed k r s) {id : Nat} (apart : id ≠ r.id) (e : Nat) : Sealed k r (s.handEnd id e) :=
  (((h.updRecord apart).testDone id .a).testDone id .b).sweepList

/-! ## The drains (R112 to R125) -/

theorem settleStallCondition (h : Sealed k r s) : Sealed k r s.settleStallCondition := Sealed.ite (by exact h) h

theorem reachStall (h : Sealed k r s) (d : Drain) : Sealed k r (s.reachStall d) := by
  have timed : Sealed k r (s.modDrain d fun x => { x with timer := Timer.at x.timerLimit }) := h.modFlags
  have stalled := timed.modFlags (d := d) (f := fun x => { x with stalled := true })
  exact Sealed.ite timed stalled

theorem abortForLink (h : Sealed k r s) (d : Drain) : Sealed k r (s.abortForLink d) := by
  unfold State.abortForLink
  split
  · exact h
  · rename_i b flight
    have freed : Sealed k r (s.modDrain d fun x => { x with inFlight := none }) := h.freeDrain
    dsimp only
    split
    · exact freed
    · rename_i q held
      split
      · exact freed.settleDone ..
      · rename_i own
        have apart : q.id ≠ r.id := (record?_id held).symm ▸ h.flight_apart flight own
        exact (Sealed.ite ((freed.updSection apart).gapEpisodeTest ..) (freed.updSection apart)).settleDone ..

theorem abortForDisable (h : Sealed k r s) (d : Drain) : Sealed k r (s.abortForDisable d) := by
  unfold State.abortForDisable
  split
  · exact h
  · rename_i b flight
    have freed : Sealed k r (s.modDrain d fun x => { x with inFlight := none }) := h.freeDrain
    dsimp only
    split
    · exact freed
    · rename_i own
      exact freed.updSection (h.flight_apart flight own)

theorem abandonSections (h : Sealed k r s) (d : Drain) : Sealed k r (s.abandonSections d) :=
  h.each fun _ listed _ sealed => sealed.updRecord (h.listed_apart listed)

theorem disableDrain (h : Sealed k r s) (d : Drain) : Sealed k r (s.disableDrain d) := by
  have off := ((h.abortForDisable d).abandonSections d).modFlags (d := d)
    (f := fun x => { x with settings := { x.settings with enabled := false }, hold := false, timer := Timer.zero
                            stalled := false, gapEpisode := false })
  exact off.settleStallCondition.sweepList

theorem endStall (h : Sealed k r s) (d : Drain) : Sealed k r (s.endStall d) := by
  have ended : Sealed k r (s.modDrain d fun x => { x with stalled := false }) := h.modFlags
  exact Sealed.ite ended.settleStallCondition h

theorem changeEnable (h : Sealed k r s) (d : Drain) (enabled : Bool) : Sealed k r (s.changeEnable d enabled) := by
  have on : Sealed k r (s.enableDrain d) := h.modFlags
  exact Sealed.ite h (Sealed.ite on (h.disableDrain d))

theorem setDrain (h : Sealed k r s) (d : Drain) (x : DrainSettings) : Sealed k r (s.setDrain d x) := by
  have stored : Sealed k r (s.modDrain d fun y => { y with settings := { x with enabled := y.settings.enabled } }) :=
    h.modFlags
  have enabled := stored.changeEnable d x.enabled
  exact Sealed.ite (enabled.reachStall d) enabled

theorem configDrains (h : Sealed k r s) : Sealed k r s.configDrains := by
  have disabled (u : State) (d : Drain) (sealed : Sealed k r u) : Sealed k r (u.disableIfEnabled d) :=
    Sealed.ite (sealed.disableDrain d) sealed
  have both := disabled _ .b (disabled _ .a h)
  refine ⟨both.final, both.idle, both.only, both.unlisted, fun d b flight => ?_, both.fresh⟩
  cases d with
  | a => cases flight
  | b => cases flight

theorem nextBlock_spec {d : Drain} {rb : TakeRecord × Block} (next : s.nextBlock d = some rb) :
    ∃ id, s.currentTake d = some id ∧ s.record? id = some rb.1 ∧ rb.2.header.takeId = rb.1.id := by
  unfold State.nextBlock State.currentRecord at next
  split at next
  · cases current : s.currentTake d with
    | none =>
      rw [current] at next
      cases next
    | some id =>
      rw [current] at next
      cases held : s.record? id with
      | none =>
        simp only [held] at next
        cases next
      | some q =>
        simp only [held] at next
        split at next
        · cases next
        · split at next
          · cases next
          · cases next
            exact ⟨id, rfl, held, rfl⟩
  · cases next

theorem takeForm (h : Sealed k r s) (d : Drain) : Sealed k r (s.takeForm d) := by
  unfold State.takeForm
  split
  · rename_i rb next
    obtain ⟨id, current, held, own⟩ := nextBlock_spec next
    have apart : rb.1.id ≠ r.id := (record?_id held).symm ▸ h.current_apart current
    refine ((h.updSection apart).modDrain fun b sent same => ?_).endStall d
    cases sent
    exact absurd (own.symm.trans same) apart
  · refine Sealed.ite ?_ h
    unfold State.testExhausted
    split
    · exact h.settleDone ..
    · exact h

theorem takeCompletion (h : Sealed k r s) (d : Drain) : Sealed k r (s.takeCompletion d) := by
  unfold State.takeCompletion
  split
  · exact h
  · rename_i b flight
    split
    · rename_i counts
      have own : b.settled ≠ true := by
        intro settled
        rw [State.countsInSection, settled] at counts
        cases counts
      exact ((h.updSection (h.flight_apart flight own)).freeDrain).settleDone ..
    · exact h.freeDrain

theorem takeLinkDown (h : Sealed k r s) (d : Drain) : Sealed k r (s.takeLinkDown d) := by
  have down : Sealed k r (s.modDrain d DrainState.dropLink) := h.modFlags
  exact down.abortForLink d

theorem takeStall (h : Sealed k r s) (d : Drain) : Sealed k r (s.takeStall d) := Sealed.ite (h.reachStall d) h

end Sealed

end Sys2Proof.Machine
end

section
/-! SUPPORT. A FINAL record under rolls, cuts, marks, trigger edges, the timeline's reports, audio frames and notes: each take
that opens uses up one of the ids that the record's is known to differ from (R75, log entry 34). -/

namespace Sys2Proof.Machine

/-- How many rolls a mark stands for (R100). -/
def MarkName.rolls : MarkName → Nat
  | .start => 1
  | .stop => 0

namespace Sealed

variable {k : Nat} {r : TakeRecord} {s : State}

theorem fewer {n : Nat} (h : Sealed (k + n) r s) : Sealed k r s :=
  ⟨h.final, h.idle, h.only, h.unlisted, h.settled, fun i below => h.fresh i (Nat.lt_add_right n below)⟩

/-! ## Closing and cutting (R83 to R87) -/

theorem closeOpen (h : Sealed k r s) (e : Nat) : Sealed k r (s.closeOpen e) := by
  unfold State.closeOpen
  split
  · exact h
  · rename_i q opened
    have apart := h.open_apart opened
    have closed : Sealed k r (s.updRecord q.id (TakeRecord.close (q.closingEnd e) s.takes.caps.window)) :=
      h.updRecord apart
    exact (Sealed.handEnd (by exact closed) apart _).finalTest q.id

theorem closeTail (h : Sealed k r s) (p : Nat) : Sealed k r (s.closeTail p) := by
  unfold State.closeTail
  split
  · exact h
  · rename_i q opened
    exact (h.updRecord (h.open_apart opened)).closeOpen _

theorem cutOpen (h : Sealed k r s) {q : TakeRecord} (apart : q.id ≠ r.id) (cause : Cause) (c : Nat) :
    Sealed k r (s.cutOpen q cause c) := by
  have cut : Sealed k r (s.updRecord q.id fun q =>
      { q with cut := some c, cutCause := some cause, limited := q.limited || decide (cause = .limit) }) :=
    h.updRecord apart
  have tail := cut.updRecord (f := fun q => { q with endTarget := some (c + s.takes.caps.postRoll) }) apart
  exact Sealed.ite tail (cut.closeOpen _)

theorem cutReq (h : Sealed k r s) (cause : Cause) (pos : Nat) (level : Option Line) :
    Sealed k r (s.cutReq cause pos level).1 := by
  unfold State.cutReq
  split
  · rename_i q _ opened
    split
    · exact h
    · exact h.cutOpen (h.open_apart opened) ..
  · exact h
  · exact h
  · exact h

/-! ## Rolling (R77 to R82) -/

theorem evict (h : Sealed k r s) : Sealed k r s.evict := by
  unfold State.evict
  refine Sealed.ite h ?_
  split
  · exact h
  · rename_i q chosen
    have settled : Sealed k r (if q.state = .closed then s.makeFinal q.id true else s) := by
      split
      · rename_i closed
        exact h.makeFinal (h.apart (List.mem_of_find?_eq_some chosen) (by rw [closed]; nofun)) true
      · exact h
    exact ⟨settled.final, settled.idle, fun p held => settled.only p (List.mem_of_mem_eraseP held), settled.unlisted,
      settled.settled, settled.fresh⟩

theorem nextId_apart (h : Sealed (k + 1) r s) : s.takes.nextId ≠ r.id := h.fresh 0 (Nat.succ_pos k)

theorem rollMakesRoom (h : Sealed (k + 1) r s) : Sealed k r s.rollMakesRoom := by
  have used : Sealed k r (s.modTakes fun t => { t with nextId := followingId t.nextId }) :=
    ⟨h.final, h.idle, h.only, h.unlisted, h.settled, fun i below => h.fresh (i + 1) (Nat.succ_lt_succ below)⟩
  exact (Sealed.ite (used.enterList h.nextId_apart) used).evict

theorem rollOpens (h : Sealed (k + 1) r s) (cause : Cause) (p : Nat) : Sealed k r (s.rollOpens cause p) := by
  have room := h.rollMakesRoom
  have opened : Sealed k r (s.takeEntered cause p) := by
    refine ⟨room.final, room.idle, fun q held same => ?_, room.unlisted, room.settled, room.fresh⟩
    rcases List.mem_append.1 held with before | added
    · exact room.only q before same
    · cases List.mem_singleton.1 added
      exact absurd same h.nextId_apart
  exact opened.activate

theorem refuseRoll (h : Sealed k r s) (cause : Cause) (p : Nat) : Sealed k r (s.refuseRoll cause p) := by
  cases cause <;> exact h

theorem rollReq (h : Sealed (k + 1) r s) (cause : Cause) (p : Nat) : Sealed k r (s.rollReq cause p).1 := by
  unfold State.rollReq
  split
  · exact h.fewer
  · split
    · exact h.fewer.refuseRoll ..
    · exact h.rollOpens ..
  · split
    · exact h.fewer.refuseRoll ..
    · exact (h.closeTail _).rollOpens ..

/-! ## The work at an advance of P (R59) -/

theorem takeLimitCut (h : Sealed k r s) : Sealed k r s.takeLimitCut := by
  unfold State.takeLimitCut
  split
  · exact h.cutReq ..
  · exact h

theorem takeTailEnd (h : Sealed k r s) : Sealed k r s.takeTailEnd := by
  unfold State.takeTailEnd
  split
  · exact h.closeOpen _
  · exact h

theorem takeWindowEnd (h : Sealed k r s) : Sealed k r s.takeWindowEnd := h.each fun id _ _ sealed => sealed.finalTest id

/-! ## Marks (R98 to R102) -/

theorem disarm (h : Sealed k r s) (m : MarkName) : Sealed k r (s.disarm m) := by
  cases m <;> exact h

theorem fireMark {m : MarkName} (h : Sealed (k + m.rolls) r s) (pos c1 c2 : Nat) : Sealed k r (s.fireMark m pos c1 c2) := by
  have disarmed := h.disarm m
  cases m with
  | start => exact disarmed.rollReq ..
  | stop => exact disarmed.cutReq ..

theorem moveMark {m : MarkName} (h : Sealed (k + m.rolls) r s) (c1 c2 : Nat) : Sealed k r (s.moveMark c1 c2 m) :=
  Sealed.ite h.fewer (Sealed.ite (h.fireMark ..) (Sealed.ite (h.fewer.disarm m) h.fewer))

theorem markHandoff (h : Sealed (k + 1) r s) (c1 c2 : Nat) : Sealed k r (s.markHandoff c1 c2) :=
  Sealed.ite h.fewer ((Sealed.moveMark (m := .start) h c1 c2).moveMark (m := .stop) c1 c2)

theorem fireEntered {m : MarkName} (h : Sealed (k + m.rolls) r s) (due : MarkDue) (entered : Bool) :
    Sealed k r (s.fireEntered due m entered) := Sealed.ite (h.fireMark ..) h.fewer

theorem takeMarksFired (h : Sealed (k + 1) r s) : Sealed k r s.takeMarksFired := by
  unfold State.takeMarksFired
  split
  · exact h.fewer
  · rename_i due _
    have started : Sealed k r ((s.modTakes fun t => { t with markDue := none }).fireEntered due .start due.start) :=
      Sealed.fireEntered (m := .start) (by exact h) due due.start
    exact started.fireEntered (m := .stop) due due.stop

/-! ## Trigger edges (R105) -/

theorem lineRequest (h : Sealed (k + 1) r s) (n : Line) (q : TrigRequest) (pos : Nat) :
    Sealed k r (s.lineRequest n q pos).1 := by
  cases q with
  | roll => exact h.rollReq ..
  | levelCut => exact h.fewer.cutReq ..
  | toggle =>
    unfold State.lineRequest
    dsimp only
    split
    · exact h.fewer.cutReq ..
    · exact h.rollReq ..

theorem handEdge (h : Sealed (k + 1) r s) (n : Line) (c : Option ConfirmedEdge) : Sealed k r (s.handEdge n c) := by
  unfold State.handEdge
  split
  · exact h.fewer
  · split
    · exact h.fewer
    · exact h.lineRequest ..

theorem takeEdges (h : Sealed (k + 2) r s) : Sealed k r s.takeEdges := by
  have settled : Sealed (k + 2) r
      (s.modTriggers fun t => { line1 := t.line1.settleEdge, line2 := t.line2.settleEdge }) := h
  exact (settled.handEdge .one _).handEdge .two _

/-! ## The timeline (R20 to R32) -/

theorem report (h : Sealed k r s) (kind : TrefKind) (pos : Nat) (e : Int) : Sealed k r (s.report kind pos e) := by
  unfold State.report
  dsimp only
  split
  · exact Sealed.intake (by exact h) _
  · exact h

theorem regained (h : Sealed k r s) (pos : Nat) : Sealed k r (s.regained pos) := h.report ..

theorem takeRefLost (h : Sealed k r s) : Sealed k r s.takeRefLost :=
  Sealed.ite (Sealed.ite (by exact h) (Sealed.report (by exact h) ..)) h

theorem setTimecode (h : Sealed (k + 1) r s) (c : Nat) : Sealed k r (s.setTimecode c) := by
  have moved : Sealed (k + 1) r (s.setAnchor { pos := s.ring.p, count := c }) := h
  exact (Sealed.ite moved (moved.report ..)).markHandoff ..

theorem frameSeeking (h : Sealed (k + 1) r s) (c arrival : Nat) : Sealed k r (s.frameSeeking c arrival) := by
  unfold State.frameSeeking
  dsimp only
  split
  · exact h.fewer
  · split
    · refine (Sealed.ite ?_ (Sealed.report ?_ ..)).markHandoff ..
      · exact Sealed.report (by exact h) ..
      · exact Sealed.report (by exact h) ..
    · exact h.fewer

theorem frameVerifying (h : Sealed (k + 1) r s) (c arrival : Nat) : Sealed k r (s.frameVerifying c arrival) := by
  unfold State.frameVerifying
  dsimp only
  refine Sealed.ite (Sealed.ite (Sealed.regained (by exact h.fewer) _) h.fewer) (Sealed.ite ?_ h.fewer)
  exact ((Sealed.ite (Sealed.regained (by exact h) _) (by exact h)).report ..).markHandoff ..

theorem validFrame (h : Sealed (k + 1) r s) (c arrival : Nat) : Sealed k r (s.validFrame c arrival) := by
  unfold State.validFrame
  dsimp only
  split
  · exact h.fewer
  · exact Sealed.frameSeeking (by exact h) ..
  · exact Sealed.ite (by exact h.fewer) h.fewer
  · exact Sealed.frameVerifying (by exact h) ..
  · exact Sealed.ite (Sealed.regained (by exact h.fewer) _) h.fewer

theorem takeFrame (h : Sealed (k + 1) r s) (label : Label) (drop : Bool) (arrival : Nat) :
    Sealed k r (s.takeFrame label drop arrival) :=
  Sealed.ite (by exact h.fewer) (Sealed.ite (by exact h.fewer) (h.validFrame ..))

/-! ## The audio frame (R35, R58) -/

theorem settleAdvance (h : Sealed (k + 3) r s) : Sealed k r s.settleAdvance :=
  (Sealed.takeMarksFired (k := k + 2) h.takeTailEnd.takeLimitCut.takeWindowEnd.takeRefLost).takeEdges

theorem conditionFrame (h : Sealed k r s) (slots : Vector (BitVec 32) 16) : Sealed k r (s.conditionFrame slots) := by
  unfold State.conditionFrame
  generalize s.frameEvents slots = events
  exact Sealed.each (by exact h) fun e _ u sealed => sealed.intake e

theorem takeAudio (h : Sealed k r s) (slots : Vector (BitVec 32) 16) (l1 l2 : Bool) :
    Sealed k r (s.takeAudio slots l1 l2) := by
  unfold State.takeAudio
  have synced : Sealed k r s.takeSync := Sealed.ite (by exact h) h
  have heard := synced.conditionFrame slots
  generalize s.takeSync.conditionFrame slots = u at heard
  generalize s.trackSamples slots = samples
  have written : Sealed k r (u.writeRing samples) := heard
  have pushed := written.overrun
  exact pushed

theorem takeSilent (h : Sealed k r s) (n : Fin 16) : Sealed k r (s.takeSilent n) :=
  Sealed.ite (Sealed.intake (by exact h) _) h

theorem loseSync (h : Sealed k r s) : Sealed k r s.loseSync := Sealed.ite (Sealed.intake (by exact h) _) h

end Sealed

end Sys2Proof.Machine
end

section
/-! SUPPORT. A FINAL record under notes, requests and whole steps (R72, R91, R153). -/

namespace Sys2Proof.Machine

/-! ## The record that a note reaches (R153, R154) -/

section
variable {s : State}

/-- The records that a note may be written to: every one but a FINAL one (R72). -/
def State.takesNotes (s : State) (id : Nat) : Prop := ∃ q ∈ s.takes.table, q.id = id ∧ q.state ≠ .final

theorem takesNotes_open {q : TakeRecord} (opened : s.openRecord? = some q) : s.takesNotes q.id := by
  obtain ⟨state, held⟩ := openRecord?_spec opened
  exact ⟨q, held, rfl, by rw [state]; nofun⟩

theorem takesNotes_window {q : TakeRecord} (window : s.windowRecord? = some q) : s.takesNotes q.id := by
  unfold State.windowRecord? at window
  split at window
  · cases window
  · rename_i p recent
    split at window
    · split at window
      · cases window
        have closed : q.state = .closed :=
          beq_iff_eq.1 (List.find?_some (p := fun p : TakeRecord => p.state == .closed) recent)
        exact ⟨q, List.mem_reverse.1 (List.mem_of_find?_eq_some recent), rfl, by rw [closed]; nofun⟩
      · cases window
    · cases window

theorem takesNotes_target {target id : Nat} {also : Bool} (dest : s.targetDest target = .take id also) :
    s.takesNotes id := by
  unfold State.targetDest at dest
  split at dest
  · cases dest
  · rename_i q found
    split at dest
    · cases dest
    · rename_i live
      cases dest
      exact ⟨q, record?_mem found, record?_id found, live⟩

theorem takesNotes_slate {id : Nat} {also : Bool} (dest : s.slateDest = .take id also) : s.takesNotes id := by
  unfold State.slateDest at dest
  split at dest
  · rename_i q opened
    split at dest
    · cases dest
      exact takesNotes_open opened
    · cases dest
  · cases dest

theorem takesNotes_flag {otherwise : NoteDest} {id : Nat} {also : Bool} (apart : otherwise ≠ .take id also)
    (dest : s.flagDest otherwise = .take id also) : s.takesNotes id := by
  unfold State.flagDest at dest
  split at dest
  · rename_i q opened
    cases dest
    exact takesNotes_open opened
  · split at dest
    · rename_i q window
      cases dest
      exact takesNotes_window window
    · exact absurd dest apart

theorem takesNotes_kind {kind : NoteKind} {id : Nat} {also : Bool} (dest : s.kindDest kind = .take id also) :
    s.takesNotes id := by
  cases kind with
  | scene => exact takesNotes_slate dest
  | trackName => exact takesNotes_slate dest
  | takeNum => exact takesNotes_slate dest
  | wild =>
    unfold State.kindDest at dest
    dsimp only at dest
    split at dest
    · rename_i q opened
      cases dest
      exact takesNotes_open opened
    · cases dest
  | circle => exact takesNotes_flag (otherwise := .orphan .noWindow) nofun dest
  | noGood => exact takesNotes_flag (otherwise := .orphan .noWindow) nofun dest
  | falseTake => exact takesNotes_flag (otherwise := .orphan .noWindow) nofun dest
  | comment => exact takesNotes_flag (otherwise := .pendingSlate) nofun dest

/-- A note goes to no FINAL record (R72, R153). -/
theorem takesNotes_of_dest {n : ParsedNote} {id : Nat} {also : Bool} (dest : s.noteDest n = .take id also) :
    s.takesNotes id := by
  unfold State.noteDest at dest
  split at dest
  · exact takesNotes_target dest
  · exact takesNotes_kind dest

end

/-! ## What a note leaves (R155, R156) -/

/-- A note leaves the table, or changes in it the record of one take that is not FINAL; the next id, the list and the drains
stay. -/
structure NoteWritten (s t : State) : Prop where
  table : t.takes.table = s.takes.table ∨ ∃ (id : Nat) (f : TakeRecord → TakeRecord), s.takesNotes id
    ∧ (∀ q, (f q).id = q.id) ∧ t.takes.table = (s.updRecord id f).takes.table
  nextId : t.takes.nextId = s.takes.nextId
  delivery : t.delivery = s.delivery

theorem noteWritten_refl (s : State) : NoteWritten s s := ⟨.inl rfl, rfl, rfl⟩

theorem noteWritten_writeTake {s : State} {id : Nat} (takes : s.takesNotes id) (station pos : Nat) (b : NoteBody) :
    NoteWritten s (s.writeTake id station pos b) := by
  have written : NoteWritten s (s.updRecord id fun r => { r with slate := r.slate.apply station pos b }) :=
    ⟨.inr ⟨id, _, takes, by exact fun _ => rfl, rfl⟩, rfl, rfl⟩
  unfold State.writeTake State.followLastSlate
  split
  · split
    · exact ⟨written.table, written.nextId, written.delivery⟩
    · exact written
  · exact written

theorem noteWritten_bindNote (s : State) (note : CompletedNote) : NoteWritten s (s.bindNote note).1 := by
  unfold State.bindNote
  split
  · exact noteWritten_refl s
  · rename_i n _
    unfold State.bindParsed
    split
    · rename_i id also dest
      have written := noteWritten_writeTake (takesNotes_of_dest dest) note.station note.position n.body
      unfold State.bindTake
      split
      · exact noteWritten_refl s
      · cases also
        · exact written
        · exact ⟨written.table, written.nextId, written.delivery⟩
    · exact ⟨.inl rfl, rfl, rfl⟩
    · exact noteWritten_refl s

theorem noteWritten_takeNextNote (s : State) : NoteWritten s s.takeNextNote := by
  unfold State.takeNextNote
  split
  · exact noteWritten_refl s
  · rename_i note rest _
    have written := noteWritten_bindNote (s.modNotes fun x => { x with completed := rest }) note
    exact ⟨written.table, written.nextId, written.delivery⟩

theorem noteWritten_serveNote (s : State) (tag : BitVec 8) (text : Text) :
    NoteWritten s (s.serve tag ReqKind.note.word (reqNote text)) := by
  have written := noteWritten_bindNote (s.modLink Link.goodFrame) (requestNote text s.ring.p)
  unfold State.serve
  split
  · unfold reqNote
    split
    · exact ⟨.inl rfl, rfl, rfl⟩
    · exact ⟨written.table, written.nextId, written.delivery⟩
  · exact ⟨.inl rfl, rfl, rfl⟩

/-- A FINAL record whose id no other record has stands in the table after a note as it was. -/
theorem NoteWritten.final_mem {s t : State} {r : TakeRecord} (h : NoteWritten s t) (held : r ∈ s.takes.table)
    (final : r.state = .final) (only : ∀ q ∈ s.takes.table, q.id = r.id → q = r) : r ∈ t.takes.table := by
  rcases h.table with same | ⟨id, f, ⟨q, there, own, live⟩, -, changed⟩
  · rwa [same]
  · have apart : r.id ≠ id := fun here => live (only q there (own.trans here.symm) ▸ final)
    rw [changed]
    exact List.mem_map.2 ⟨r, held, if_neg apart⟩

namespace Sealed

variable {k : Nat} {r : TakeRecord} {s : State}

/-- No roll comes: the record is out of reach as things stand. -/
theorem now (h : Sealed 1 r s) : Sealed 0 r s := Sealed.fewer (k := 0) (n := 1) h

/-- A reset takes the record out of the table with every other, and leaves nothing listed or in flight. -/
theorem cleared {t : State} (h : Sealed 0 r s) (table : t.takes.table = []) (list : t.delivery.list = [])
    (flight : ∀ d, (t.drain d).inFlight = none) : Sealed 0 r t := by
  refine ⟨h.final, h.idle, ?_, ?_, fun d b here => ?_, fun _ below => absurd below (Nat.not_lt_zero _)⟩
  · rw [table]
    exact fun _ held => absurd held List.not_mem_nil
  · rw [list]
    exact List.not_mem_nil
  · cases (flight d).symm.trans here

theorem noteWritten {t : State} (h : Sealed k r s) (note : NoteWritten s t) : Sealed k r t := by
  obtain ⟨table, nextId, delivery⟩ := note
  unfold Sealed
  rw [nextId, delivery]
  rcases table with same | ⟨id, f, ⟨q, there, own, live⟩, ids, changed⟩
  · rwa [same]
  · rw [changed]
    exact h.updRecord (own ▸ h.apart there live) ids

theorem bindNote (h : Sealed k r s) (note : CompletedNote) : Sealed k r (s.bindNote note).1 :=
  h.noteWritten (noteWritten_bindNote s note)

theorem takeNextNote (h : Sealed k r s) : Sealed k r s.takeNextNote := h.noteWritten (noteWritten_takeNextNote s)

end Sealed

/-! ## The requests (R169) -/

/-- A request whose owner keeps a FINAL record out of reach, with one roll at most. -/
def KeepsSealed (handle : State → Answer) : Prop :=
  ∀ (r : TakeRecord) (u : State), Sealed 1 r u → Sealed 0 r (handle u).state

theorem keepsSealed_refuse (x : Status) : KeepsSealed fun s => refuse s x := fun _ _ h => h.now

theorem keepsSealed_read (report : State → Result) : KeepsSealed fun s => okAnswer s (report s) := fun _ _ h => h.now

theorem keepsSealed_ite {p : State → Prop} [∀ s, Decidable (p s)] {f g : State → Answer} (hf : KeepsSealed f)
    (hg : KeepsSealed g) : KeepsSealed fun s => if p s then f s else g s := by
  intro r u h
  dsimp only
  split
  · exact hf r u h
  · exact hg r u h

theorem KeepsSealed.serve {handle : State → Answer} (keeps : KeepsSealed handle) {r : TakeRecord} {s : State}
    (h : Sealed 1 r s) (tag : BitVec 8) (kind : Text) : Sealed 0 r (s.serve tag kind handle) := by
  unfold State.serve
  split
  · exact keeps r (s.modLink Link.goodFrame) h
  · exact h.now

theorem keepsSealed_linkSet (limit : BitVec 8) : KeepsSealed (reqLinkSet limit) := by
  intro r u h
  unfold reqLinkSet
  split <;> exact h.now

theorem keepsSealed_rsetEngine : KeepsSealed reqRsetEngine := fun r u h =>
  h.now.cleared rfl rfl fun d => by cases d <;> rfl

theorem keepsSealed_rsetConfig : KeepsSealed reqRsetConfig :=
  keepsSealed_ite (keepsSealed_refuse _) fun _ _ h => h.now.configDrains

theorem keepsSealed_inptSet (input : BitVec 8) (fields : InputFields) : KeepsSealed (reqInptSet input fields) := by
  refine keepsSealed_ite (keepsSealed_refuse _) fun r u h => ?_
  split <;> exact h.now

theorem keepsSealed_inptRead (input : BitVec 8) : KeepsSealed (reqInptRead input) := by
  intro r u h
  unfold reqInptRead
  split <;> exact h.now

theorem keepsSealed_mixg (bus input : BitVec 8) (gain : BitVec 16) : KeepsSealed (reqMixg bus input gain) := by
  intro r u h
  unfold reqMixg
  split
  · exact h.now
  · split <;> exact h.now

theorem keepsSealed_trakSource (track source : BitVec 8) : KeepsSealed (reqTrakSource track source) := by
  intro r u h
  unfold reqTrakSource
  split
  · exact h.now
  · split
    · exact h.now
    · split <;> exact h.now

theorem keepsSealed_trakLink (track : BitVec 8) : KeepsSealed (reqTrakLink track) := by
  intro r u h
  unfold reqTrakLink
  split
  · exact h.now
  · split
    · exact h.now
    · split
      · exact h.now
      · split <;> exact h.now

theorem keepsSealed_trakUnlink (track : BitVec 8) : KeepsSealed (reqTrakUnlink track) := by
  intro r u h
  unfold reqTrakUnlink
  split
  · exact h.now
  · split <;> exact h.now

theorem keepsSealed_trakRead (track : BitVec 8) : KeepsSealed (reqTrakRead track) := by
  intro r u h
  unfold reqTrakRead
  split <;> exact h.now

theorem keepsSealed_tlmd (rate mode : BitVec 8) (tolerance : BitVec 16) : KeepsSealed (reqTlmd rate mode tolerance) := by
  intro r u h
  have changed (v : State) (rate : Rate) (mode : TimeMode) (sealed : Sealed 0 r v) : Sealed 0 r (v.applyTlmd rate mode) :=
    Sealed.ite (by exact sealed) (Sealed.ite (Sealed.ite (by exact sealed) sealed) sealed)
  unfold reqTlmd
  split
  · split
    · exact h.now
    · exact changed _ _ _ h.now
  · exact h.now

theorem keepsSealed_tcst (label : Label) : KeepsSealed (reqTcst label) :=
  keepsSealed_ite (keepsSealed_refuse _) (keepsSealed_ite (keepsSealed_refuse _) fun _ _ h => h.setTimecode _)

theorem keepsSealed_jams : KeepsSealed reqJams :=
  keepsSealed_ite (keepsSealed_refuse _) fun _ _ h => Sealed.ite (by exact h.now) h.now

theorem keepsSealed_take (id : BitVec 16) (sectionNo : BitVec 8) : KeepsSealed (reqTake id sectionNo) := by
  refine keepsSealed_ite (keepsSealed_refuse _) fun r u h => ?_
  split <;> exact h.now

theorem keepsSealed_roll : KeepsSealed reqRoll := by
  intro r u h
  have rolled : Sealed 0 r (u.rollReq .command u.ring.p).1 := h.rollReq ..
  unfold reqRoll rollAnswer
  split <;> exact rolled

theorem keepsSealed_cut : KeepsSealed reqCut := by
  intro r u h
  have cut : Sealed 0 r (u.cutReq .command u.ring.p none).1 := h.now.cutReq ..
  unfold reqCut cutAnswer
  split <;> exact cut

theorem keepsSealed_markSet (mark : BitVec 8) (label : Label) : KeepsSealed (reqMarkSet mark label) := by
  intro r u h
  unfold reqMarkSet
  split
  · exact h.now
  · rename_i m _
    split
    · exact h.now
    · cases m <;> exact h.now

theorem keepsSealed_markClear (mark : BitVec 8) : KeepsSealed (reqMarkClear mark) := by
  intro r u h
  unfold reqMarkClear
  split
  · exact h.now
  · exact h.now.disarm _

theorem keepsSealed_markRead (mark : BitVec 8) : KeepsSealed (reqMarkRead mark) := by
  intro r u h
  unfold reqMarkRead
  split <;> exact h.now

theorem keepsSealed_trigSet (line mode polarity : BitVec 8) (filter : BitVec 16) :
    KeepsSealed (reqTrigSet line mode polarity filter) := by
  intro r u h
  unfold reqTrigSet
  split <;> exact h.now

theorem keepsSealed_trigRead (line : BitVec 8) : KeepsSealed (reqTrigRead line) := by
  intro r u h
  unfold reqTrigRead
  split <;> exact h.now

theorem keepsSealed_dranSet (drain : BitVec 8) (fields : DrainFields) : KeepsSealed (reqDranSet drain fields) := by
  intro r u h
  unfold reqDranSet
  split
  · split
    · exact h.now
    · exact h.now.setDrain ..
  · exact h.now

theorem keepsSealed_dranRead (drain : BitVec 8) : KeepsSealed (reqDranRead drain) := by
  intro r u h
  unfold reqDranRead
  split <;> exact h.now

theorem keepsSealed_nlinSet (count : BitVec 8) (stations : Vector (BitVec 8) 8) :
    KeepsSealed (reqNlinSet count stations) := keepsSealed_ite (keepsSealed_refuse _) fun _ _ h => h.now

theorem keepsSealed_note (text : Text) : KeepsSealed (reqNote text) :=
  keepsSealed_ite (keepsSealed_refuse _) fun _ _ h => h.now.bindNote _

theorem keepsSealed_slat (sectionNo : BitVec 8) : KeepsSealed (reqSlat sectionNo) :=
  keepsSealed_ite (keepsSealed_refuse _) (keepsSealed_read _)

theorem keepsSealed_capsSet (fields : CaptureFields) : KeepsSealed (reqCapsSet fields) := fun _ _ h =>
  Sealed.takeLimitCut (by exact h.now)

/-! ### Requests by their kind and payload -/

theorem keepsSealed_setOrRead {set read : State → Answer} (action : BitVec 8) (hs : KeepsSealed set)
    (hr : KeepsSealed read) : KeepsSealed (setOrRead action set read) := by
  unfold setOrRead
  split
  · exact hs
  · split
    · exact hr
    · exact keepsSealed_refuse _

theorem keepsSealed_byThree {first second third : State → Answer} (action : BitVec 8) (h1 : KeepsSealed first)
    (h2 : KeepsSealed second) (h3 : KeepsSealed third) : KeepsSealed (byThree action first second third) := by
  unfold byThree
  split
  · exact h1
  · split
    · exact h2
    · split
      · exact h3
      · exact keepsSealed_refuse _

theorem keepsSealed_trakAction (p : Text) : KeepsSealed (trakAction p) := by
  unfold trakAction
  split
  · exact keepsSealed_trakSource _ _
  · split
    · exact keepsSealed_trakLink _
    · split
      · exact keepsSealed_trakUnlink _
      · split
        · exact keepsSealed_trakRead _
        · exact keepsSealed_refuse _

theorem keepsSealed_ownerRequest (kind : ReqKind) (p : Text) : KeepsSealed (ownerRequest kind p) := by
  cases kind with
  | iden => exact keepsSealed_read _
  | stat => exact fun _ _ h => h.now
  | link => exact keepsSealed_byThree _ (keepsSealed_linkSet _) (keepsSealed_read _) fun _ _ h => h.now
  | rset => exact keepsSealed_setOrRead _ keepsSealed_rsetEngine keepsSealed_rsetConfig
  | inpt => exact keepsSealed_setOrRead _ (keepsSealed_inptSet _ _) (keepsSealed_inptRead _)
  | mixg => exact keepsSealed_mixg _ _ _
  | trak => exact keepsSealed_trakAction p
  | armt => exact fun _ _ h => h.now
  | metr => exact keepsSealed_setOrRead _ (fun _ _ h => h.now) fun _ _ h => h.now
  | tlmd => exact keepsSealed_tlmd _ _ _
  | tcst => exact keepsSealed_tcst _
  | jams => exact keepsSealed_jams
  | tcqr => exact keepsSealed_read _
  | caps => exact keepsSealed_setOrRead _ (keepsSealed_capsSet _) (keepsSealed_read _)
  | take => exact keepsSealed_take _ _
  | roll => exact keepsSealed_roll
  | cut => exact keepsSealed_cut
  | mark =>
    exact keepsSealed_byThree _ (keepsSealed_markSet _ _) (keepsSealed_markClear _) (keepsSealed_markRead _)
  | trig => exact keepsSealed_setOrRead _ (keepsSealed_trigSet _ _ _ _) (keepsSealed_trigRead _)
  | dran => exact keepsSealed_setOrRead _ (keepsSealed_dranSet _ _) (keepsSealed_dranRead _)
  | nlin => exact keepsSealed_byThree _ (keepsSealed_nlinSet _ _) (keepsSealed_read _) fun _ _ h => h.now
  | note => exact keepsSealed_note p
  | slat => exact keepsSealed_slat _

theorem keepsSealed_frameRequest (kind p : Text) : KeepsSealed (frameRequest kind p) := by
  unfold frameRequest
  split
  · exact keepsSealed_refuse _
  · split
    · exact keepsSealed_ownerRequest _ p
    · exact keepsSealed_refuse _

/-! ## The control line (R166, R167) -/

namespace Sealed

variable {r : TakeRecord} {s : State}

theorem frameError (h : Sealed 0 r s) (e : FrameError) : Sealed 0 r (s.frameError e) :=
  Sealed.ite (by exact h) (by exact h)

theorem goodByte (h : Sealed 1 r s) (v : BitVec 8) : Sealed 0 r (s.goodByte v) := by
  unfold State.goodByte
  split
  · exact Sealed.ite (by exact h.now) (by exact h.now)
  · exact Sealed.ite (by exact h.now) (h.now.frameError _)
  · exact Sealed.ite (by exact h.now) (by exact h.now)
  · exact Sealed.ite (by exact h.now) (by exact h.now)
  · exact Sealed.ite (by exact h.now) (by exact h.now)
  · exact h.now
  · refine Sealed.ite ?_ (h.now.frameError _)
    exact KeepsSealed.serve (keepsSealed_frameRequest _ _) (by exact h) ..

theorem controlByte (h : Sealed 1 r s) (v : BitVec 8) (stopHigh : Bool) : Sealed 0 r (s.controlByte v stopHigh) :=
  Sealed.ite (h.goodByte v) (Sealed.ite (by exact h.now) (h.now.frameError _))

theorem powerOn (h : Sealed 1 r s) : Sealed 0 r s.powerOn :=
  h.now.cleared rfl rfl fun d => by cases d <;> rfl

theorem modHeld (h : Sealed 0 r s) {d : Drain} {f : DrainState → DrainState} (keeps : ∀ x, (f x).inFlight = x.inFlight) :
    Sealed 0 r (s.modDrain d f) := h.modFlags (keeps _)

end Sealed

/-! ## The commands and the step -/

/-- Every command keeps a FINAL record out of reach, with three rolls at most (log entry 34). -/
theorem exec_sealed {i : Instr} {s t : State} {r : TakeRecord} (h : exec i s = .next t) (sealed : Sealed 3 r s) :
    Sealed 0 r t := by
  have one : Sealed 1 r s := sealed.fewer (k := 1) (n := 2)
  have none : Sealed 0 r s := sealed.fewer (k := 0) (n := 3)
  have by_unit {u : State} (ran : exec i s = .next u) (kept : Sealed 0 r u) : Sealed 0 r t :=
    Host.Outcome.next.inj (h.symm.trans ran) ▸ kept
  have by_request {handle : State → Answer} {tag : BitVec 8} {kind : Text}
      (ran : exec i s = .next (s.serve tag kind handle)) (kept : KeepsSealed handle) : Sealed 0 r t :=
    by_unit ran (kept.serve one ..)
  cases i with
  | powerOnReset => exact by_unit rfl one.powerOn
  | audioFrame => exact by_unit rfl ((Sealed.settleAdvance (k := 0) sealed).takeAudio ..)
  | rsetEngine => exact by_request rfl keepsSealed_rsetEngine
  | controlByte => exact by_unit rfl (one.controlByte ..)
  | earlyFrameSync => exact by_unit rfl none
  | clipEpisodeEnd => exact by_unit rfl none
  | busClipEpisodeEnd => exact by_unit rfl none
  | silent => exact by_unit rfl (none.takeSilent _)
  | audioSyncLoss => exact by_unit rfl none.loseSync
  | lvlsReport => exact by_unit rfl (Sealed.ite none (by exact none))
  | frameArrival => exact by_unit rfl (Sealed.takeFrame (k := 0) one ..)
  | refLost => exact by_unit rfl none.takeRefLost
  | edgeConfirmed => exact by_unit rfl (Sealed.takeEdges (k := 0) (sealed.fewer (n := 1)))
  | markFired => exact by_unit rfl (Sealed.takeMarksFired (k := 0) one)
  | tailEnd => exact by_unit rfl none.takeTailEnd
  | limitCut => exact by_unit rfl none.takeLimitCut
  | windowEnd => exact by_unit rfl none.takeWindowEnd
  | formBlock d => exact by_unit rfl (none.takeForm d)
  | completion d => exact by_unit rfl (none.takeCompletion d)
  | hold => exact by_unit rfl (none.modHeld fun x => by unfold DrainState.takeHold; split <;> rfl)
  | go => exact by_unit rfl (none.modHeld fun x => by unfold DrainState.takeGo; split <;> rfl)
  | linkDown d => exact by_unit rfl (none.takeLinkDown d)
  | linkUp => exact by_unit rfl (none.modHeld fun x => by unfold DrainState.takeLinkUp; split <;> rfl)
  | stalled d => exact by_unit rfl (none.takeStall d)
  | character => exact by_unit rfl none
  | idleTimeout => exact by_unit rfl none
  | lineBreak => exact by_unit rfl none
  | breakEnd => exact by_unit rfl none
  | startBitEdge => exact by_unit rfl none
  | bindNote => exact by_unit rfl none.takeNextNote
  | silenceDiscard => exact by_unit rfl (Sealed.ite none (by exact none))
  | badKind => exact by_unit rfl (Sealed.ite ((keepsSealed_refuse _).serve one ..) none)
  | transmitFrame => exact by_unit rfl none
  | iden => exact by_request rfl (keepsSealed_read _)
  | stat => exact by_request rfl fun _ _ h => h.now
  | linkSet => exact by_request rfl (keepsSealed_linkSet _)
  | linkRead => exact by_request rfl (keepsSealed_read _)
  | linkReadAndClear => exact by_request rfl fun _ _ h => h.now
  | rsetConfig => exact by_request rfl keepsSealed_rsetConfig
  | inptSet => exact by_request rfl (keepsSealed_inptSet _ _)
  | inptRead => exact by_request rfl (keepsSealed_inptRead _)
  | mixg => exact by_request rfl (keepsSealed_mixg _ _ _)
  | trakSource => exact by_request rfl (keepsSealed_trakSource _ _)
  | trakLink => exact by_request rfl (keepsSealed_trakLink _)
  | trakUnlink => exact by_request rfl (keepsSealed_trakUnlink _)
  | trakRead => exact by_request rfl (keepsSealed_trakRead _)
  | armt => exact by_request rfl fun _ _ h => h.now
  | metrRead => exact by_request rfl fun _ _ h => h.now
  | metrPeriod => exact by_request rfl fun _ _ h => h.now
  | tlmd => exact by_request rfl (keepsSealed_tlmd _ _ _)
  | tcst => exact by_request rfl (keepsSealed_tcst _)
  | jams => exact by_request rfl keepsSealed_jams
  | tcqr => exact by_request rfl (keepsSealed_read _)
  | capsSet => exact by_request rfl (keepsSealed_capsSet _)
  | capsRead => exact by_request rfl (keepsSealed_read _)
  | take => exact by_request rfl (keepsSealed_take _ _)
  | roll => exact by_request rfl keepsSealed_roll
  | cut => exact by_request rfl keepsSealed_cut
  | markSet => exact by_request rfl (keepsSealed_markSet _ _)
  | markClear => exact by_request rfl (keepsSealed_markClear _)
  | markRead => exact by_request rfl (keepsSealed_markRead _)
  | trigSet => exact by_request rfl (keepsSealed_trigSet _ _ _ _)
  | trigRead => exact by_request rfl (keepsSealed_trigRead _)
  | dranSet => exact by_request rfl (keepsSealed_dranSet _ _)
  | dranRead => exact by_request rfl (keepsSealed_dranRead _)
  | nlinSet => exact by_request rfl (keepsSealed_nlinSet _ _)
  | nlinRead => exact by_request rfl (keepsSealed_read _)
  | nlinReadAndClear => exact by_request rfl fun _ _ h => h.now
  | note => exact by_request rfl (keepsSealed_note _)
  | slat => exact by_request rfl (keepsSealed_slat _)

theorem tick_sealed {s : State} {r : TakeRecord} (h : Sealed 0 r s) : Sealed 0 r s.tick :=
  ⟨h.final, h.idle, h.only, h.unlisted, fun d b flight => h.settled d b (by cases d <;> exact flight), nofun⟩

theorem step_sealed {s t : State} {r : TakeRecord} (h : step s = .next t) (sealed : Sealed 3 r s) : Sealed 0 r t := by
  unfold step at h
  split at h
  · exact exec_sealed h (by exact sealed)
  · unfold idleStep at h
    split at h
    · exact exec_sealed h sealed
    · cases h
      exact tick_sealed (sealed.fewer (k := 0) (n := 3))

/-! ## Where it holds (R91) -/

/-- In a legal state whose takes are accounted for, with the next take ids free, a FINAL record is out of reach. -/
theorem sealed_of_accounted {s : State} {r : TakeRecord} (legal : TableLegal s) (free : NextIdsFree s.takes)
    (accounted : TakesAccounted s) (held : r ∈ s.takes.table) (final : r.state = .final) : Sealed 3 r s := by
  have only (q : TakeRecord) (there : q ∈ s.takes.table) (same : q.id = r.id) : q = r :=
    List.inj_on_of_nodup_map legal.ids there held same
  refine ⟨final, fun d => ?idle, only, accounted.left r held final, fun d b flight own => ?settled, fun i below => ?fresh⟩
  case idle => exact ((accounted.sections r held d).final final).1
  case settled =>
    refine Bool.not_eq_false _ ▸ fun unsettled => ?_
    obtain ⟨-, blocks⟩ := accounted.blocks d b flight
    obtain ⟨q, found, live, -⟩ := blocks unsettled
    exact live (only q (record?_mem found) ((record?_id found).trans own) ▸ final)
  case fresh =>
    obtain ⟨first, second, third⟩ := free r held
    match i, below with
    | 0, _ => exact first.symm
    | 1, _ => exact second.symm
    | 2, _ => exact third.symm

/-- Settles O53: the step keeps the record out of reach, and so every record of its id in the table is still that record;
a note is written to a record that is not FINAL. -/
theorem notesLeaveFinalRecords : Obligations.NotesLeaveFinalRecords := by
  unfold Obligations.NotesLeaveFinalRecords
  refine ⟨fun s t r _ legal free accounted run held final => ?step, fun s t tag text r held final only run => ?note⟩
  case step =>
    have sealed := step_sealed run (sealed_of_accounted legal free accounted held final)
    by_cases stays : r ∈ t.takes.table
    · exact .inl stays
    · exact .inr fun q there same => stays (sealed.only q there same ▸ there)
  case note =>
    have written : NoteWritten s t := by
      rcases run with bind | note
      · cases bind
        exact noteWritten_takeNextNote s
      · cases note
        exact noteWritten_serveNote s tag text
    exact written.final_mem held final only

end Sys2Proof.Machine
end

section
/-! SUPPORT. One sample of a trigger line (R104): what it does to the filtered level and to the pending edge, and the request
that the polarity and the mode give an edge (R103, R105). -/

namespace Sys2Proof.Machine

section
variable {l : TrigLine} {level : Bool} {p : Nat} {e : PendingEdge}

/-! ## The filtered level and the pending edge (R104) -/

theorem sample_unset (unset : l.level = none) : l.sample level p = { l with level := some level } := by
  rw [TrigLine.sample, unset]

theorem sample_held (held : l.level = some level) : l.sample level p = { l with pending := none } := by
  rw [TrigLine.sample, held]
  exact if_pos rfl

theorem sample_changed (changed : l.level = some (!level)) : l.sample level p = l.confirm level (l.longer p) := by
  rw [TrigLine.sample, changed]
  exact if_neg (Bool.self_ne_not level)

theorem longer_start (none_pending : l.pending = none) : l.longer p = { first := p, counter := 1 } := by
  rw [TrigLine.longer, none_pending]

theorem longer_counts (pending : l.pending = some e) :
    l.longer p = { first := e.first, counter := e.counter + 1 } := by
  rw [TrigLine.longer, pending]

/-! ## The confirmation (R104, log entry 12) -/

theorem confirm_short (short : e.counter < max l.filter 1) : l.confirm level e = { l with pending := some e } :=
  if_neg (Nat.not_le.mpr short)

theorem confirm_reached (reached : max l.filter 1 ≤ e.counter) : l.confirm level e =
    { l with pending := some e
             confirmed := some { level := level, first := e.first, direction := l.directionTo level
                                 request := trigRequest l.mode (l.directionTo level) } } :=
  if_pos reached

/-! ## The direction and the request of an edge (R103, R105) -/

theorem directionTo_asserting (asserting : level = !l.assertedLow) : l.directionTo level = .asserted :=
  if_pos (bne_iff_ne.mpr (Bool.eq_not.mp asserting))

theorem directionTo_releasing (releasing : level ≠ !l.assertedLow) : l.directionTo level = .released :=
  if_neg fun differs => releasing (Bool.eq_not.mpr (bne_iff_ne.mp differs))

end

/-! ## The sample by its cases -/

/-- Settles O12: a level other than the filtered one goes to the confirmation with the lengthened edge, and the direction of
an edge that is confirmed selects the row of R105's table. -/
theorem triggerSampleFiltersTheLevel : Obligations.TriggerSampleFiltersTheLevel := by
  unfold Obligations.TriggerSampleFiltersTheLevel
  intro l level p
  refine ⟨sample_unset, sample_held, fun changed e lengthened => ?_⟩
  have longer : l.longer p = e := by
    rw [lengthened]
    cases pending : l.pending with
    | none => exact longer_start pending
    | some _ => exact longer_counts pending
  rw [sample_changed changed, longer]
  refine ⟨confirm_short, fun reached => (confirm_reached reached).trans ?_⟩
  by_cases asserting : level = !l.assertedLow
  case pos =>
    rw [directionTo_asserting asserting]
    simp only [if_pos asserting]
    cases l.mode <;> rfl
  case neg =>
    rw [directionTo_releasing asserting]
    simp only [if_neg asserting]
    cases l.mode <;> rfl

end Sys2Proof.Machine
end

section
/-! SUPPORT. The note receiver, a character at a time: which characters it takes, and what each does in IDLE and in OPEN
(R134, R136, R138 to R141, R143, R144, R147). -/

namespace Sys2Proof.Machine

namespace NoteRx

section
variable {x : NoteRx} {bits : BitVec 11} {v : BitVec 8} {p : Nat}

/-! ## The stop bit (R143, R144, R147) -/

/-- In BREAK no character is taken (R143). -/
theorem character_breaking (breaking : x.line = .breaking) : x.character bits p = x := if_pos (.inr breaking)

theorem character_waiting (low : bits.getLsbD 0 = false) (line : x.line ≠ .breaking) (waits : x.waitHigh = true) :
    x.character bits p = x.passCharacter (bits.getLsbD 10) := by
  rw [character, if_neg (not_or.2 ⟨Bool.not_eq_true _ ▸ low, line⟩), if_pos waits, characterStopHigh]

theorem character_framing (low : bits.getLsbD 0 = false) (line : x.line ≠ .breaking) (takes : x.waitHigh = false)
    (stop : bits.getLsbD 10 = false) : x.character bits p =
      ({ x with receiving := false, lineHigh := false } : NoteRx).count fun c =>
        { c with framing := bump Config.countTop c.framing } := by
  rw [character, if_neg (not_or.2 ⟨Bool.not_eq_true _ ▸ low, line⟩), if_neg (Bool.not_eq_true _ ▸ takes),
    if_neg (by rw [characterStopHigh, stop]; decide)]

/-- The bits of a low start bit, a value, a marker and a high stop bit (R134, R186). -/
theorem spelled_getLsbD (marker : BitVec 1) (v : BitVec 8) (i : Nat) : (1#1 ++ marker ++ v ++ 0#1).getLsbD i =
    if i < 1 then false else if i - 1 < 8 then v.getLsbD (i - 1)
    else if i - 1 - 8 < 1 then marker.getLsbD (i - 1 - 8) else decide (i - 1 - 8 - 1 = 0) := by
  simp only [BitVec.getLsbD_append, BitVec.getLsbD_one, BitVec.getLsbD_zero, Nat.zero_lt_one, decide_true, Bool.true_and]

theorem character_spelled (line : x.line ≠ .breaking) (takes : x.waitHigh = false) (marker : BitVec 1) :
    x.character (1#1 ++ marker ++ v ++ 0#1) p =
      ({ x with receiving := false, lineHigh := true } : NoteRx).takeGood v (marker.getLsbD 0) p := by
  have low : (1#1 ++ marker ++ v ++ 0#1).getLsbD 0 = false := spelled_getLsbD marker v 0
  have stop : characterStopHigh (1#1 ++ marker ++ v ++ 0#1) = true := spelled_getLsbD marker v 10
  have marked : characterMarked (1#1 ++ marker ++ v ++ 0#1) = marker.getLsbD 0 := spelled_getLsbD marker v 9
  have value : characterValue (1#1 ++ marker ++ v ++ 0#1) = v := by
    ext i h
    rw [characterValue, BitVec.getElem_extractLsb']
    refine (spelled_getLsbD marker v (1 + i)).trans ?_
    rw [if_neg (by omega), if_pos (by omega), Nat.add_sub_cancel_left, BitVec.getLsbD_eq_getElem h]
  rw [character, if_neg (not_or.2 ⟨Bool.not_eq_true _ ▸ low, line⟩), if_neg (Bool.not_eq_true _ ▸ takes), if_pos stop,
    marked, value]

/-! ## A character taken (R138 to R141) -/

theorem takeGood_idle_data (idle : x.line = .idle) : x.takeGood v false p = x.idleData := by rw [takeGood, idle]; rfl

theorem takeGood_idle_address (idle : x.line = .idle) : x.takeGood v true p = x.idleAddress v := by
  rw [takeGood, idle]; rfl

theorem takeGood_open_address (opened : x.line = .opened) : x.takeGood v true p = x.openAddress v := by
  rw [takeGood, opened]; rfl

theorem takeGood_terminator (opened : x.line = .opened) (terminator : v = 0x0D) :
    x.takeGood v false p = x.complete p := by
  rw [takeGood, opened]
  exact if_pos terminator

theorem takeGood_open_data (opened : x.line = .opened) (other : v ≠ 0x0D) : x.takeGood v false p = x.openData v := by
  rw [takeGood, opened]
  exact if_neg other

/-! ## Addresses (R136, R138) -/

theorem accepts_iff {station : Nat} : x.accepts station = true ↔ x.accept = [] ∨ station ∈ x.accept := by
  simp [accepts]

theorem idleAddress_accepted (low : 1 ≤ v.toNat) (high : v.toNat ≤ 30) (accepted : x.accept = [] ∨ v.toNat ∈ x.accept) :
    x.idleAddress v = x.openFor v.toNat := by
  rw [idleAddress, if_pos ⟨low, high⟩, if_pos (accepts_iff.2 accepted)]

theorem idleAddress_unlisted (low : 1 ≤ v.toNat) (high : v.toNat ≤ 30) (listed : x.accept ≠ [])
    (unlisted : v.toNat ∉ x.accept) :
    x.idleAddress v = x.count fun c => { c with notAccepted := bump Config.countTop c.notAccepted } := by
  rw [idleAddress, if_pos ⟨low, high⟩, if_neg (mt accepts_iff.1 (not_or.2 ⟨listed, unlisted⟩))]

theorem idleAddress_bad (bad : v = 0 ∨ 30 < v.toNat) :
    x.idleAddress v = x.count fun c => { c with badAddresses := bump Config.countTop c.badAddresses } := by
  refine if_neg fun ⟨low, high⟩ => ?_
  rcases bad with rfl | above
  · exact absurd low (by decide)
  · omega

/-! ## Data in OPEN (R139) -/

theorem openData_printable (low : 0x20 ≤ v.toNat) (high : v.toNat ≤ 0x7E) :
    x.openData v = { x with
      idleTimer := Timer.zero
      buffer := if x.buffer.length < 64 then x.buffer ++ [v] else x.buffer
      long := if x.buffer.length < 64 then x.long else true } := by
  have shown : printable v = true := by simp [printable, low, high]
  rw [openData, if_pos shown]
  by_cases room : x.buffer.length < 64
  · simp [room]
  · simp [room]

theorem openData_other (other : v.toNat < 0x20 ∨ 0x7E < v.toNat) :
    x.openData v = ({ x with idleTimer := Timer.zero } : NoteRx).count fun c =>
      { c with dropped := bump Config.countTop c.dropped } := by
  have hidden : printable v ≠ true := by
    simp only [printable, ne_eq, Bool.and_eq_true, decide_eq_true_eq]
    omega
  rw [openData, if_neg hidden]

/-- The terminator completes the note (R140); LONG is counted where it is set. -/
theorem complete_eq : x.complete p = { x with
    line := .idle, station := none, buffer := [], long := false, idleTimer := Timer.zero
    counts := { x.counts with
      completed := bump 65535 x.counts.completed
      long := if x.long = true ∧ x.counts.long < 65535 then x.counts.long + 1 else x.counts.long }
    completed := x.completed ++ [{ station := x.station.getD 0, text := x.buffer, long := x.long, position := p }] } := by
  have counted : (if x.long = true then bump Config.countTop x.counts.long else x.counts.long) =
      if x.long = true ∧ x.counts.long < 65535 then x.counts.long + 1 else x.counts.long := by
    rw [ite_and]
    rfl
  rw [← counted]
  rfl

end

end NoteRx

/-! ## The note line's steps -/

section
variable {s : State} {v : BitVec 8} {z : NoteRx}

theorem exec_character_of {bits : BitVec 11} (taken : s.notes.character bits s.ring.p = z) :
    exec (.character bits) s = .next { s with notes := z } := by
  rw [← taken]
  rfl

theorem exec_data (line : s.notes.line ≠ .breaking) (takes : s.notes.waitHigh = false)
    (taken : ({ s.notes with receiving := false, lineHigh := true } : NoteRx).takeGood v false s.ring.p = z) :
    exec (.character (1#1 ++ 0#1 ++ v ++ 0#1)) s = .next { s with notes := z } :=
  exec_character_of ((NoteRx.character_spelled line takes 0#1).trans taken)

theorem exec_address (line : s.notes.line ≠ .breaking) (takes : s.notes.waitHigh = false)
    (taken : ({ s.notes with receiving := false, lineHigh := true } : NoteRx).takeGood v true s.ring.p = z) :
    exec (.character (1#1 ++ 1#1 ++ v ++ 0#1)) s = .next { s with notes := z } :=
  exec_character_of ((NoteRx.character_spelled line takes 1#1).trans taken)

end

/-- Settles O49: a character with a high stop bit goes to IDLE's rules or to OPEN's by its marker, and an address in OPEN is
an address in IDLE after the partial note is discarded. -/
theorem charactersAssembleNotes : Obligations.CharactersAssembleNotes := by
  unfold Obligations.CharactersAssembleNotes
  rintro s v _ _ takes rfl rfl
  refine ⟨fun idle => ?idle, fun opened => ?opened⟩
  case idle =>
    have line : s.notes.line ≠ .breaking := by rw [idle]; nofun
    refine ⟨⟨_, exec_data line takes (NoteRx.takeGood_idle_data idle), rfl, rfl⟩, fun low high accepted => ?accepted,
      fun low high listed unlisted => ?unlisted, fun bad => ?bad⟩
    case accepted =>
      exact exec_address line takes
        (Eq.trans (NoteRx.takeGood_idle_address idle) (NoteRx.idleAddress_accepted low high accepted))
    case unlisted =>
      exact exec_address line takes
        (Eq.trans (NoteRx.takeGood_idle_address idle) (NoteRx.idleAddress_unlisted low high listed unlisted))
    case bad =>
      exact exec_address line takes (Eq.trans (NoteRx.takeGood_idle_address idle) (NoteRx.idleAddress_bad bad))
  case opened =>
    have line : s.notes.line ≠ .breaking := by rw [opened]; nofun
    refine ⟨fun low high => ?printable, fun other text => ?dropped, fun terminator => ?terminator,
      fun low high accepted => ?accepted, ?_⟩
    case printable =>
      have text : v ≠ 0x0D := by
        rintro rfl
        exact absurd low (by decide)
      exact exec_data line takes
        (Eq.trans (NoteRx.takeGood_open_data opened text) (NoteRx.openData_printable low high))
    case dropped =>
      exact exec_data line takes (Eq.trans (NoteRx.takeGood_open_data opened text) (NoteRx.openData_other other))
    case terminator =>
      exact exec_data line takes (Eq.trans (NoteRx.takeGood_terminator opened terminator) NoteRx.complete_eq)
    case accepted =>
      exact exec_address line takes
        (Eq.trans (NoteRx.takeGood_open_address opened) (NoteRx.idleAddress_accepted low high accepted))
    rintro _ rfl
    refine ⟨fun low high listed unlisted => ?unlisted, fun bad => ?bad⟩
    case unlisted =>
      exact exec_address line takes
        (Eq.trans (NoteRx.takeGood_open_address opened) (NoteRx.idleAddress_unlisted low high listed unlisted))
    case bad =>
      exact exec_address line takes (Eq.trans (NoteRx.takeGood_open_address opened) (NoteRx.idleAddress_bad bad))

end Sys2Proof.Machine
end

section
/-! SUPPORT. The note line between characters: start bits, the idle timer and its timeout, breaks, and the line going high
(R142, R143, R147). -/

namespace Sys2Proof.Machine

namespace NoteRx

section
variable {x : NoteRx}

theorem startEdge_breaking (breaking : x.line = .breaking) : x.startEdge = x := if_pos breaking

theorem startEdge_taken (line : x.line ≠ .breaking) :
    x.startEdge = { x with receiving := true, lineHigh := false, waitHigh := false } := if_neg line

theorem timeout_closed (closed : x.line ≠ .opened) : x.timeout = x := if_neg fun both => closed both.1

theorem timeout_open (opened : x.line = .opened) (quiet : x.receiving = false) : x.timeout =
    (x.goesHigh.count fun c => { c with byTimeout := bump Config.countTop c.byTimeout }).toIdle :=
  if_pos ⟨opened, quiet⟩

/-- A break in IDLE or OPEN is counted, after a partial note that it discards (R143). -/
theorem enterBreak_taken {y : NoteRx} (line : x.line ≠ .breaking) (discarded : x.discardByBreak = y) : x.enterBreak =
    { ((y.count fun c => { c with breaks := bump Config.countTop c.breaks }).toIdle) with
      line := .breaking, receiving := false, lineHigh := false } := by
  rw [← discarded]
  exact if_neg line

theorem discardByBreak_closed (closed : x.line ≠ .opened) : x.discardByBreak = x := if_neg closed

theorem discardByBreak_open (opened : x.line = .opened) :
    x.discardByBreak = x.count fun c => { c with byBreak := bump Config.countTop c.byBreak } := if_pos opened

theorem goesHigh_breaking (breaking : x.line = .breaking) :
    x.goesHigh = { x with line := .idle, lineHigh := true, waitHigh := false } := by rw [goesHigh, if_pos breaking]

theorem goesHigh_other (line : x.line ≠ .breaking) : x.goesHigh = { x with lineHigh := true, waitHigh := false } := by
  rw [goesHigh, if_neg line]

/-- A tick leaves an idle timer that does not run (R142). -/
theorem tick_paused (paused : x.line ≠ .opened ∨ x.receiving = true ∨ x.lineHigh = false) :
    x.tick.idleTimer = x.idleTimer := by
  have stands : x.idleRuns = false := by
    rcases paused with closed | receiving | low
    · simp [idleRuns, closed]
    · simp [idleRuns, receiving]
    · simp [idleRuns, low]
  simp [tick, stands, Timer.tickIf]

end

end NoteRx

section
variable {s : State} {z : NoteRx}

theorem exec_startBitEdge_of (taken : s.notes.startEdge = z) : exec .startBitEdge s = .next { s with notes := z } := by
  rw [← taken]
  rfl

theorem exec_idleTimeout_of (taken : s.notes.timeout = z) : exec .idleTimeout s = .next { s with notes := z } := by
  rw [← taken]
  rfl

theorem exec_lineBreak_of (taken : s.notes.enterBreak = z) : exec .lineBreak s = .next { s with notes := z } := by
  rw [← taken]
  rfl

theorem exec_breakEnd_of (taken : s.notes.goesHigh = z) : exec .breakEnd s = .next { s with notes := z } := by
  rw [← taken]
  rfl

/-- With nothing queued and nothing due a step is one tick (log entry 3). -/
theorem step_tick (empty : s.pending = []) (quiet : s.dueCommand = none) : step s = .next s.tick := by
  rw [step, empty]
  dsimp only
  rw [idleStep, quiet]

end

/-- Settles O50: each row of the note line is one operation of the receiver, by the receiver's line state. -/
theorem noteLineStepsOfOpenAndBreak : Obligations.NoteLineStepsOfOpenAndBreak := by
  unfold Obligations.NoteLineStepsOfOpenAndBreak
  refine ⟨fun s => ⟨fun line => ?startBit, fun breaking => ?startInBreak, fun closed => ?timeoutClosed,
    fun opened quiet => ?timeout, fun idle => ?breakIdle, fun opened => ?breakOpen, fun breaking => ?breakEnd,
    fun line => ?goesHigh, fun empty quiet => ?tick⟩, fun s bits low => ⟨fun breaking => ?inBreak,
    fun line waits => ?waiting, fun line takes stop => ?framing⟩⟩
  case startBit => exact exec_startBitEdge_of (NoteRx.startEdge_taken line)
  case startInBreak => exact exec_startBitEdge_of (NoteRx.startEdge_breaking breaking)
  case timeoutClosed => exact exec_idleTimeout_of (NoteRx.timeout_closed closed)
  case timeout => exact exec_idleTimeout_of (NoteRx.timeout_open opened quiet)
  case breakIdle =>
    have line : s.notes.line ≠ .breaking := by rw [idle]; nofun
    have closed : s.notes.line ≠ .opened := by rw [idle]; nofun
    exact exec_lineBreak_of (NoteRx.enterBreak_taken line (NoteRx.discardByBreak_closed closed))
  case breakOpen =>
    have line : s.notes.line ≠ .breaking := by rw [opened]; nofun
    exact exec_lineBreak_of (NoteRx.enterBreak_taken line (NoteRx.discardByBreak_open opened))
  case breakEnd => exact exec_breakEnd_of (NoteRx.goesHigh_breaking breaking)
  case goesHigh => exact exec_breakEnd_of (NoteRx.goesHigh_other line)
  case tick => exact ⟨s.tick, step_tick empty quiet, NoteRx.tick_paused⟩
  case inBreak => exact exec_character_of (NoteRx.character_breaking breaking)
  case waiting => exact exec_character_of (NoteRx.character_waiting low line waits)
  case framing => exact exec_character_of (NoteRx.character_framing low line takes stop)

end Sys2Proof.Machine
end

section
/-! SUPPORT. The accept list of an NLIN set (R135, R137): the stations named are the fields below the count, and the list
keeps of each its first place. -/

namespace Sys2Proof.Machine

/-! ## Keeping the first place of each station -/

theorem stationList_concat (fields : List Nat) (n : Nat) : stationList (fields ++ [n]) =
    if n ∈ stationList fields then stationList fields else stationList fields ++ [n] := by
  simp [stationList, List.foldl_append]

theorem mem_stationList {fields : List Nat} {n : Nat} : n ∈ stationList fields ↔ n ∈ fields := by
  induction fields using List.reverseRecOn with
  | nil => rfl
  | append_singleton fields m ih =>
    rw [stationList_concat, List.mem_append, List.mem_singleton]
    split
    case isTrue held => exact ⟨fun h => .inl (ih.1 h), fun h => h.elim ih.2 (· ▸ held)⟩
    case isFalse => rw [List.mem_append, List.mem_singleton, ih]

theorem nodup_stationList (fields : List Nat) : (stationList fields).Nodup := by
  induction fields using List.reverseRecOn with
  | nil => exact List.nodup_nil
  | append_singleton fields m ih =>
    rw [stationList_concat]
    split
    case isTrue => exact ih
    case isFalse fresh => exact List.nodup_append_comm.2 (List.nodup_cons.2 ⟨fresh, ih⟩)

/-! ## The fields below the count -/

section
variable {m : Nat}

theorem mem_take_finRange {n : Nat} {k : Fin m} : k ∈ (List.finRange m).take n ↔ k.val < n := by
  rw [List.mem_take_iff_getElem]
  simp [Fin.ext_iff]

theorem take_finRange_succ {n : Nat} (h : n < m) :
    (List.finRange m).take (n + 1) = (List.finRange m).take n ++ [⟨n, h⟩] := by
  rw [List.take_add_one, List.getElem?_eq_getElem (by rwa [List.length_finRange])]
  simp

theorem le_of_mem_drop_finRange {n : Nat} {k : Fin m} (h : k ∈ (List.finRange m).drop n) : n ≤ k.val := by
  obtain ⟨i, inside, rfl⟩ := List.mem_drop_iff_getElem.1 h
  simp

theorem filter_finRange_lt (n : Nat) (q : Fin m → Bool) :
    (List.finRange m).filter (fun k => decide (k.val < n) && q k) = ((List.finRange m).take n).filter q := by
  have first : ((List.finRange m).take n).filter (fun k => decide (k.val < n) && q k) =
      ((List.finRange m).take n).filter q :=
    List.filter_congr fun k h => by rw [decide_eq_true (mem_take_finRange.1 h), Bool.true_and]
  have others : ((List.finRange m).drop n).filter (fun k => decide (k.val < n) && q k) = [] :=
    List.filter_eq_nil_iff.2 fun k h => by simp [le_of_mem_drop_finRange h]
  conv_lhs => rw [← List.take_append_drop n (List.finRange m), List.filter_append, first, others, List.append_nil]

/-- No field before the `k`-th equals it. -/
def isFirst (g : Fin m → Nat) (k : Fin m) : Bool := decide (∀ j : Fin m, j < k → g j ≠ g k)

theorem isFirst_iff (g : Fin m → Nat) {n : Nat} (h : n < m) :
    isFirst g ⟨n, h⟩ = true ↔ g ⟨n, h⟩ ∉ ((List.finRange m).take n).map g := by
  simp only [isFirst, decide_eq_true_eq, List.mem_map, mem_take_finRange, not_exists, not_and, Fin.lt_def, ne_eq]

/-- Of the first fields in index order the list keeps those that no field before them equals. -/
theorem stationList_map_take (g : Fin m → Nat) {n : Nat} (h : n ≤ m) :
    stationList (((List.finRange m).take n).map g) = (((List.finRange m).take n).filter (isFirst g)).map g := by
  induction n with
  | zero => rfl
  | succ n ih =>
    rw [take_finRange_succ h, List.map_append, List.map_singleton, stationList_concat, List.filter_append,
      List.filter_singleton, List.map_append]
    have before := ih (by omega)
    by_cases held : g ⟨n, h⟩ ∈ ((List.finRange m).take n).map g
    case pos =>
      have repeated : isFirst g ⟨n, h⟩ = false := Bool.eq_false_iff.2 fun first => (isFirst_iff g h).1 first held
      rw [if_pos (mem_stationList.2 held), repeated, before, cond_false, List.map_nil, List.append_nil]
    case neg =>
      rw [if_neg (mt mem_stationList.1 held), (isFirst_iff g h).2 held, before, cond_true, List.map_singleton]

end

/-! ## NLIN (R137) -/

section
variable {s : State} {count : BitVec 8} {v : Vector (BitVec 8) 8}

theorem namedStations_eq : namedStations count v = ((List.finRange 8).take count.toNat).map fun k => v[k].toNat := by
  have listed : v.toList = (List.finRange 8).map fun k => v[k] := by
    apply List.ext_getElem <;> simp
  rw [namedStations, listed, ← List.map_take, List.map_map]
  rfl

theorem mem_namedStations {n : Nat} :
    n ∈ namedStations count v ↔ ∃ k : Fin 8, k.val < count.toNat ∧ v[k].toNat = n := by
  simp only [namedStations_eq, List.mem_map, mem_take_finRange]

/-- The accept list of an NLIN set holds the stations of the fields that no field before them equals, in order. -/
theorem stationList_namedStations (few : count.toNat ≤ 8) : stationList (namedStations count v) =
    ((List.finRange 8).filter fun k => decide (k.val < count.toNat ∧ ∀ j : Fin 8, j < k → v[j] ≠ v[k])).map
      fun k => v[k].toNat := by
  rw [namedStations_eq, stationList_map_take _ few, ← filter_finRange_lt]
  simp only [isFirst, Bool.decide_and, ne_eq, BitVec.toNat_inj]

theorem stationsInRange_iff :
    (namedStations count v).all (fun n => decide (1 ≤ n) && decide (n ≤ 30)) = true ↔
      ∀ k : Fin 8, k.val < count.toNat → 1 ≤ v[k].toNat ∧ v[k].toNat ≤ 30 := by
  simp only [List.all_eq_true, mem_namedStations, Bool.and_eq_true, decide_eq_true_eq, forall_exists_index, and_imp]
  exact ⟨fun h k below => h _ k below rfl, fun h _ k below named => named ▸ h k below⟩

theorem reqNlinSet_range {k : Fin 8} (below : k.val < count.toNat) (out : v[k] = 0 ∨ 30 < v[k].toNat) :
    reqNlinSet count v s = refuse s .range := by
  refine if_pos (.inr (Bool.eq_false_iff.2 fun inside => ?_))
  obtain ⟨low, high⟩ := stationsInRange_iff.1 inside k below
  rcases out with zero | above
  · rw [zero] at low
    exact absurd low (by decide)
  · omega

theorem reqNlinSet_ok (few : count.toNat ≤ 8)
    (inside : ∀ k : Fin 8, k.val < count.toNat → 1 ≤ v[k].toNat ∧ v[k].toNat ≤ 30) : reqNlinSet count v s =
      okAnswer (s.modNotes fun x => { x with accept := stationList (namedStations count v) })
        (.nlin { s.notes with accept := stationList (namedStations count v) }) :=
  if_neg (not_or.2 ⟨by omega, by rw [stationsInRange_iff.2 inside]; nofun⟩)

end

/-- Settles O54: the list kept is that of first places, whose members are the stations named. -/
theorem nlinSetsTheAcceptList : Obligations.NlinSetsTheAcceptList := by
  unfold Obligations.NlinSetsTheAcceptList
  intro s tag count v room few
  refine ⟨fun ⟨k, below, out⟩ => ?refused, fun inside _ listed => ?stored, ?cleared⟩
  case refused =>
    calc exec (.nlinSet tag count v) s
        = .next ((reqNlinSet count v (s.modLink Link.goodFrame)).place tag ReqKind.nlin.word) :=
          congrArg _ (serve_room tag _ _ room)
      _ = .next (replied s tag .nlin .range .none) := by rw [reqNlinSet_range below out, refuse_place]
  case stored =>
    rw [← stationList_namedStations few] at listed
    subst listed
    refine ⟨?_, nodup_stationList _, fun n => mem_stationList.trans mem_namedStations⟩
    calc exec (.nlinSet tag count v) s
        = .next ((reqNlinSet count v (s.modLink Link.goodFrame)).place tag ReqKind.nlin.word) :=
          congrArg _ (serve_room tag _ _ room)
      _ = _ := by
        rw [reqNlinSet_ok few inside]
        rfl
  case cleared => exact congrArg _ (serve_room tag _ _ room)

end Sys2Proof.Machine
end

section
/-! SUPPORT. Reading a note's text (R150 to R152): the model's reading of the target, of a take number and of a track name
answers just where the text spells one, and reading goes by the kind letter, the target and the body in turn. -/

namespace Sys2Proof.Machine

/-! ## Digits -/

theorem isDigit_iff {b : BitVec 8} : isDigit b = true ↔ 48 ≤ b.toNat ∧ b.toNat ≤ 57 := by
  simp [isDigit]

/-- The model's reading of digits is the statements' value of them. -/
theorem decimalValue_eq (digits : Text) : decimalValue digits = digitsValue digits := rfl

theorem digitsValue_concat (digits : Text) (b : BitVec 8) :
    digitsValue (digits ++ [b]) = 10 * digitsValue digits + (b.toNat - 48) := List.foldl_append ..

theorem digitsValue_lt {digits : Text} (h : ∀ b ∈ digits, 48 ≤ b.toNat ∧ b.toNat ≤ 57) :
    digitsValue digits < 10 ^ digits.length := by
  induction digits using List.reverseRecOn with
  | nil => exact Nat.one_pos
  | append_singleton digits b ih =>
    have before := ih fun c hc => h c (List.mem_append_left _ hc)
    have last := h b (List.mem_append_right _ (List.mem_singleton_self b))
    rw [digitsValue_concat, List.length_append, List.length_singleton, Nat.pow_succ]
    omega

/-! ## The target and the body (R150) -/

/-- A run of digits before something that is no digit is the run the reading takes. -/
theorem takeWhile_digits {digits rest : Text} (h : ∀ b ∈ digits, 48 ≤ b.toNat ∧ b.toNat ≤ 57)
    (ends : rest.takeWhile isDigit = []) : (digits ++ rest).takeWhile isDigit = digits := by
  rw [List.takeWhile_append_of_pos fun b hb => isDigit_iff.2 (h b hb), ends, List.append_nil]

theorem dropWhile_digits {digits rest : Text} (h : ∀ b ∈ digits, 48 ≤ b.toNat ∧ b.toNat ≤ 57)
    (ends : rest.dropWhile isDigit = rest) : (digits ++ rest).dropWhile isDigit = rest := by
  rw [List.dropWhile_append_of_pos fun b hb => isDigit_iff.2 (h b hb), ends]

theorem targetAndBody_space (rest : Text) : targetAndBody (0x20 :: rest) = some (none, rest) := rfl

theorem targetAndBody_plain {rest : Text} (space : rest.head? ≠ some 0x20) (hash : rest.head? ≠ some 0x23) :
    targetAndBody rest = some (none, rest) := by
  unfold targetAndBody
  split
  · exact absurd rfl hash
  · exact absurd rfl space
  · rfl

/-- What follows the digits of a target: nothing, or a space and the body (R150 step 3). -/
def bodyAfterTarget : Text → Option Text
  | [] => some []
  | c :: body => if c = 0x20 then some body else none

theorem bodyAfterTarget_iff {rest body : Text} :
    bodyAfterTarget rest = some body ↔ rest = 0x20 :: body ∨ (rest = [] ∧ body = []) := by
  cases rest with
  | nil => simp [bodyAfterTarget, @eq_comm _ []]
  | cons c rest => simp [bodyAfterTarget]

/-- A target is read from the run of digits after "#". -/
theorem targetAndBody_hash (rest : Text) : targetAndBody (0x23 :: rest) =
    if rest.takeWhile isDigit = [] ∨ 5 < (rest.takeWhile isDigit).length ∨ decimalValue (rest.takeWhile isDigit) = 0
        ∨ 65535 < decimalValue (rest.takeWhile isDigit) then none
    else (bodyAfterTarget (rest.dropWhile isDigit)).map fun body =>
      (some (decimalValue (rest.takeWhile isDigit)), body) := by
  refine (targetAndBody.eq_1 rest).trans ?_
  cases rest.dropWhile isDigit with
  | nil => rfl
  | cons c body => simp [bodyAfterTarget]

theorem targetAndBody_target {digits rest body : Text} (run : DigitRun 1 5 digits) (low : 1 ≤ digitsValue digits)
    (high : digitsValue digits ≤ 65535) (ends : rest.takeWhile isDigit = []) (drops : rest.dropWhile isDigit = rest)
    (after : bodyAfterTarget rest = some body) :
    targetAndBody (0x23 :: (digits ++ rest)) = some (some (digitsValue digits), body) := by
  obtain ⟨some_digits, few, all⟩ := run
  have well : ¬(digits = [] ∨ 5 < digits.length ∨ decimalValue digits = 0 ∨ 65535 < decimalValue digits) := by
    rw [decimalValue_eq, ← List.length_eq_zero_iff]
    omega
  rw [targetAndBody_hash, takeWhile_digits all ends, dropWhile_digits all drops, if_neg well, after]
  rfl

theorem digits_of_takeWhile {rest : Text} {b : BitVec 8} (h : b ∈ rest.takeWhile isDigit) : 48 ≤ b.toNat ∧ b.toNat ≤ 57 :=
  isDigit_iff.1 (List.mem_takeWhile_imp h)

theorem target_of_read {rest body : Text} {target : Option Nat}
    (read : targetAndBody (0x23 :: rest) = some (target, body)) : ∃ digits after, DigitRun 1 5 digits
      ∧ 1 ≤ digitsValue digits ∧ digitsValue digits ≤ 65535 ∧ target = some (digitsValue digits)
      ∧ rest = digits ++ after ∧ bodyAfterTarget after = some body := by
  rw [targetAndBody_hash] at read
  split at read
  case isTrue => cases read
  case isFalse well =>
    obtain ⟨_, after, pair⟩ := Option.map_eq_some_iff.1 read
    cases pair
    rw [decimalValue_eq, ← List.length_eq_zero_iff] at well
    exact ⟨rest.takeWhile isDigit, rest.dropWhile isDigit, ⟨by omega, by omega, fun _ => digits_of_takeWhile⟩, by omega,
      by omega, rfl, List.takeWhile_append_dropWhile.symm, after⟩

/-- The model reads a target and a body just where the text spells them. -/
theorem targetAndBody_iff {rest : Text} {target : Option Nat} {body : Text} :
    targetAndBody rest = some (target, body) ↔ SpellsTargetAndBody rest target body := by
  constructor
  case mp =>
    intro read
    by_cases hash : rest.head? = some 0x23
    case pos =>
      obtain ⟨tail, rfl⟩ := List.head?_eq_some_iff.1 hash
      obtain ⟨digits, after, run, low, high, value, rfl, ends⟩ := target_of_read read
      refine .inr ⟨digits, run, low, high, value, ?_⟩
      rcases bodyAfterTarget_iff.1 ends with rfl | ⟨rfl, rfl⟩
      · exact .inl rfl
      · exact .inr ⟨by rw [List.append_nil], rfl⟩
    case neg =>
    by_cases space : rest.head? = some 0x20
    case pos =>
      obtain ⟨tail, rfl⟩ := List.head?_eq_some_iff.1 space
      cases read
      exact .inl ⟨rfl, .inl rfl⟩
    case neg =>
      cases (targetAndBody_plain space hash).symm.trans read
      exact .inl ⟨rfl, .inr ⟨rfl, space, hash⟩⟩
  case mpr =>
    rintro (⟨rfl, rfl | ⟨rfl, space, hash⟩⟩ | ⟨digits, run, low, high, rfl, rfl | ⟨rfl, rfl⟩⟩)
    · exact targetAndBody_space body
    · exact targetAndBody_plain space hash
    · exact targetAndBody_target run low high rfl rfl rfl
    · have read := targetAndBody_target (rest := []) run low high rfl rfl rfl
      rwa [List.append_nil] at read

/-! ## The body (R151) -/

theorem takeNumBody_spelled {body : Text} (spelled : SpellsTakeNumber body) : takeNumBody body = some (digitsValue body) := by
  obtain ⟨⟨some_digits, few, all⟩, low, -⟩ := spelled
  exact if_pos ⟨some_digits, few, List.all_eq_true.2 fun b hb => isDigit_iff.2 (all b hb), low⟩

theorem takeNumBody_bad {body : Text} (bad : ¬SpellsTakeNumber body) : takeNumBody body = none := by
  refine if_neg fun ⟨some_digits, few, digits, low⟩ => bad ?_
  have all : ∀ b ∈ body, 48 ≤ b.toNat ∧ b.toNat ≤ 57 := fun b hb => isDigit_iff.1 (List.all_eq_true.1 digits b hb)
  have high : digitsValue body < 1000 :=
    (digitsValue_lt all).trans_le (Nat.pow_le_pow_right (by decide) few : 10 ^ body.length ≤ 10 ^ 3)
  rw [decimalValue_eq] at low
  exact ⟨⟨some_digits, few, all⟩, low, by omega⟩

theorem value_of_trackIndex {n : Nat} {k : Fin 24} (small : n < 256) (index : trackIndex (BitVec.ofNat 8 n) = some k) :
    n = k.val + 1 := by
  have value : (BitVec.ofNat 8 n).toNat = n := by
    rw [BitVec.toNat_ofNat]
    omega
  unfold trackIndex at index
  split at index
  case isTrue range =>
    cases index
    dsimp only
    omega
  case isFalse => cases index

theorem trackNameBody_spelled {body name : Text} {track : Fin 24} (spelled : SpellsTrackName body track name) :
    trackNameBody body = some (track, name) := by
  obtain ⟨digits, ⟨two, two', all⟩, value, rfl⟩ := spelled
  obtain ⟨d1, d2, rfl⟩ := List.length_eq_two.1 (Nat.le_antisymm two' two)
  have tens : isDigit d1 = true := isDigit_iff.2 (all d1 (by simp))
  have ones : isDigit d2 = true := isDigit_iff.2 (all d2 (by simp))
  refine (if_pos ⟨tens, ones, rfl⟩).trans ?_
  rw [decimalValue_eq, value, trackIndex_ofNat]
  rfl

theorem trackNameBody_some {body name : Text} {track : Fin 24} (read : trackNameBody body = some (track, name)) :
    SpellsTrackName body track name := by
  unfold trackNameBody at read
  split at read
  case h_2 => cases read
  case h_1 d1 d2 e tail =>
    split at read
    case isFalse => cases read
    case isTrue marks =>
      obtain ⟨tens, ones, rfl⟩ := marks
      obtain ⟨k, index, pair⟩ := Option.map_eq_some_iff.1 read
      cases pair
      have all : ∀ b ∈ [d1, d2], 48 ≤ b.toNat ∧ b.toNat ≤ 57 := by
        simp [isDigit_iff.1 tens, isDigit_iff.1 ones]
      have small : digitsValue [d1, d2] < 10 ^ 2 := digitsValue_lt all
      exact ⟨[d1, d2], ⟨Nat.le_refl _, Nat.le_refl _, all⟩, value_of_trackIndex (by omega) index, rfl⟩

/-! ## The text (R150, R152) -/

theorem kindOfLetter_none {letter : BitVec 8} (unknown : letter ∉ kindLetters) : kindOfLetter letter = none := by
  simp only [kindLetters, List.mem_cons, List.not_mem_nil, or_false, not_or] at unknown
  obtain ⟨s, t, k, c, n, f, w, m⟩ := unknown
  rw [kindOfLetter, if_neg s, if_neg t, if_neg k, if_neg c, if_neg n, if_neg f, if_neg w, if_neg m]

theorem kindOfLetter_some {letter : BitVec 8} (known : letter ∈ kindLetters) : ∃ k, kindOfLetter letter = some k := by
  have all : ∀ b ∈ kindLetters, (kindOfLetter b).isSome = true := by decide
  exact Option.isSome_iff_exists.1 (all letter known)

theorem parseNote_unknown {letter : BitVec 8} (rest : Text) (unknown : letter ∉ kindLetters) :
    parseNote (letter :: rest) = .rejected .unknownKind := by rw [parseNote, kindOfLetter_none unknown]

theorem parseNote_badTarget {letter : BitVec 8} {rest : Text} (known : letter ∈ kindLetters)
    (malformed : ∀ target body, ¬SpellsTargetAndBody rest target body) :
    parseNote (letter :: rest) = .rejected .badTarget := by
  obtain ⟨k, kind⟩ := kindOfLetter_some known
  have none_read : targetAndBody rest = none :=
    Option.eq_none_iff_forall_ne_some.2 fun (target, body) read => malformed target body (targetAndBody_iff.1 read)
  rw [parseNote, kind]
  dsimp only
  rw [none_read]

/-- A text of a known kind whose target is well formed is read as its body is. -/
theorem parseNote_body {letter : BitVec 8} {k : NoteKind} {rest body : Text} {target : Option Nat}
    (kind : kindOfLetter letter = some k) (spelled : SpellsTargetAndBody rest target body) :
    parseNote (letter :: rest) = readBody k target body := by
  rw [parseNote, kind]
  dsimp only
  rw [targetAndBody_iff.2 spelled]

section
variable {target : Option Nat} {body : Text}

theorem readBody_takeNum (spelled : SpellsTakeNumber body) : readBody .takeNum target body =
    .note { target := target, body := .takeNum (digitsValue body), cut := false } := by
  rw [readBody, takeNumBody_spelled spelled]

theorem readBody_badTakeNumber (bad : ¬SpellsTakeNumber body) :
    readBody .takeNum target body = .rejected .badTakeNumber := by
  rw [readBody, takeNumBody_bad bad]

theorem readBody_trackName {track : Fin 24} {name : Text} (spelled : SpellsTrackName body track name) :
    readBody .trackName target body = .note { target := target, cut := decide (8 < name.length)
                                              body := .trackName track (limitedText 8 name) } := by
  rw [readBody, trackNameBody_spelled spelled]

theorem readBody_badTrack (bad : ∀ track name, ¬SpellsTrackName body track name) :
    readBody .trackName target body = .rejected .badTrack := by
  have none_read : trackNameBody body = none :=
    Option.eq_none_iff_forall_ne_some.2 fun (track, name) read => bad track name (trackNameBody_some read)
  rw [readBody, none_read]

end

end Sys2Proof.Machine
end

section
/-! SUPPORT. The binding unit's two sources (R145, R146, R149): a note taken changes the take controller and the binding unit
alone, whatever the control link interface holds; its outcome is the notice of a line note and the reply of a NOTE request. -/

namespace Sys2Proof.Machine

section
variable {s : State}

/-! ## What a note changes (R155, R156) -/

/-- A state that differs in the take controller and the binding unit alone takes the two from itself. -/
theorem frame_of_eq {t : State} {takes : TakeCtl} {binding : Binding}
    (changed : t = { s with takes := takes, binding := binding }) :
    t = { s with takes := t.takes, binding := t.binding } := by
  subst changed
  rfl

theorem followLastSlate_frame (s : State) (id : Nat) :
    s.followLastSlate id = { s with takes := (s.followLastSlate id).takes } := by
  unfold State.followLastSlate
  split
  · split <;> rfl
  · rfl

theorem writeTake_frame (s : State) (id station pos : Nat) (b : NoteBody) :
    s.writeTake id station pos b = { s with takes := (s.writeTake id station pos b).takes } :=
  followLastSlate_frame ..

theorem bindTake_frame (s : State) (n : ParsedNote) (station pos id : Nat) (also : Bool) :
    (s.bindTake n station pos id also).1 = { s with
      takes := (s.bindTake n station pos id also).1.takes, binding := (s.bindTake n station pos id also).1.binding } := by
  have written := writeTake_frame s id station pos n.body
  unfold State.bindTake
  split
  · rfl
  · cases also
    case false => exact frame_of_eq written
    case true =>
      have both := congrArg (State.writePending · station pos true n.body) written
      exact frame_of_eq both

theorem bindParsed_frame (s : State) (n : ParsedNote) (station pos : Nat) :
    (s.bindParsed n station pos).1 = { s with
      takes := (s.bindParsed n station pos).1.takes, binding := (s.bindParsed n station pos).1.binding } := by
  unfold State.bindParsed
  split
  · exact bindTake_frame ..
  · rfl
  · rfl

theorem bindNote_frame (s : State) (note : CompletedNote) :
    (s.bindNote note).1 = { s with
      takes := (s.bindNote note).1.takes, binding := (s.bindNote note).1.binding } := by
  unfold State.bindNote
  split
  · rfl
  · exact bindParsed_frame ..

/-! ## The control link interface has no part in it -/

theorem followLastSlate_modLink (s : State) (f : Link → Link) (id : Nat) :
    (s.modLink f).followLastSlate id = (s.followLastSlate id).modLink f := by
  unfold State.followLastSlate
  rw [State.modLink_takes, State.record?_modLink]
  split
  · split <;> rfl
  · rfl

theorem bindTake_modLink (s : State) (f : Link → Link) (n : ParsedNote) (station pos id : Nat) (also : Bool) :
    (s.modLink f).bindTake n station pos id also =
      ((s.bindTake n station pos id also).1.modLink f, (s.bindTake n station pos id also).2) := by
  have written : (s.modLink f).writeTake id station pos n.body = (s.writeTake id station pos n.body).modLink f :=
    followLastSlate_modLink (s.updRecord id fun r => { r with slate := r.slate.apply station pos n.body }) f id
  unfold State.bindTake
  rw [State.record?_modLink, written]
  split
  · rfl
  · cases also <;> rfl

theorem bindNote_modLink (s : State) (f : Link → Link) (note : CompletedNote) :
    (s.modLink f).bindNote note = ((s.bindNote note).1.modLink f, (s.bindNote note).2) := by
  unfold State.bindNote
  split
  · rfl
  · rename_i n _
    have same : (s.modLink f).noteDest n = s.noteDest n := rfl
    unfold State.bindParsed
    rw [same]
    split
    · exact bindTake_modLink ..
    · rfl
    · rfl

/-! ## The outcome (R152, R160, R161) -/

theorem bindNote_rejected {note : CompletedNote} {reason : RejectReason} (read : parseNote note.text = .rejected reason) :
    s.bindNote note = (s, rejection note.text reason) := by
  rw [State.bindNote, read]

theorem bindNote_parsed {note : CompletedNote} {n : ParsedNote} (read : parseNote note.text = .note n) :
    s.bindNote note = s.bindParsed n note.station note.position := by
  rw [State.bindNote, read]

/-- A note that could be read is bound or an orphan. -/
theorem bindParsed_outcome (s : State) (n : ParsedNote) (station pos : Nat) :
    (∃ report, (s.bindParsed n station pos).2 = .bound report)
      ∨ ∃ kind target reason, (s.bindParsed n station pos).2 = .orphaned kind target reason := by
  unfold State.bindParsed
  split
  · unfold State.bindTake
    split
    · exact .inr ⟨_, _, _, rfl⟩
    · exact .inl ⟨_, rfl⟩
  · exact .inl ⟨_, rfl⟩
  · exact .inr ⟨_, _, _, rfl⟩

theorem lineNotice_kind {note : CompletedNote} (read : ∀ reason, parseNote note.text ≠ .rejected reason) :
    (lineNotice note (s.bindNote note).2).noticeKind = .bind ∨ (lineNotice note (s.bindNote note).2).noticeKind = .orph := by
  cases parsed : parseNote note.text with
  | rejected reason => exact absurd parsed (read reason)
  | note n =>
    rw [bindNote_parsed parsed]
    rcases bindParsed_outcome s n note.station note.position with ⟨report, bound⟩ | ⟨kind, target, reason, orphaned⟩
    · rw [bound]
      exact .inl rfl
    · rw [orphaned]
      exact .inr rfl

/-! ## A comment with no take to go to (R154, R156) -/

theorem noteDest_comment {text : Text} {cut : Bool} (noOpen : s.openRecord? = none) (noClosed : s.recentClosed? = none) :
    s.noteDest { target := none, body := .comment text, cut := cut } = .pendingSlate := by
  have outside : s.windowRecord? = none := by rw [State.windowRecord?, noClosed]
  show s.flagDest .pendingSlate = .pendingSlate
  rw [State.flagDest, noOpen, outside]

theorem parseNote_comment {body : Text} (short : body.length ≤ 48) :
    parseNote (0x4D :: 0x20 :: body) = .note { target := none, body := .comment body, cut := false } := by
  have kind : kindOfLetter 0x4D = some .comment := by decide
  have whole : decide (48 < body.length) = false := decide_eq_false (by omega)
  rw [parseNote_body kind (.inl ⟨rfl, .inl rfl⟩), readBody, List.take_of_length_le short, whole]

theorem bindNote_comment {note : CompletedNote} {body : Text} (text : note.text = 0x4D :: 0x20 :: body)
    (short : body.length ≤ 48) (noOpen : s.openRecord? = none) (noClosed : s.recentClosed? = none)
    (room : s.binding.comments.length < 8) : (s.bindNote note).1 = { s with binding := { s.binding with
      comments := s.binding.comments ++ [{ station := note.station, position := note.position, text := body }] } } := by
  have read : parseNote note.text = .note { target := none, body := .comment body, cut := false } := by
    rw [text, parseNote_comment short]
  rw [bindNote_parsed read, State.bindParsed, noteDest_comment noOpen noClosed]
  exact congrArg (fun x : Binding => { s with binding := x }) (if_pos room)

end

/-! ## BIND_NOTE (R149) and NOTE (R146, R162) -/

theorem takeNextNote_none {s : State} (empty : s.notes.completed = []) : s.takeNextNote = s := by
  rw [State.takeNextNote, empty]

theorem takeNextNote_some {s : State} {note : CompletedNote} {rest : List CompletedNote}
    (waiting : s.notes.completed = note :: rest) :
    s.takeNextNote = ({ s with notes := { s.notes with completed := rest } } : State).takeLineNote note := by
  rw [State.takeNextNote, waiting]
  rfl

theorem takeLineNote_frame (s : State) (note : CompletedNote) : s.takeLineNote note = { s with
    link := (s.takeLineNote note).link, takes := (s.takeLineNote note).takes
    binding := (s.takeLineNote note).binding } := by
  rw [State.takeLineNote, bindNote_frame]
  rfl

theorem takeLineNote_link {s : State} {note : CompletedNote} (space : NoticeRoom s) :
    (s.takeLineNote note).link = noticed s.link (lineNotice note (s.bindNote note).2) :=
  have before : (s.bindNote note).1.link = s.link := by rw [bindNote_frame]
  notify_link before space

theorem requestNote_eq {text printed : Text} (p : Nat)
    (shown : printed = text.filter fun b => decide (0x20 ≤ b.toNat ∧ b.toNat ≤ 0x7E)) : requestNote text p =
      { station := 0, text := printed.take 64, long := decide (64 < printed.length), position := p } := by
  have same : text.filter printable = printed := by
    rw [shown]
    exact List.filter_congr fun b _ => (Bool.decide_and ..).symm
  rw [requestNote, same]

/-- A comment's text in a NOTE request is short enough to be taken whole. -/
theorem requestNote_comment {body : Text} (all : ∀ b ∈ body, 0x20 ≤ b.toNat ∧ b.toNat ≤ 0x7E) (short : body.length ≤ 48)
    (p : Nat) : (requestNote (0x4D :: 0x20 :: body) p).text = 0x4D :: 0x20 :: body := by
  have shown : (0x4D :: 0x20 :: body).filter printable = 0x4D :: 0x20 :: body := by
    refine List.filter_eq_self.2 (List.forall_mem_cons.2 ⟨rfl, List.forall_mem_cons.2 ⟨rfl, fun b hb => ?_⟩⟩)
    simp [printable, all b hb]
  rw [requestNote, shown]
  exact List.take_of_length_le (show body.length + 1 + 1 ≤ 64 by omega)

theorem exec_note {s : State} (tag : BitVec 8) {text : Text} (room : HasRoom s) (fits : text.length ≤ 240) :
    exec (.note tag text) s = .next { s with
      link := answered s.link tag .note .ok
        (.note (s.bindNote (requestNote text s.ring.p)).2 s.ring.p (requestNote text s.ring.p).long)
      takes := (s.bindNote (requestNote text s.ring.p)).1.takes
      binding := (s.bindNote (requestNote text s.ring.p)).1.binding } := by
  have handled : reqNote text (s.modLink Link.goodFrame) =
      okAnswer ((s.bindNote (requestNote text s.ring.p)).1.modLink Link.goodFrame)
        (.note (s.bindNote (requestNote text s.ring.p)).2 s.ring.p (requestNote text s.ring.p).long) := by
    rw [reqNote, if_neg (Nat.not_lt.2 fits), State.modLink_ring, bindNote_modLink]
  calc exec (.note tag text) s
      = .next ((reqNote text (s.modLink Link.goodFrame)).place tag ReqKind.note.word) :=
        congrArg _ (serve_room tag _ _ room)
    _ = _ := by
      rw [handled, bindNote_frame]
      rfl

/-- Settles O51: a note taken is reported by its outcome, and a text is read by its kind letter, its target and its body. -/
theorem notesAreBoundAndReported : Obligations.NotesAreBoundAndReported := by
  unfold Obligations.NotesAreBoundAndReported
  refine ⟨fun s => ⟨fun empty => ?idle, fun note rest waiting => ?line⟩,
    fun s tag text printed v room fits shown bound => ⟨?request, fun body comment all short noOpen noClosed space => ?comment⟩,
    rfl, fun letter rest => ⟨parseNote_unknown rest, parseNote_badTarget⟩, fun rest target body spelled => ?bodies⟩
  case idle => exact congrArg _ (takeNextNote_none empty)
  case line =>
    refine ⟨_, _, _, rfl, congrArg Host.Outcome.next (takeNextNote_some waiting),
      ?notes, fun space => takeLineNote_link (by exact space), rfl, rfl, fun report bound => ?bound,
      fun kind target reason orphaned => ?orphaned, fun reason read => ?rejected, lineNotice_kind, ?frame⟩
    case notes => rw [takeLineNote_frame]
    case frame => rw [takeLineNote_frame]
    case bound => rw [bound, lineNotice]
    case orphaned => rw [orphaned, lineNotice]
    case rejected =>
      rw [State.takeLineNote, bindNote_rejected read]
      exact ⟨rfl, rfl, rfl⟩
  case request =>
    rw [exec_note tag room fits, requestNote_eq s.ring.p shown, bound]
  case comment =>
    subst comment
    have taken := bindNote_comment (requestNote_comment all short s.ring.p) short noOpen noClosed space
    rw [bound, ← requestNote_eq s.ring.p shown, taken]
    exact ⟨rfl, rfl⟩
  case bodies =>
    refine ⟨parseNote_body (k := .scene) rfl spelled,
      fun number => (parseNote_body (k := .takeNum) rfl spelled).trans (readBody_takeNum number),
      fun bad => (parseNote_body (k := .takeNum) rfl spelled).trans (readBody_badTakeNumber bad),
      fun track name named => (parseNote_body (k := .trackName) rfl spelled).trans (readBody_trackName named),
      fun bad => (parseNote_body (k := .trackName) rfl spelled).trans (readBody_badTrack bad),
      parseNote_body (k := .circle) rfl spelled, parseNote_body (k := .noGood) rfl spelled,
      parseNote_body (k := .falseTake) rfl spelled, parseNote_body (k := .wild) rfl spelled,
      parseNote_body (k := .comment) rfl spelled⟩

end Sys2Proof.Machine
end

section
/-! SUPPORT. Slates (R155 to R159): the number that a take's slate is given from an earlier one, the slate that a roll takes
from the pending slate, and the number after a SCENE note. -/

namespace Sys2Proof.Machine

/-! ## The automatic number (R158, R159) -/

/-- After a take of the same scene the numbers run on, from 1 to 999 and round to 1. -/
theorem autoNumber_same {scene : Option Text} {q : PriorSlate} (same : q.scene = scene) :
    autoNumber scene (some q) = q.number % 999 + 1 := if_pos same

/-- A scene without an earlier take of its own starts at 1. -/
theorem autoNumber_fresh {scene : Option Text} {prior : Option PriorSlate} (fresh : ∀ q, prior = some q → q.scene ≠ scene) :
    autoNumber scene prior = 1 := by
  cases prior with
  | none => rfl
  | some q => exact if_neg (fresh q rfl)

/-! ## The slate of a new take (R157, R158) -/

section
variable {b : Binding} {last : Option LastSlate}

theorem newSlate_explicit {n : Nat} (given : b.number = some n) :
    (newSlate b last).number = n ∧ (newSlate b last).numbering = .explicit := by
  rw [newSlate, given]
  exact ⟨rfl, rfl⟩

theorem newSlate_auto (absent : b.number = none) : (newSlate b last).numbering = .auto
    ∧ (newSlate b last).number = autoNumber b.scene (last.map LastSlate.asPrior) := by
  rw [newSlate, absent]
  exact ⟨rfl, rfl⟩

theorem newSlate_runs_on {l : LastSlate} (absent : b.number = none) (same : l.scene = b.scene) :
    (newSlate b (some l)).number = if l.number = 999 then 1 else l.number % 999 + 1 := by
  have number : (newSlate b (some l)).number = l.number % 999 + 1 :=
    (newSlate_auto absent).2.trans (autoNumber_same (q := l.asPrior) same)
  rw [number]
  split <;> omega

theorem newSlate_fresh (absent : b.number = none) (fresh : ∀ l, last = some l → l.scene ≠ b.scene) :
    (newSlate b last).number = 1 := by
  refine (newSlate_auto absent).2.trans (autoNumber_fresh fun q prior => ?_)
  obtain ⟨l, here, rfl⟩ := Option.map_eq_some_iff.1 prior
  exact fresh l here

end

/-! ## A SCENE note (R155, R159) -/

section
variable {x : Slate} {station pos : Nat} {v : Option Text}

/-- An EXPLICIT number stays. -/
theorem applyScene_explicit (explicit : x.numbering = .explicit) : (x.apply station pos (.scene v)).number = x.number :=
  if_neg (by rw [explicit]; nofun)

/-- An AUTO number is found anew from the prior slate. -/
theorem applyScene_auto (auto : x.numbering = .auto) :
    (x.apply station pos (.scene v)).number = autoNumber v x.prior := if_pos auto

theorem applyScene_runs_on {q : PriorSlate} (auto : x.numbering = .auto) (prior : x.prior = some q) (same : q.scene = v) :
    (x.apply station pos (.scene v)).number = q.number % 999 + 1 := by
  rw [applyScene_auto auto, prior, autoNumber_same same]

end

/-- Settles O31: the slate of the record that a roll opens is the new slate of R157, whose number is the pending one or found
as R158 says; a SCENE note finds an AUTO number by the same rule. -/
theorem slatesAreTakenAndRenumbered : Obligations.SlatesAreTakenAndRenumbered := by
  unfold Obligations.SlatesAreTakenAndRenumbered
  refine ⟨fun s tag room stopped armed => ?roll, fun x station pos v => ⟨rfl, rfl, applyScene_explicit,
    fun auto q prior same below => ?next, fun auto q prior same top => ?wraps, fun auto fresh => ?fresh⟩⟩
  case roll =>
    have run := exec_roll_taken tag room (rollReq_stopped (s := s.modLink Link.goodFrame) .command rfl stopped armed)
    obtain ⟨q, last, record, -, -, -, -, -, -, binding⟩ := rollOpens_spec (s.modLink Link.goodFrame) .command s.ring.p
    have slate : q.slate = newSlate s.binding s.takes.lastSlate := by rw [record]; rfl
    refine ⟨_, q, run, last, ?_⟩
    rw [slate]
    exact ⟨rfl, rfl, rfl, rfl, rfl, rfl, rfl, rfl, fun n given => newSlate_explicit given,
      fun absent => ⟨(newSlate_auto absent).1, fun l prior same => by rw [prior, newSlate_runs_on absent same],
        newSlate_fresh absent⟩, rfl, binding⟩
  case next =>
    rw [applyScene_runs_on auto prior same, Nat.mod_eq_of_lt below]
  case wraps =>
    rw [applyScene_runs_on auto prior same, top]
  case fresh =>
    rw [applyScene_auto auto, autoNumber_fresh fresh]

end Sys2Proof.Machine
end

section
/-! SUPPORT. Where a note goes (R153, R154), what it leaves there (R155, R156), and its report (R160, R161). -/

namespace Sys2Proof.Machine

/-! ## Destinations (R153, R154) -/

section
variable {s : State} {r : TakeRecord}

theorem targetDest_gone {id : Nat} (gone : s.record? id = none) : s.targetDest id = .orphan .noTake := by
  rw [State.targetDest, gone]

theorem targetDest_final {id : Nat} (found : s.record? id = some r) (final : r.state = .final) :
    s.targetDest id = .orphan .final := by
  rw [State.targetDest, found]
  exact if_pos final

theorem targetDest_take {id : Nat} (found : s.record? id = some r) (live : r.state ≠ .final) :
    s.targetDest id = .take id false := by
  rw [State.targetDest, found]
  exact if_neg live

theorem slateDest_grace (opened : s.openRecord? = some r) (grace : s.ring.p - r.roll ≤ s.takes.caps.grace) :
    s.slateDest = .take r.id true := by
  rw [State.slateDest, opened]
  exact if_pos (decide_eq_true grace)

theorem slateDest_pending (outside : ∀ r, s.openRecord? = some r → ¬s.ring.p - r.roll ≤ s.takes.caps.grace) :
    s.slateDest = .pendingSlate := by
  unfold State.slateDest
  split
  · rename_i r opened
    exact if_neg fun grace => outside r opened (of_decide_eq_true grace)
  · rfl

theorem windowRecord?_iff : s.windowRecord? = some r ↔
    s.recentClosed? = some r ∧ ∃ w, r.windowEnd = some w ∧ s.ring.p < w := by
  unfold State.windowRecord?
  cases s.recentClosed? with
  | none => simp
  | some q => cases ends : q.windowEnd <;> grind

theorem flagDest_open (otherwise : NoteDest) (opened : s.openRecord? = some r) : s.flagDest otherwise = .take r.id false := by
  rw [State.flagDest, opened]

theorem flagDest_window (otherwise : NoteDest) (closed : s.openRecord? = none) (window : s.windowRecord? = some r) :
    s.flagDest otherwise = .take r.id false := by
  rw [State.flagDest, closed, window]

theorem flagDest_otherwise (otherwise : NoteDest) (closed : s.openRecord? = none) (past : ∀ r, s.windowRecord? ≠ some r) :
    s.flagDest otherwise = otherwise := by
  rw [State.flagDest, closed, Option.eq_none_iff_forall_ne_some.2 past]

/-- SCENE, TAKENUM and TRACKNAME speak of the slate. -/
theorem kindDest_slate {k : NoteKind} (slate : k = .scene ∨ k = .takeNum ∨ k = .trackName) : s.kindDest k = s.slateDest := by
  rcases slate with rfl | rfl | rfl <;> rfl

/-- CIRCLE, NOGOOD, FALSE and COMMENT speak of a take; a comment alone can wait in the pending slate. -/
theorem kindDest_flag {k : NoteKind} (flag : k = .circle ∨ k = .noGood ∨ k = .falseTake ∨ k = .comment) :
    s.kindDest k = s.flagDest (if k = .comment then .pendingSlate else .orphan .noWindow) := by
  rcases flag with rfl | rfl | rfl | rfl <;> rfl

theorem kindDest_wild_open (opened : s.openRecord? = some r) : s.kindDest .wild = .take r.id false := by
  rw [State.kindDest, opened]

theorem kindDest_wild_closed (closed : s.openRecord? = none) : s.kindDest .wild = .pendingSlate := by
  rw [State.kindDest, closed]

theorem noteDest_target {n : ParsedNote} {id : Nat} (target : n.target = some id) : s.noteDest n = s.targetDest id := by
  rw [State.noteDest, target]

theorem noteDest_kind {n : ParsedNote} (untargeted : n.target = none) : s.noteDest n = s.kindDest n.body.kind := by
  rw [State.noteDest, untargeted]

end

/-! ## What a note leaves of the take controller (R92, R155) -/

section
variable {s : State} {r : TakeRecord} (station pos : Nat) (b : NoteBody)

theorem followLastSlate_record? (s : State) (id j : Nat) : (s.followLastSlate id).record? j = s.record? j := by
  unfold State.followLastSlate
  split
  · split <;> rfl
  · rfl

/-- The last-slate record takes scene and number of the record it names, and stays if it names another. -/
theorem followLastSlate_lastSlate {l : LastSlate} (found : s.record? r.id = some r) (last : s.takes.lastSlate = some l) :
    (s.followLastSlate r.id).takes.lastSlate =
      some (if l.id = r.id then { l with scene := r.slate.scene, number := r.slate.number } else l) := by
  rw [State.followLastSlate, last, found]
  dsimp only
  split
  · rfl
  · exact last

/-- A record with a note written to it. -/
def TakeRecord.noted (r : TakeRecord) : TakeRecord := { r with slate := r.slate.apply station pos b }

theorem writeTake_eq (s : State) (id : Nat) : s.writeTake id station pos b =
    (s.updRecord id (TakeRecord.noted station pos b)).followLastSlate id := rfl

theorem writeTake_found (found : s.record? r.id = some r) :
    (s.writeTake r.id station pos b).record? r.id = some (r.noted station pos b) := by
  rw [writeTake_eq, followLastSlate_record?]
  exact record?_updRecord_same (fun _ => rfl) found

theorem writeTake_other (s : State) {id j : Nat} (other : j ≠ id) :
    (s.writeTake id station pos b).record? j = s.record? j := by
  rw [writeTake_eq, followLastSlate_record?]
  exact record?_updRecord_other (fun _ => rfl) other

theorem writeTake_lastSlate {l : LastSlate} (found : s.record? r.id = some r) (last : s.takes.lastSlate = some l) :
    (s.writeTake r.id station pos b).takes.lastSlate = some (if l.id = r.id then
      { l with scene := (r.slate.apply station pos b).scene, number := (r.slate.apply station pos b).number } else l) :=
  followLastSlate_lastSlate (s := s.updRecord r.id (TakeRecord.noted station pos b)) (r := r.noted station pos b)
    (record?_updRecord_same (fun _ => rfl) found) last

theorem writeTake_binding (s : State) (id : Nat) : (s.writeTake id station pos b).binding = s.binding := by
  rw [writeTake_frame]

end

/-! ## Reports (R161) -/

/-- The report of a note: where it went, the take reached or 0, the comments that stood there, and the slate after it of a
take that it reached (R161). -/
def boundReport (n : ParsedNote) (dest : Destination) (id comments : Nat) (after : Option Slate) : BoundReport :=
  { kind := n.body.kind, dest := dest, takeId := id, targeted := n.target.isSome, cut := n.cut
    commentLost := decide (n.body.kind = .comment ∧ 8 ≤ comments)
    number := if n.body.kind = .scene ∨ n.body.kind = .takeNum then (after.map fun x => x.number).getD 0 else 0
    numbering := if n.body.kind = .scene ∨ n.body.kind = .takeNum then after.map fun x => x.numbering else none
    renumbered := decide (n.body.kind = .scene ∧ (after.map fun x => x.numbering) = some .auto) }

theorem losesComment_eq (b : NoteBody) (held : Nat) :
    b.losesComment held = decide (b.kind = .comment ∧ 8 ≤ held) := by
  cases b with
  | comment text => simp [NoteBody.losesComment, NoteBody.kind, Config.maxComments]
  | _ => simp [NoteBody.losesComment, NoteBody.kind]

theorem reportsNumber_iff (b : NoteBody) : b.reportsNumber = true ↔ b.kind = .scene ∨ b.kind = .takeNum := by
  cases b <;> simp [NoteBody.reportsNumber, NoteBody.kind]

/-- A SCENE keeps the numbering, so that it tells after the note as before it whether R159 renumbered (log entry 32). -/
theorem renumbers_eq (b : NoteBody) (r : TakeRecord) (station pos : Nat) : b.renumbers r =
    decide (b.kind = .scene ∧ some (r.slate.apply station pos b).numbering = some Numbering.auto) := by
  cases b with
  | scene v => simp [NoteBody.renumbers, NoteBody.kind, Slate.apply, Slate.setScene]
  | _ => simp [NoteBody.renumbers, NoteBody.kind]

theorem takeReport_eq (n : ParsedNote) (station pos : Nat) (r : TakeRecord) (also : Bool) :
    takeReport n station pos r also = boundReport n (if also then .takeAndPending else .take) r.id
      r.slate.comments.length (some (r.slate.apply station pos n.body)) := by
  simp only [takeReport, boundReport, losesComment_eq, reportsNumber_iff, renumbers_eq n.body r station pos, Option.map_some,
    Option.getD_some]

theorem pendingReport_eq (n : ParsedNote) (b : Binding) :
    pendingReport n b = boundReport n .pending 0 b.comments.length none := by
  simp [pendingReport, boundReport, losesComment_eq]

/-! ## The note at its destination -/

/-- From `s` to `v` a note has been written to the record `r` and to no other, the last-slate record has followed, and the
outcome reports the destination (R92, R155, R161). -/
def NoteOnTake (s : State) (note : CompletedNote) (n : ParsedNote) (v : State × NoteOutcome) (r : TakeRecord)
    (dest : Destination) : Prop :=
  v.1.record? r.id = some (r.noted note.station note.position n.body)
  ∧ (∀ id, id ≠ r.id → v.1.record? id = s.record? id)
  ∧ (∀ l, s.takes.lastSlate = some l → v.1.takes.lastSlate = some (if l.id = r.id then
      { l with scene := (r.slate.apply note.station note.position n.body).scene
               number := (r.slate.apply note.station note.position n.body).number } else l))
  ∧ v.2 = .bound (boundReport n dest r.id r.slate.comments.length
      (some (r.slate.apply note.station note.position n.body)))

section
variable {s : State} {note : CompletedNote} {n : ParsedNote} {r : TakeRecord}

theorem bindTake_found (station pos : Nat) (also : Bool) (found : s.record? r.id = some r) :
    s.bindTake n station pos r.id also =
      (if also then (s.writeTake r.id station pos n.body).writePending station pos true n.body
        else s.writeTake r.id station pos n.body, .bound (takeReport n station pos r also)) := by
  rw [State.bindTake, found]

/-- A note bound to one take alone leaves the pending slate. -/
theorem bindTake_binding (s : State) (n : ParsedNote) (station pos id : Nat) :
    (s.bindTake n station pos id false).1.binding = s.binding := by
  unfold State.bindTake
  split
  · rfl
  · exact writeTake_binding ..

variable (read : parseNote note.text = .note n)
include read

theorem bindNote_take {id : Nat} {also : Bool} (dest : s.noteDest n = .take id also) :
    s.bindNote note = s.bindTake n note.station note.position id also := by
  rw [bindNote_parsed read, State.bindParsed, dest]

theorem bindNote_pending (dest : s.noteDest n = .pendingSlate) : s.bindNote note =
    ({ s with binding := s.binding.apply note.station note.position false n.body },
      .bound (boundReport n .pending 0 s.binding.comments.length none)) := by
  rw [bindNote_parsed read, State.bindParsed, dest, ← pendingReport_eq]
  rfl

theorem bindNote_orphan {reason : OrphanReason} (dest : s.noteDest n = .orphan reason) :
    s.bindNote note = (s, .orphaned n.body.kind (n.target.getD 0) reason) := by
  rw [bindNote_parsed read, State.bindParsed, dest]

theorem noteOnTake {also : Bool} (dest : s.noteDest n = .take r.id also) (found : s.record? r.id = some r) :
    NoteOnTake s note n (s.bindNote note) r (if also then .takeAndPending else .take) := by
  have onTake := writeTake_found note.station note.position n.body found
  have others := fun id => writeTake_other note.station note.position n.body s (id := r.id) (j := id)
  have last := fun l => writeTake_lastSlate note.station note.position n.body (l := l) found
  rw [bindNote_take read dest, bindTake_found _ _ _ found, takeReport_eq]
  cases also <;> exact ⟨onTake, others, last, rfl⟩

theorem bindNote_binding (dest : s.noteDest n = .take r.id false) : (s.bindNote note).1.binding = s.binding := by
  rw [bindNote_take read dest, bindTake_binding]

theorem bindNote_binding_also (dest : s.noteDest n = .take r.id true) (found : s.record? r.id = some r) :
    (s.bindNote note).1.binding = s.binding.apply note.station note.position true n.body := by
  rw [bindNote_take read dest, bindTake_found _ _ _ found, ← writeTake_binding note.station note.position n.body s r.id]
  rfl

end

/-- Settles O52: the destination of a note by its target or its kind, and what a note leaves at each destination. -/
theorem notesReachTheirDestination : Obligations.NotesReachTheirDestination := by
  unfold Obligations.NotesReachTheirDestination
  refine ⟨fun s note n v report toTake toPending orphan openGrace recent read bound reports onTake onPending onOrphan inGrace
    inWindow => ?_, fun x station pos => ⟨fun _ => rfl, fun _ _ => rfl, rfl, rfl, rfl, rfl, fun _ => rfl⟩,
    fun x station pos reached => ⟨fun _ => rfl, fun _ => rfl, fun _ _ => rfl, rfl, fun _ => rfl⟩⟩
  subst bound
  obtain rfl : report = boundReport n := by
    funext dest id comments after
    exact reports dest id comments after
  have take {r : TakeRecord} (dest : s.noteDest n = .take r.id false) :
      toTake r .take ∧ (s.bindNote note).1.binding = s.binding :=
    ⟨(onTake r .take).2 (noteOnTake read dest), bindNote_binding read dest⟩
  have pending (dest : s.noteDest n = .pendingSlate) : toPending := by
    rw [onPending, bindNote_pending read dest]
    exact ⟨rfl, rfl, rfl⟩
  have orphaned {reason : OrphanReason} (dest : s.noteDest n = .orphan reason) : orphan reason :=
    (onOrphan reason).2 (bindNote_orphan read dest)
  refine ⟨bindNote_frame s note, fun id target => ?targeted, fun untargeted => ⟨fun slate => ?slate, fun wild => ?wild,
    fun flag => ?flag⟩⟩
  case targeted =>
    have dest := noteDest_target (s := s) target
    refine ⟨fun gone => orphaned (dest.trans (targetDest_gone gone)),
      fun r found final => orphaned (dest.trans (targetDest_final found final)), fun r found live => take ?_⟩
    rw [record?_id found]
    exact dest.trans (targetDest_take found live)
  case slate =>
    have dest := (noteDest_kind (s := s) untargeted).trans (kindDest_slate slate)
    refine ⟨fun r grace => ?_, fun outside => pending (dest.trans (slateDest_pending fun r opened within =>
      outside r ((inGrace r).2 ⟨opened, within⟩)))⟩
    obtain ⟨opened, within⟩ := (inGrace r).1 grace
    have both := dest.trans (slateDest_grace opened within)
    exact ⟨(onTake r .takeAndPending).2 (noteOnTake read both), bindNote_binding_also read both⟩
  case wild =>
    have dest := noteDest_kind (s := s) untargeted
    rw [wild] at dest
    exact ⟨fun r opened => take (dest.trans (kindDest_wild_open opened)),
      fun closed => pending (dest.trans (kindDest_wild_closed closed))⟩
  case flag =>
    have dest := (noteDest_kind (s := s) untargeted).trans (kindDest_flag flag)
    refine ⟨fun r reached => take (dest.trans ?_), fun closed past => ?_⟩
    · rcases reached with opened | window
      · exact flagDest_open _ opened
      · obtain ⟨closed, window⟩ := (inWindow r).1 window
        exact flagDest_window _ closed (windowRecord?_iff.2 window)
    · rw [flagDest_otherwise _ closed fun r window => past r ((inWindow r).2 ⟨closed, windowRecord?_iff.1 window⟩)] at dest
      exact ⟨fun comment => pending (dest.trans (if_pos comment)), fun other => orphaned (dest.trans (if_neg other))⟩

end Sys2Proof.Machine
end

section
/-! SUPPORT. The control line, a byte at a time (R166 to R168): where each byte takes the receiver, what a whole frame does once
its last byte has come, and what a frame error leaves. -/

namespace Sys2Proof.Machine

/-! ## A byte (R166) -/

theorem feedBytes_cons (b : Byte) (rest : List Byte) (s : State) : feedBytes (b :: rest) s = feedBytes rest (s.goodByte b) :=
  rfl

theorem goodByte_hunt {s : State} (idle : s.link.rx = .hunt) (v : BitVec 8) :
    s.goodByte v = if v = 0xA7 then s.rxTo .length else s.modLink fun l =>
      { l with counts := { l.counts with bytesSkipped := bump Config.countTop l.counts.bytesSkipped } } := by
  simp only [State.goodByte, idle]

theorem goodByte_length {s : State} (place : s.link.rx = .length) (v : BitVec 8) :
    s.goodByte v = if v.toNat ≤ 240 then s.rxTo (.kind v []) else s.frameError .length := by
  simp only [State.goodByte, place]

theorem byteError_hunt {s : State} (idle : s.link.rx = .hunt) :
    s.byteError = s.modLink fun l => { l with counts := l.counts.frameError .byte } := if_pos idle

theorem byteError_inside {s : State} (inside : s.link.rx ≠ .hunt) : s.byteError = s.frameError .byte := if_neg inside

/-! ## A frame (R166, R183) -/

section
variable (s : State) (len : BitVec 8) (kind : Text) (tag : BitVec 8) (tail : List Byte)

/-- The bytes of the kind word. -/
theorem feedBytes_kind (word : kind.length = 4) :
    feedBytes (kind ++ tail) (s.rxTo (.kind len [])) = feedBytes tail (s.rxTo (.tag len kind)) := by
  obtain ⟨a, b, c, d, rfl⟩ := List.length_eq_four.1 word
  rfl

/-- The bytes of the payload that are still to come, one at least. -/
theorem feedBytes_payload {rest : Text} (more : rest ≠ []) :
    ∀ {got : Text}, got.length + rest.length = len.toNat →
      feedBytes (rest ++ tail) (s.rxTo (.payload len kind tag got))
        = feedBytes tail (s.rxTo (.crc len kind tag (got ++ rest) none)) := by
  induction rest with
  | nil => exact absurd rfl more
  | cons b rest ih =>
    intro got whole
    have taken : (s.rxTo (.payload len kind tag got)).goodByte b =
        if got.length + 1 < len.toNat then s.rxTo (.payload len kind tag (got ++ [b]))
        else s.rxTo (.crc len kind tag (got ++ [b]) none) := rfl
    rw [List.length_cons] at whole
    rw [List.cons_append, feedBytes_cons, taken]
    by_cases last : rest = []
    · subst last
      rw [if_neg (by simp at whole; omega), List.nil_append]
    · have := List.length_pos_iff.2 last
      rw [if_pos (by omega), ih last (by simp; omega), List.append_assoc, List.singleton_append]

/-- The tag and the payload, which may be empty. -/
theorem feedBytes_tag {payload : Text} (whole : payload.length = len.toNat) :
    feedBytes (tag :: (payload ++ tail)) (s.rxTo (.tag len kind)) =
      feedBytes tail (s.rxTo (.crc len kind tag payload none)) := by
  have taken : (s.rxTo (.tag len kind)).goodByte tag =
      if len = 0 then s.rxTo (.crc len kind tag [] none) else s.rxTo (.payload len kind tag []) := rfl
  rw [feedBytes_cons, taken]
  by_cases empty : payload = []
  · subst empty
    rw [if_pos (BitVec.eq_of_toNat_eq whole.symm), List.nil_append]
  · have := List.length_pos_iff.2 empty
    have full : len ≠ 0 := by
      rintro rfl
      simp at whole
      contradiction
    rw [if_neg full, feedBytes_payload s len kind tag tail empty (by simpa using whole), List.nil_append]

end

/-- A frame of any kind, taken from HUNT, is complete with its last byte, and its CRC is then tested (R166, R167). -/
theorem feedBytes_frame {s : State} {kind : Text} {payload : List Byte} (tag low high : BitVec 8) (idle : s.link.rx = .hunt)
    (word : kind.length = 4) (fits : payload.length ≤ 240) :
    feedBytes (0xA7 :: (frameBody kind tag payload ++ [low, high])) s =
      .next (s.frameComplete (BitVec.ofNat 8 payload.length) kind tag payload low high) := by
  have counted : (BitVec.ofNat 8 payload.length).toNat = payload.length := by
    rw [BitVec.toNat_ofNat, Nat.mod_eq_of_lt (by omega)]
  have opened : s.goodByte 0xA7 = s.rxTo .length := by rw [goodByte_hunt idle, if_pos rfl]
  have sized : (s.rxTo .length).goodByte (BitVec.ofNat 8 payload.length) =
      s.rxTo (.kind (BitVec.ofNat 8 payload.length) []) := by
    rw [goodByte_length rfl, if_pos (counted.symm ▸ fits)]
    rfl
  have bytes : frameBody kind tag payload ++ [low, high] =
      BitVec.ofNat 8 payload.length :: (kind ++ (tag :: (payload ++ [low, high]))) := by simp [frameBody]
  rw [feedBytes_cons, opened, bytes, feedBytes_cons, sized, feedBytes_kind _ _ _ _ word,
    feedBytes_tag _ _ _ _ _ counted.symm]
  rfl

section
variable {s : State} {kind : Text} {payload : List Byte} {tag low high : BitVec 8}

/-- A receiver in HUNT with its silence timer at 0 is where a frame leaves it (log entry 33). -/
theorem modLink_hunt (idle : s.link.rx = .hunt) (silent : s.link.silenceTimer = { count := 0, frac := 0 }) :
    s.modLink Link.hunt = s := by
  have same : s.link.hunt = s.link := by rw [Link.hunt, Timer.zero, ← idle, ← silent]
  rw [State.modLink, same]

theorem frameComplete_good (good : crc (frameBody kind tag payload) = high ++ low) :
    s.frameComplete (BitVec.ofNat 8 payload.length) kind tag payload low high =
      (s.modLink Link.hunt).serve tag kind (frameRequest kind payload) := if_pos good

theorem frameComplete_bad (bad : high ++ low ≠ crc (frameBody kind tag payload)) :
    s.frameComplete (BitVec.ofNat 8 payload.length) kind tag payload low high = s.frameError .crc := if_neg bad.symm

end

/-! ## Frame errors (R167, R168) -/

section
variable {s : State} (e : FrameError)

/-- The control link interface after a frame error, but for the link fault: in HUNT, with the error counted twice. -/
def Link.failed (l : Link) (e : FrameError) : Link :=
  { l.hunt with consecutive := bump 255 l.consecutive, counts := l.counts.frameError e }

theorem frameError_eq : s.frameError e =
    if bump 255 s.link.consecutive = s.link.errorLimit ∧ s.link.consecutive ≠ bump 255 s.link.consecutive then
      ((s.modLink fun l => l.failed e).raise .linkFault).notify (.lflt (bump 255 s.link.consecutive) s.link.errorLimit e)
    else s.modLink fun l => l.failed e := rfl

/-- An error that does not bring the count to the error limit. -/
theorem frameError_short (short : 255 ≤ s.link.consecutive ∨ s.link.consecutive + 1 ≠ s.link.errorLimit) :
    s.frameError e = { s with link := s.link.failed e } := by
  rw [frameError_eq, if_neg]
  · rfl
  · rintro ⟨limit, rises⟩
    by_cases below : s.link.consecutive < 255
    · rw [bump, if_pos below] at limit
      omega
    · exact rises (if_neg below).symm

/-- An error that brings the count to the error limit sets LINK FAULT and queues LFLT. -/
theorem frameError_limit (below : s.link.consecutive < 255) (limit : s.link.consecutive + 1 = s.link.errorLimit)
    (space : NoticeRoom s) : s.frameError e = { s with
      link := { noticed (s.link.failed e) (.lflt (s.link.consecutive + 1) s.link.errorLimit e) with
        conds := { s.link.conds with linkFault := true } } } := by
  have count : bump 255 s.link.consecutive = s.link.consecutive + 1 := if_pos below
  rw [frameError_eq, count, if_pos ⟨limit, by omega⟩, notify_room _ (by exact space)]
  rfl

/-- Both outcomes of an error, over the link block that it leaves but for the link fault. -/
theorem frameError_outcomes {run : Done} {l : Link} (ran : run = .next (s.frameError e)) (left : l = s.link.failed e) :
    (255 ≤ s.link.consecutive ∨ s.link.consecutive + 1 ≠ s.link.errorLimit → run = .next { s with link := l })
    ∧ (s.link.consecutive < 255 → s.link.consecutive + 1 = s.link.errorLimit → NoticeRoom s → run = .next { s with
        link := { noticed l (.lflt (s.link.consecutive + 1) s.link.errorLimit e) with
          conds := { s.link.conds with linkFault := true } } }) := by
  subst ran left
  exact ⟨fun short => congrArg _ (frameError_short e short),
    fun below limit space => congrArg _ (frameError_limit e below limit space)⟩

end

/-- Settles O55: a byte by the receiver's place, and an error by its count; a whole frame comes to the test of its CRC. -/
theorem controlBytesAndFrameErrorsAreCounted : Obligations.ControlBytesAndFrameErrorsAreCounted := by
  unfold Obligations.ControlBytesAndFrameErrorsAreCounted
  refine ⟨fun s v => ⟨fun idle => ?opens, fun idle other => ?skipped, fun idle => ?low, fun place fits => ?length,
    fun idle => ?quiet, fun inside => ?silence⟩, fun s v stopHigh e counts cause l left => ?error,
    fun s kind tag low high payload idle word fits bad l left => ?crc⟩
  case opens => exact congrArg Host.Outcome.next ((goodByte_hunt idle _).trans (if_pos rfl))
  case skipped => exact congrArg Host.Outcome.next ((goodByte_hunt idle _).trans (if_neg other))
  case low => exact congrArg Host.Outcome.next (byteError_hunt idle)
  case length => exact congrArg Host.Outcome.next ((goodByte_length place _).trans (if_pos fits))
  case quiet => exact congrArg Host.Outcome.next (if_pos idle)
  case silence => exact congrArg Host.Outcome.next (if_neg inside)
  case error =>
    rcases cause with ⟨rfl, rfl, place, long, rfl⟩ | ⟨rfl, rfl, inside, rfl⟩
    · exact frameError_outcomes .length
        (congrArg Host.Outcome.next ((goodByte_length place _).trans (if_neg (Nat.not_le.2 long)))) left
    · exact frameError_outcomes .byte (congrArg Host.Outcome.next (byteError_inside inside)) left
  case crc =>
    refine frameError_outcomes .crc ?_ left
    rw [feedBytes_frame tag low high idle word fits, frameComplete_bad bad]

end Sys2Proof.Machine
end

section
/-! SUPPORT. The requests as frames (R168 to R171, R183): a request command is its owner's request on the payload of its frame,
which has its kind's length; and every request is answered, since none takes a reply away. -/

namespace Sys2Proof.Machine

/-! ## The fields of a payload (R183) -/

theorem u16_of_bytes (x : BitVec 16) : x.extractLsb' 8 8 ++ x.extractLsb' 0 8 = x := by
  rw [BitVec.extractLsb'_append_extractLsb'_eq_extractLsb' (show 8 = 0 + 8 from rfl)]
  exact BitVec.extractLsb'_eq_self

theorem u24_of_bytes (x : BitVec 24) : x.extractLsb' 16 8 ++ x.extractLsb' 8 8 ++ x.extractLsb' 0 8 = x := by
  rw [BitVec.extractLsb'_append_extractLsb'_eq_extractLsb' (show 16 = 8 + 8 from rfl),
    BitVec.extractLsb'_append_extractLsb'_eq_extractLsb' (show 8 = 0 + 8 from rfl)]
  exact BitVec.extractLsb'_eq_self

theorem u32_of_bytes (x : BitVec 32) :
    x.extractLsb' 24 8 ++ x.extractLsb' 16 8 ++ x.extractLsb' 8 8 ++ x.extractLsb' 0 8 = x := by
  rw [BitVec.extractLsb'_append_extractLsb'_eq_extractLsb' (show 24 = 16 + 8 from rfl),
    BitVec.extractLsb'_append_extractLsb'_eq_extractLsb' (show 16 = 8 + 8 from rfl),
    BitVec.extractLsb'_append_extractLsb'_eq_extractLsb' (show 8 = 0 + 8 from rfl)]
  exact BitVec.extractLsb'_eq_self

theorem inputFieldsAt_bytes (action input : BitVec 8) (f : InputFields) :
    inputFieldsAt (f8 action ++ f8 input ++ inputFieldBytes f) = f := by
  obtain ⟨gain, polarity, hold, high, low, dwell, substitute, value⟩ := f
  exact InputFields.mk.injEq .. |>.mpr ⟨u16_of_bytes gain, rfl, u16_of_bytes hold, u32_of_bytes high, u32_of_bytes low,
    u32_of_bytes dwell, rfl, u24_of_bytes value⟩

theorem drainFieldsAt_bytes (drain action : BitVec 8) (f : DrainFields) :
    drainFieldsAt (f8 drain ++ f8 action ++ drainFieldBytes f) = f := by
  obtain ⟨enable, wordSize, byteOrder, blockLength, holdTimeout⟩ := f
  exact DrainFields.mk.injEq .. |>.mpr ⟨rfl, rfl, rfl, u16_of_bytes blockLength, u16_of_bytes holdTimeout⟩

theorem captureFieldsAt_bytes (action : BitVec 8) (f : CaptureFields) :
    captureFieldsAt (f8 action ++ captureFieldBytes f) = f := by
  obtain ⟨preRoll, postRoll, maxLength, window, grace⟩ := f
  exact CaptureFields.mk.injEq .. |>.mpr ⟨u16_of_bytes preRoll, u16_of_bytes postRoll, u16_of_bytes maxLength,
    u16_of_bytes window, u16_of_bytes grace⟩

theorem stationsAt_bytes (action count : BitVec 8) (stations : Vector (BitVec 8) 8) :
    stationsAt (f8 action ++ f8 count ++ stations.toList) = stations := by
  ext i below
  have place : byteAt (f8 action ++ f8 count ++ stations.toList) (2 + i) = stations.toList.getD i 0 := by
    rw [Nat.add_comm]
    rfl
  rw [stationsAt, Vector.getElem_ofFn, place, List.getD_eq_getElem _ _ (by simpa using below), Vector.getElem_toList]

/-! ## A request command and its frame (R169, R183) -/

theorem ofWord_word (k : ReqKind) : ReqKind.ofWord k.word = some k := by cases k <;> rfl

theorem word_length (k : ReqKind) : k.word.length = 4 := by cases k <;> rfl

theorem ofWord_eq_none {kind : Text} (unknown : ∀ k : ReqKind, k.word ≠ kind) : ReqKind.ofWord kind = none :=
  List.find?_eq_none.2 fun k _ => by simpa using unknown k

section
variable {i : Instr} {kind : ReqKind} {tag : BitVec 8} {payload : List Byte}

/-- The payload of a request command's frame has its kind's length; a NOTE's, where a frame can carry it. -/
theorem fits_of_frame (framed : requestFrame i = some (kind, tag, payload)) (carried : i.wf = true) :
    ReqKind.fits kind payload.length = true := by
  cases i
  case nlinSet _ count stations =>
    cases framed
    exact decide_eq_true (show (stations.toList.length + 1) + 1 = 10 by rw [Vector.length_toList])
  case note =>
    cases framed
    exact carried
  all_goals (cases framed <;> rfl)

/-- A request command is the request that its frame's owner makes of the payload (log entry 15). -/
theorem exec_request (framed : requestFrame i = some (kind, tag, payload)) (s : State) :
    exec i s = .next (s.serve tag kind.word (ownerRequest kind payload)) := by
  have by_owner {k : ReqKind} {t : BitVec 8} {p : List Byte} {handle : State → Answer}
      (own : requestFrame i = some (k, t, p)) (run : exec i s = .next (s.serve t k.word handle))
      (owner : ownerRequest k p = handle) : exec i s = .next (s.serve tag kind.word (ownerRequest kind payload)) := by
    cases own.symm.trans framed
    rw [run, owner]
  cases i with
  | iden => exact by_owner rfl rfl rfl
  | stat => exact by_owner rfl rfl rfl
  | linkSet => exact by_owner rfl rfl rfl
  | linkRead => exact by_owner rfl rfl rfl
  | linkReadAndClear => exact by_owner rfl rfl rfl
  | rsetEngine => exact by_owner rfl rfl rfl
  | rsetConfig => exact by_owner rfl rfl rfl
  | inptSet _ input fields => exact by_owner rfl rfl (congrArg (reqInptSet input) (inputFieldsAt_bytes 0 input fields))
  | inptRead => exact by_owner rfl rfl rfl
  | mixg _ bus input gain => exact by_owner rfl rfl (congrArg (reqMixg bus input) (u16_of_bytes gain))
  | trakSource => exact by_owner rfl rfl rfl
  | trakLink => exact by_owner rfl rfl rfl
  | trakUnlink => exact by_owner rfl rfl rfl
  | trakRead => exact by_owner rfl rfl rfl
  | armt _ mask => exact by_owner rfl rfl (congrArg reqArmt (u24_of_bytes mask))
  | metrRead => exact by_owner rfl rfl rfl
  | metrPeriod _ period => exact by_owner rfl rfl (congrArg reqMetrPeriod (u16_of_bytes period))
  | tlmd _ rate mode tolerance => exact by_owner rfl rfl (congrArg (reqTlmd rate mode) (u16_of_bytes tolerance))
  | tcst => exact by_owner rfl rfl rfl
  | jams => exact by_owner rfl rfl rfl
  | tcqr => exact by_owner rfl rfl rfl
  | capsSet _ fields => exact by_owner rfl rfl (congrArg reqCapsSet (captureFieldsAt_bytes 0 fields))
  | capsRead => exact by_owner rfl rfl rfl
  | take _ id sectionNo => exact by_owner rfl rfl (congrArg (reqTake · sectionNo) (u16_of_bytes id))
  | roll => exact by_owner rfl rfl rfl
  | cut => exact by_owner rfl rfl rfl
  | markSet => exact by_owner rfl rfl rfl
  | markClear => exact by_owner rfl rfl rfl
  | markRead => exact by_owner rfl rfl rfl
  | trigSet _ line mode polarity filter =>
    exact by_owner rfl rfl (congrArg (reqTrigSet line mode polarity) (u16_of_bytes filter))
  | trigRead => exact by_owner rfl rfl rfl
  | dranSet _ drain fields => exact by_owner rfl rfl (congrArg (reqDranSet drain) (drainFieldsAt_bytes drain 0 fields))
  | dranRead => exact by_owner rfl rfl rfl
  | nlinSet _ count stations =>
    exact by_owner rfl rfl (congrArg (reqNlinSet count) (stationsAt_bytes 0 count stations))
  | nlinRead => exact by_owner rfl rfl rfl
  | nlinReadAndClear => exact by_owner rfl rfl rfl
  | note => exact by_owner rfl rfl rfl
  | slat => exact by_owner rfl rfl rfl
  | _ => cases framed

end

/-! ## What a frame asks for (R169) -/

theorem frameRequest_unknown {kind : Text} (unknown : ∀ k : ReqKind, k.word ≠ kind) (payload : Text) :
    frameRequest kind payload = reqBadKind := by
  rw [frameRequest, ofWord_eq_none unknown]

theorem frameRequest_word (k : ReqKind) (payload : Text) :
    frameRequest k.word payload = if ReqKind.fits k payload.length then ownerRequest k payload else reqBadLength := by
  rw [frameRequest, ofWord_word]

/-- A good frame, taken from HUNT, is served (R166, R167, R169). -/
theorem feedBytes_good {s : State} {kind : Text} (tag : BitVec 8) {payload : List Byte} (idle : s.link.rx = .hunt)
    (silent : s.link.silenceTimer = { count := 0, frac := 0 }) (word : kind.length = 4) (fits : payload.length ≤ 240) :
    feedBytes (frameBytes kind tag payload) s = .next (s.serve tag kind (frameRequest kind payload)) := by
  rw [frameBytes, feedBytes_frame tag _ _ idle word fits, frameComplete_good (u16_of_bytes _).symm, modLink_hunt idle silent]

theorem exec_badKind {s : State} {kind : Text} (tag : BitVec 8) (word : kind.length = 4)
    (unknown : ∀ k : ReqKind, k.word ≠ kind) : exec (.badKind tag kind) s = .next (s.serve tag kind reqBadKind) :=
  congrArg Host.Outcome.next (if_pos ⟨word, ofWord_eq_none unknown⟩)

theorem payload_le_of_fits {k : ReqKind} {n : Nat} (fits : ReqKind.fits k n = true) : n ≤ 240 := by
  cases k with
  | note => exact of_decide_eq_true fits
  | _ => exact Nat.le_trans (Nat.le_of_eq (of_decide_eq_true fits)) (by decide)

/-- Settles O16: the frame is served by the request of its kind and payload, which is the command's own. -/
theorem frameBytesDoWhatTheRequestDoes : Obligations.FrameBytesDoWhatTheRequestDoes := by
  unfold Obligations.FrameBytesDoWhatTheRequestDoes
  refine ⟨fun i kind tag payload s carried framed idle silent => ?request,
    fun kind tag payload s word unknown fits idle silent => ?unknown⟩
  case request =>
    have fits := fits_of_frame framed carried
    rw [feedBytes_good tag idle silent (word_length kind) (payload_le_of_fits fits), frameRequest_word, if_pos fits,
      exec_request framed]
  case unknown =>
    rw [feedBytes_good tag idle silent word fits, frameRequest_unknown unknown, exec_badKind tag word unknown]

/-! ## No request takes a reply away (R168, R170) -/

/-- The replies that wait stay, and a consecutive error count of 0 stays. -/
def RepliesKept (s t : State) : Prop :=
  t.link.replies = s.link.replies ∧ (s.link.consecutive = 0 → t.link.consecutive = 0)

theorem RepliesKept.of_confined {s t : State} (h : Confined s t) : RepliesKept s t := ⟨h.replies, h.consecutive.trans⟩

theorem RepliesKept.ite {s a b : State} {p : Prop} [Decidable p] (ha : RepliesKept s a) (hb : RepliesKept s b) :
    RepliesKept s (if p then a else b) := by
  split
  · exact ha
  · exact hb

/-- A request whose owner takes no reply away. -/
def KeepsReplies (handle : State → Answer) : Prop := ∀ u, RepliesKept u (handle u).state

theorem keepsReplies_refuse (k : Status) : KeepsReplies fun s => refuse s k := fun _ => ⟨rfl, id⟩

theorem keepsReplies_read (report : State → Result) : KeepsReplies fun s => okAnswer s (report s) := fun _ => ⟨rfl, id⟩

theorem keepsReplies_ite {p : State → Prop} [∀ s, Decidable (p s)] {f g : State → Answer} (hf : KeepsReplies f)
    (hg : KeepsReplies g) : KeepsReplies fun s => if p s then f s else g s := by
  intro u
  dsimp only
  split
  · exact hf u
  · exact hg u

/-! ### The interface, the inputs, the mix and the tracks -/

theorem keepsReplies_linkSet (limit : BitVec 8) : KeepsReplies (reqLinkSet limit) := by
  intro u
  unfold reqLinkSet
  split <;> exact ⟨rfl, id⟩

theorem keepsReplies_rsetConfig : KeepsReplies reqRsetConfig :=
  keepsReplies_ite (keepsReplies_refuse _) fun u => ⟨(confined_configDrains u).replies, fun _ => rfl⟩

theorem keepsReplies_inptSet (input : BitVec 8) (fields : InputFields) : KeepsReplies (reqInptSet input fields) := by
  refine keepsReplies_ite (keepsReplies_refuse _) fun u => ?_
  split <;> exact ⟨rfl, id⟩

theorem keepsReplies_inptRead (input : BitVec 8) : KeepsReplies (reqInptRead input) := by
  intro u
  unfold reqInptRead
  split <;> exact ⟨rfl, id⟩

theorem keepsReplies_mixg (bus input : BitVec 8) (gain : BitVec 16) : KeepsReplies (reqMixg bus input gain) := by
  intro u
  unfold reqMixg
  split
  · exact ⟨rfl, id⟩
  · split <;> exact ⟨rfl, id⟩

theorem keepsReplies_trakSource (track source : BitVec 8) : KeepsReplies (reqTrakSource track source) := by
  intro u
  unfold reqTrakSource
  repeat' split
  all_goals exact ⟨rfl, id⟩

theorem keepsReplies_trakLink (track : BitVec 8) : KeepsReplies (reqTrakLink track) := by
  intro u
  unfold reqTrakLink
  repeat' split
  all_goals exact ⟨rfl, id⟩

theorem keepsReplies_trakUnlink (track : BitVec 8) : KeepsReplies (reqTrakUnlink track) := by
  intro u
  unfold reqTrakUnlink
  repeat' split
  all_goals exact ⟨rfl, id⟩

theorem keepsReplies_trakRead (track : BitVec 8) : KeepsReplies (reqTrakRead track) := by
  intro u
  unfold reqTrakRead
  split <;> exact ⟨rfl, id⟩

/-! ### The timeline -/

theorem keepsReplies_tlmd (rate mode : BitVec 8) (tolerance : BitVec 16) : KeepsReplies (reqTlmd rate mode tolerance) := by
  have applied (v : State) (rate : Rate) (mode : TimeMode) : RepliesKept v (v.applyTlmd rate mode) :=
    .ite ⟨rfl, id⟩ (.ite (.ite ⟨rfl, id⟩ ⟨rfl, id⟩) ⟨rfl, id⟩)
  intro u
  unfold reqTlmd
  split
  · split
    · exact ⟨rfl, id⟩
    · exact applied ..
  · exact ⟨rfl, id⟩

theorem setTimecode_repliesKept (s : State) (c : Nat) : RepliesKept s (s.setTimecode c) := by
  have reported : Confined (s.setAnchor { pos := s.ring.p, count := c }) (s.setTimecode c) :=
    (confined_ite (Confined.refl _) (confined_report ..)).trans (confined_markHandoff ..)
  have kept := RepliesKept.of_confined reported
  exact kept

theorem keepsReplies_tcst (label : Label) : KeepsReplies (reqTcst label) :=
  keepsReplies_ite (keepsReplies_refuse _) (keepsReplies_ite (keepsReplies_refuse _) fun u => setTimecode_repliesKept u _)

theorem keepsReplies_jams : KeepsReplies reqJams :=
  keepsReplies_ite (keepsReplies_refuse _) fun _ => .ite ⟨rfl, id⟩ ⟨rfl, id⟩

/-! ### Takes, marks, triggers, drains and notes -/

theorem keepsReplies_capsSet (fields : CaptureFields) : KeepsReplies (reqCapsSet fields) := by
  intro u
  have kept := RepliesKept.of_confined (confined_takeLimitCut (u.modTakes fun t => { t with caps := capturesOf fields }))
  exact kept

theorem keepsReplies_take (id : BitVec 16) (sectionNo : BitVec 8) : KeepsReplies (reqTake id sectionNo) := by
  refine keepsReplies_ite (keepsReplies_refuse _) fun u => ?_
  split <;> exact ⟨rfl, fun zero => zero⟩

theorem keepsReplies_roll : KeepsReplies reqRoll := by
  intro u
  have rolled := RepliesKept.of_confined (confined_rollReq u .command u.ring.p)
  unfold reqRoll rollAnswer
  split <;> exact rolled

theorem keepsReplies_cut : KeepsReplies reqCut := by
  intro u
  have cut := RepliesKept.of_confined (confined_cutReq u .command u.ring.p none)
  unfold reqCut cutAnswer
  split <;> exact cut

theorem keepsReplies_markSet (mark : BitVec 8) (label : Label) : KeepsReplies (reqMarkSet mark label) := by
  intro u
  unfold reqMarkSet
  repeat' split
  all_goals exact ⟨rfl, id⟩

theorem keepsReplies_markClear (mark : BitVec 8) : KeepsReplies (reqMarkClear mark) := by
  intro u
  unfold reqMarkClear
  split
  · exact ⟨rfl, id⟩
  · exact .of_confined (confined_disarm ..)

theorem keepsReplies_markRead (mark : BitVec 8) : KeepsReplies (reqMarkRead mark) := by
  intro u
  unfold reqMarkRead
  split <;> exact ⟨rfl, id⟩

theorem keepsReplies_trigSet (line mode polarity : BitVec 8) (filter : BitVec 16) :
    KeepsReplies (reqTrigSet line mode polarity filter) := by
  intro u
  unfold reqTrigSet
  split <;> exact ⟨rfl, id⟩

theorem keepsReplies_trigRead (line : BitVec 8) : KeepsReplies (reqTrigRead line) := by
  intro u
  unfold reqTrigRead
  split <;> exact ⟨rfl, id⟩

theorem keepsReplies_dranSet (drain : BitVec 8) (fields : DrainFields) : KeepsReplies (reqDranSet drain fields) := by
  intro u
  unfold reqDranSet
  split
  · split
    · exact ⟨rfl, id⟩
    · exact .of_confined (confined_setDrain ..)
  · exact ⟨rfl, id⟩

theorem keepsReplies_dranRead (drain : BitVec 8) : KeepsReplies (reqDranRead drain) := by
  intro u
  unfold reqDranRead
  split <;> exact ⟨rfl, id⟩

theorem keepsReplies_nlinSet (count : BitVec 8) (stations : Vector (BitVec 8) 8) :
    KeepsReplies (reqNlinSet count stations) := keepsReplies_ite (keepsReplies_refuse _) fun _ => ⟨rfl, id⟩

theorem keepsReplies_note (text : Text) : KeepsReplies (reqNote text) :=
  keepsReplies_ite (keepsReplies_refuse _) fun u => .of_confined (confined_bindNote u _)

theorem keepsReplies_slat (sectionNo : BitVec 8) : KeepsReplies (reqSlat sectionNo) :=
  keepsReplies_ite (keepsReplies_refuse _) (keepsReplies_read _)

/-! ### Requests by their kind and payload (R169) -/

theorem keepsReplies_either {p : Prop} [Decidable p] {f g : State → Answer} (hf : KeepsReplies f) (hg : KeepsReplies g) :
    KeepsReplies (if p then f else g) := by
  split
  · exact hf
  · exact hg

theorem keepsReplies_setOrRead {set read : State → Answer} (action : BitVec 8) (hs : KeepsReplies set)
    (hr : KeepsReplies read) : KeepsReplies (setOrRead action set read) :=
  keepsReplies_either hs (keepsReplies_either hr (keepsReplies_refuse _))

theorem keepsReplies_byThree {first second third : State → Answer} (action : BitVec 8) (h1 : KeepsReplies first)
    (h2 : KeepsReplies second) (h3 : KeepsReplies third) : KeepsReplies (byThree action first second third) :=
  keepsReplies_either h1 (keepsReplies_either h2 (keepsReplies_either h3 (keepsReplies_refuse _)))

theorem keepsReplies_trakAction (p : Text) : KeepsReplies (trakAction p) :=
  keepsReplies_either (keepsReplies_trakSource _ _) (keepsReplies_either (keepsReplies_trakLink _)
    (keepsReplies_either (keepsReplies_trakUnlink _) (keepsReplies_either (keepsReplies_trakRead _)
      (keepsReplies_refuse _))))

/-- No owner takes a reply away. -/
theorem keepsReplies_ownerRequest (kind : ReqKind) (p : Text) : KeepsReplies (ownerRequest kind p) := by
  cases kind with
  | iden => exact keepsReplies_read _
  | stat => exact fun _ => ⟨rfl, id⟩
  | link => exact keepsReplies_byThree _ (keepsReplies_linkSet _) (keepsReplies_read _) fun _ => ⟨rfl, id⟩
  | rset => exact keepsReplies_setOrRead _ (fun _ => ⟨rfl, fun _ => rfl⟩) keepsReplies_rsetConfig
  | inpt => exact keepsReplies_setOrRead _ (keepsReplies_inptSet _ _) (keepsReplies_inptRead _)
  | mixg => exact keepsReplies_mixg _ _ _
  | trak => exact keepsReplies_trakAction p
  | armt => exact fun _ => ⟨rfl, id⟩
  | metr => exact keepsReplies_setOrRead _ (fun _ => ⟨rfl, id⟩) fun _ => ⟨rfl, id⟩
  | tlmd => exact keepsReplies_tlmd _ _ _
  | tcst => exact keepsReplies_tcst _
  | jams => exact keepsReplies_jams
  | tcqr => exact keepsReplies_read _
  | caps => exact keepsReplies_setOrRead _ (keepsReplies_capsSet _) (keepsReplies_read _)
  | take => exact keepsReplies_take _ _
  | roll => exact keepsReplies_roll
  | cut => exact keepsReplies_cut
  | mark =>
    exact keepsReplies_byThree _ (keepsReplies_markSet _ _) (keepsReplies_markClear _) (keepsReplies_markRead _)
  | trig => exact keepsReplies_setOrRead _ (keepsReplies_trigSet _ _ _ _) (keepsReplies_trigRead _)
  | dran => exact keepsReplies_setOrRead _ (keepsReplies_dranSet _ _) (keepsReplies_dranRead _)
  | nlin => exact keepsReplies_byThree _ (keepsReplies_nlinSet _ _) (keepsReplies_read _) fun _ => ⟨rfl, id⟩
  | note => exact keepsReplies_note p
  | slat => exact keepsReplies_slat _

/-! ## Answered or discarded (R169) -/

/-- A request that finds room leaves the consecutive error count at 0 and one reply more (R168, R170). -/
theorem serve_answers {handle : State → Answer} (keeps : KeepsReplies handle) {s : State} (tag : BitVec 8) (kind : Text)
    (room : HasRoom s) : (s.serve tag kind handle).link.consecutive = 0
      ∧ ∃ (status : Status) (result : Result), (s.serve tag kind handle).link.replies =
        s.link.replies ++ [{ tag := tag, kind := kind, status := status, result := result }] := by
  obtain ⟨replies, consecutive⟩ := keeps (s.modLink Link.goodFrame)
  rw [serve_room _ _ _ room]
  exact ⟨consecutive rfl, _, _, congrArg (· ++ _) replies⟩

/-- The payload lengths of the kinds that have one length (R183). -/
def payloadSizes : List (ReqKind × Nat) :=
  [(.iden, 0), (.stat, 0), (.link, 2), (.rset, 1), (.inpt, 23), (.mixg, 4), (.trak, 3), (.armt, 3), (.metr, 3), (.tlmd, 4),
    (.tcst, 4), (.jams, 0), (.tcqr, 0), (.caps, 11), (.take, 3), (.roll, 0), (.cut, 0), (.mark, 6), (.trig, 6), (.dran, 9),
    (.nlin, 10), (.slat, 1)]

theorem fits_eq_of_mem {kind : ReqKind} {size : Nat} (sized : (kind, size) ∈ payloadSizes) (n : Nat) :
    ReqKind.fits kind n = decide (n = size) := by
  have all : ∀ x ∈ payloadSizes, ReqKind.fits x.1 n = decide (n = x.2) := by simp [payloadSizes, ReqKind.fits]
  exact all _ sized

/-- Settles O15: a request is served, and so answered by its owner or discarded; a frame is served by what it asks for. -/
theorem requestsAreAnsweredOnceOrDiscarded : Obligations.RequestsAreAnsweredOnceOrDiscarded := by
  unfold Obligations.RequestsAreAnsweredOnceOrDiscarded
  refine ⟨fun i kind tag payload s room framed => ?answered, fun i kind tag payload s full framed => ?discarded,
    fun s tag kind room word unknown => ?badKind,
    fun s tag kind payload size room idle silent sized fits other => ?badLength,
    fun s tag kind payload full idle silent word fits => ?overrun⟩
  case answered =>
    exact ⟨_, exec_request framed s, serve_answers (keepsReplies_ownerRequest kind payload) tag kind.word room⟩
  case discarded => rw [exec_request framed, serve_full _ _ _ full]
  case badKind =>
    rw [exec_badKind tag word unknown, serve_room _ _ _ room]
    rfl
  case badLength =>
    have unfit : ¬ReqKind.fits kind payload.length = true := by
      rw [fits_eq_of_mem sized]
      exact mt of_decide_eq_true other
    rw [feedBytes_good tag idle silent (word_length kind) fits, frameRequest_word, if_neg unfit, serve_room _ _ _ room]
    exact congrArg Host.Outcome.next (refuse_place s tag kind .badLength)
  case overrun => rw [feedBytes_good tag idle silent word fits, serve_full _ _ _ full]

end Sys2Proof.Machine
end

section
/-! SUPPORT. What the interface reports and clears (R174 to R178), what the transmitter picks (R172), and the step and the reset
pin as a whole (R182). -/

namespace Sys2Proof.Machine

/-! ## STAT and LINK (R174 to R178) -/

/-- The highest set condition, in the order of R174. -/
theorem highest_eq (c : Conds) : c.highest = if c.linkFault = true then some .linkFault
    else if c.deliveryGap = true then some .deliveryGap
    else if c.audioLost = true then some .audioLost
    else if c.referenceLost = true then some .referenceLost
    else if c.noticesLost = true then some .noticesLost
    else if c.drainStalled = true then some .drainStalled else none := by
  simp only [Conds.highest, Condition.all, List.find?_cons, List.find?_nil, Conds.get]
  repeat' split
  all_goals simp_all

theorem errorLimitOf_code (code : Fin 4) : errorLimitOf (BitVec.ofNat 8 code.val) = some (2 ^ code.val) := by
  revert code
  decide

theorem reqLinkSet_of_code (code : Fin 4) (s : State) : reqLinkSet (BitVec.ofNat 8 code.val) s =
    okAnswer (s.modLink fun l => { l with errorLimit := 2 ^ code.val })
      (s.modLink fun l => { l with errorLimit := 2 ^ code.val }).linkResult := by
  rw [reqLinkSet, errorLimitOf_code]

/-- Settles O19: each reply reports the counted link before, or for LINK set after, what its request changes. -/
theorem statusAndLinkRequestsReportThenClear : Obligations.StatusAndLinkRequestsReportThenClear := by
  unfold Obligations.StatusAndLinkRequestsReportThenClear
  refine ⟨fun s tag room => ?stat, fun s tag room => ⟨fun code limit power => ?set, ?readAndClear⟩⟩
  case stat =>
    refine ⟨s.statReport, congrArg Host.Outcome.next (serve_room tag ReqKind.stat.word reqStat room), rfl, rfl, rfl, rfl, rfl,
      rfl, rfl, rfl, rfl, fun d => ?drain, highest_eq s.link.conds⟩
    cases d <;> rfl
  case set =>
    subst power
    refine congrArg Host.Outcome.next ((serve_room tag ReqKind.link.word _ room).trans ?_)
    rw [reqLinkSet_of_code]
    rfl
  case readAndClear => exact congrArg Host.Outcome.next (serve_room tag ReqKind.link.word reqLinkReadAndClear room)

/-! ## The transmitter (R172) -/

section
variable {l : Link}

theorem transmit_sending {f : TxFrame} (going : l.tx = some f) (more : l.txTimer.count < f.bytes.length) :
    l.transmit = l := by
  have sending : l.sending = true := by
    rw [Link.sending, going]
    exact decide_eq_true more
  exact if_pos sending

theorem transmit_free (free : ∀ f, l.tx = some f → f.bytes.length ≤ l.txTimer.count) : l.transmit = l.pick := by
  have sent : l.sending = false := by
    cases going : l.tx with
    | none => rw [Link.sending, going]
    | some f =>
      rw [Link.sending, going]
      exact decide_eq_false (Nat.not_lt.2 (free f going))
  exact if_neg (by rw [sent]; exact Bool.false_ne_true)

theorem pick_reply {r : Reply} {rest : List Reply} (waiting : l.replies = r :: rest) : l.pick =
    { l with replies := rest, tx := some (startFrame (.reply r)), txTimer := Timer.zero } := by
  rw [Link.pick, waiting]

theorem pick_notice {n : QueuedNotice} {rest : List QueuedNotice} (answered : l.replies = [])
    (waiting : l.notices = n :: rest) : l.pick =
    { l with notices := rest, tx := some (startFrame (.notice n)), txTimer := Timer.zero } := by
  rw [Link.pick, answered, waiting]

theorem pick_nothing (answered : l.replies = []) (told : l.notices = []) :
    l.pick = { l with tx := none, txTimer := Timer.zero } := by
  rw [Link.pick, answered, told]

end

/-- Settles O56: the transmitter by whether a frame is going out and by what waits, and a notice by the room for it. -/
theorem repliesGoFirstAndNoticesQueueInOrder : Obligations.RepliesGoFirstAndNoticesQueueInOrder := by
  unfold Obligations.RepliesGoFirstAndNoticesQueueInOrder
  refine ⟨fun s => ⟨fun f going more => ?sending, fun free => ⟨s.modLink Link.transmit, rfl, rfl, ?free⟩⟩,
    fun s n => ⟨notify_room n, fun full => notify_full n (by omega)⟩, fun s on full => ?report⟩
  case sending => exact congrArg (fun l => Host.Outcome.next { s with link := l }) (transmit_sending going more)
  case free =>
    rw [State.modLink_link, transmit_free free]
    refine ⟨fun r rest waiting => pick_reply waiting, fun n rest answered waiting => pick_notice answered waiting,
      fun answered told => ?_⟩
    rw [pick_nothing answered told]
    exact ⟨rfl, answered, told⟩
  case report =>
    refine ⟨s.reportLevels, rfl, ?_⟩
    rw [reportLevels_on s on, notify_full _ (by omega)]
    exact ⟨rfl, rfl⟩

/-! ## The reset pin (R182) and the step -/

/-- Settles O4: the reset pin's state is written block by block as the statement writes it, so the two agree by computing. -/
theorem powerOnResetRestoresReset : Obligations.PowerOnResetRestoresReset := by
  unfold Obligations.PowerOnResetRestoresReset
  exact fun s => congrArg Host.Outcome.next (show s.powerOn = _ from rfl)

/-- Every command is an operation that gives a state. -/
theorem exec_answers (i : Instr) (s : State) : ∃ t, exec i s = .next t := by
  cases i <;> exact ⟨_, rfl⟩

/-- Settles O58: the step is a command, the front one or the one that is due, or one tick of the module timer. -/
theorem everyStepAnswersANextState : Obligations.EveryStepAnswersANextState := by
  unfold Obligations.EveryStepAnswersANextState
  intro s
  cases waiting : s.pending with
  | cons c rest =>
    rw [step, waiting]
    exact exec_answers c _
  | nil =>
    rw [step, waiting]
    show ∃ t, idleStep s = .next t
    cases due : s.dueCommand with
    | some c =>
      rw [idleStep, due]
      exact exec_answers c s
    | none =>
      rw [idleStep, due]
      exact ⟨_, rfl⟩

end Sys2Proof.Machine
end

section
/-! SUPPORT. The step with a command waiting; `step_tick` is the step with nothing waiting and nothing due. -/

namespace Sys2Proof.Machine

/-- The step chooses by the queue alone: a waiting command is run, whatever internal step is due. -/
theorem step_command {s : State} {c : Instr} {rest : List Instr} (waiting : s.pending = c :: rest) :
    step s = exec c (s.withPending rest) := by
  rw [step, waiting]

/-- Settles O1: the front of the queue is the command that is run, and the second write of the queue replaces the first. -/
theorem stepTakesTheFrontCommand : Obligations.StepTakesTheFrontCommand := by
  unfold Obligations.StepTakesTheFrontCommand
  intro c rest s
  calc step (s.withPending (c :: rest))
      _ = exec c ((s.withPending (c :: rest)).withPending rest) := step_command (s.withPending_pending (c :: rest))
      _ = exec c (s.withPending rest) := rfl

end Sys2Proof.Machine
end

section
/-! SUPPORT. The requests that read or refuse: each command is one request served, so what its owner answers is what is
replied (R168 to R171). -/

namespace Sys2Proof.Machine

/-! ## Power-on values -/

/-- Settles O3: every block of the reset state is a literal, or a vector of one value or of one function. -/
theorem resetHoldsThePowerOnValues : Obligations.ResetHoldsThePowerOnValues := by
  unfold Obligations.ResetHoldsThePowerOnValues
  have channels (k : Fin 16) : State.reset.inputs.channels[k] = Channel.initial := Vector.getElem_replicate k.isLt
  have gains (k : Fin 16) : MixBus.initial.gains[k] = 0 := Vector.getElem_replicate k.isLt
  have sources (t : Fin 24) : State.reset.router.sources[t] = if t.val < 18 then t.val + 1 else 0 :=
    Vector.getElem_ofFn t.isLt
  have names (t : Fin 24) : State.reset.binding.names[t] = none := Vector.getElem_replicate t.isLt
  refine ⟨rfl, rfl, rfl, rfl, rfl, rfl, rfl, rfl, rfl, rfl, rfl, channels, fun k => ⟨gains k, gains k⟩, fun b => ?bus,
    sources, rfl, rfl, fun n => ?line, rfl, fun d => ?drain, rfl, rfl, rfl, rfl, rfl, rfl, rfl, rfl, names, rfl, rfl, rfl,
    rfl, rfl, rfl, rfl, rfl, rfl, rfl, rfl, rfl, rfl, rfl, rfl⟩
  case bus => cases b <;> exact ⟨rfl, rfl, rfl⟩
  case line => cases n <;> rfl
  case drain => cases d <;> exact ⟨rfl, rfl, rfl, rfl, rfl, rfl, rfl, rfl⟩

/-! ## Requests that change nothing but the reply -/

section
variable {s : State} {tag : BitVec 8} {k : ReqKind} {handle : State → Answer}

/-- A request whose owner reads is answered OK, and changes nothing but the reply. -/
theorem served_read (room : HasRoom s) {r : Result}
    (answer : handle (s.modLink Link.goodFrame) = okAnswer (s.modLink Link.goodFrame) r) :
    Host.Outcome.next (φ := Fault) (ρ := Refusal) (s.serve tag k.word handle) = .next (replied s tag k .ok r) := by
  rw [serve_room _ _ _ room, answer, read_place]

/-- A request that its owner refuses changes nothing but the reply. -/
theorem served_refusal (room : HasRoom s) {x : Status}
    (answer : handle (s.modLink Link.goodFrame) = refuse (s.modLink Link.goodFrame) x) :
    Host.Outcome.next (φ := Fault) (ρ := Refusal) (s.serve tag k.word handle) = .next (replied s tag k x .none) := by
  rw [serve_room _ _ _ room, answer, refuse_place]

end

/-! ## The requests that read (R33, R48, R53, R68, R93, R99, R108, R113, R137, R163, R177, R178) -/

section
variable (s : State)

theorem reqInptRead_of (k : Fin 16) :
    reqInptRead (BitVec.ofNat 8 (k.val + 1)) s = okAnswer s (.inptRead s.inputs.channels[k]) := by
  have named : inputIndex (BitVec.ofNat 8 (k.val + 1)) = some k :=
    inputIndex_eq_some.2 (by rw [BitVec.toNat_ofNat]; omega)
  rw [reqInptRead, named]

theorem reqTrakRead_of (t : Fin 24) :
    reqTrakRead (BitVec.ofNat 8 (t.val + 1)) s = okAnswer s s.router.trakResult := by
  rw [reqTrakRead, trackIndex_ofNat]

/-- A MARK read reports both marks, whichever it names (R99). -/
theorem reqMarkRead_of {n : BitVec 8} (code : n = 0 ∨ n = 1) : reqMarkRead n s = okAnswer s s.markResult := by
  rcases code with rfl | rfl <;> rfl

theorem reqSlat_of {n : BitVec 8} {x : SlatSection} (named : n.toNat ≤ 3) (part : s.slatSection n.toNat = x) :
    reqSlat n s = okAnswer s (.slat s.ring.p x) := by
  rw [reqSlat, if_neg (Nat.not_lt.2 named), part]

theorem reqTake_of {id : BitVec 16} {n : BitVec 8} {r : TakeRecord} {x : TakeSection} (named : n.toNat ≤ 6)
    (found : s.record? id.toNat = some r) (part : r.sectionOf n.toNat = x) :
    reqTake id n s = okAnswer s (.take id.toNat r.state s.ring.p x) := by
  rw [reqTake, if_neg (Nat.not_lt.2 named), found, ← part, ← record?_id found]

end

/-- Settles O17: each request that reads is served, and its owner answers with the state as it stands. -/
theorem readRequestsReportAndChangeNothing : Obligations.ReadRequestsReportAndChangeNothing := by
  unfold Obligations.ReadRequestsReportAndChangeNothing
  intro s tag room
  refine ⟨served_read room rfl, served_read room rfl, served_read room rfl, served_read room rfl, served_read room rfl,
    fun k => served_read room (reqInptRead_of _ k), fun t => served_read room (reqTrakRead_of _ t), served_read room rfl,
    served_read room rfl, served_read room rfl, served_read room rfl, fun n report code reports => ?mark,
    fun n x named => ?slat, fun id n r x found named => ?take⟩
  case mark =>
    have both : s.markResult = .mark (report .start) (report .stop) := by
      rw [State.markResult, reports .start, reports .stop]
      rfl
    exact both ▸ served_read room (reqMarkRead_of _ code)
  case slat =>
    have part : n.toNat ≤ 3 ∧ s.slatSection n.toNat = x := by
      simp only [List.mem_cons, Prod.mk.injEq, List.not_mem_nil, or_false] at named
      rcases named with ⟨rfl, rfl⟩ | ⟨rfl, rfl⟩ | ⟨rfl, rfl⟩ | ⟨rfl, rfl⟩ <;> exact ⟨by decide, rfl⟩
    exact served_read room (reqSlat_of _ part.1 part.2)
  case take =>
    have part : n.toNat ≤ 6 ∧ r.sectionOf n.toNat = x := by
      simp only [List.mem_cons, Prod.mk.injEq, List.not_mem_nil, or_false] at named
      rcases named with ⟨rfl, rfl⟩ | ⟨rfl, rfl⟩ | ⟨rfl, rfl⟩ | ⟨rfl, rfl⟩ | ⟨rfl, rfl⟩ | ⟨rfl, rfl⟩ | ⟨rfl, rfl⟩ <;>
        exact ⟨by decide, rfl⟩
    exact served_read room (reqTake_of _ part.1 found part.2)

/-! ## Names outside their set (R29, R48, R50, R53, R93, R99, R108, R113, R137, R163, R171, R178) -/

section
variable {n : BitVec 8}

theorem inputIndex_out (out : n = 0 ∨ 16 < n.toNat) : inputIndex n = none := by
  refine dif_neg fun inside => ?_
  rcases out with rfl | above
  · exact absurd inside.1 (by decide)
  · omega

theorem trackIndex_out (out : n = 0 ∨ 24 < n.toNat) : trackIndex n = none := by
  refine dif_neg fun inside => ?_
  rcases out with rfl | above
  · exact absurd inside.1 (by decide)
  · omega

/-- A number above `top` is none of the codes 0 to `top`. -/
theorem ne_code_of_lt {top : Nat} (above : top < n.toNat) (code : BitVec 8) (low : code.toNat ≤ top := by decide) :
    n ≠ code := by
  rintro rfl
  omega

theorem flagOf_out (above : 1 < n.toNat) : flagOf n = none := by
  rw [flagOf, if_neg (ne_code_of_lt above 0), if_neg (ne_code_of_lt above 1)]

theorem drainOf_out (above : 1 < n.toNat) : drainOf n = none := by
  rw [drainOf, if_neg (ne_code_of_lt above 0), if_neg (ne_code_of_lt above 1)]

theorem markOf_out (above : 1 < n.toNat) : markOf n = none := by
  rw [markOf, if_neg (ne_code_of_lt above 0), if_neg (ne_code_of_lt above 1)]

theorem timeModeOf_out (above : 2 < n.toNat) : timeModeOf n = none := by
  rw [timeModeOf, if_neg (ne_code_of_lt above 0), if_neg (ne_code_of_lt above 1), if_neg (ne_code_of_lt above 2)]

theorem trigModeOf_out (above : 3 < n.toNat) : trigModeOf n = none := by
  rw [trigModeOf, if_neg (ne_code_of_lt above 0), if_neg (ne_code_of_lt above 1), if_neg (ne_code_of_lt above 2),
    if_neg (ne_code_of_lt above 3)]

theorem errorLimitOf_out (above : 3 < n.toNat) : errorLimitOf n = none := by
  rw [errorLimitOf, if_neg (ne_code_of_lt above 0), if_neg (ne_code_of_lt above 1), if_neg (ne_code_of_lt above 2),
    if_neg (ne_code_of_lt above 3)]

theorem rateOf_out (above : 5 < n.toNat) : rateOf n = none := by
  rw [rateOf, if_neg (ne_code_of_lt above 0), if_neg (ne_code_of_lt above 1), if_neg (ne_code_of_lt above 2),
    if_neg (ne_code_of_lt above 3), if_neg (ne_code_of_lt above 4), if_neg (ne_code_of_lt above 5)]

theorem lineOf_out (other : n ≠ 1 ∧ n ≠ 2) : lineOf n = none := by rw [lineOf, if_neg other.1, if_neg other.2]

theorem busOf_out (other : n ≠ 17 ∧ n ≠ 18) : busOf n = none := by rw [busOf, if_neg other.1, if_neg other.2]

theorem wordSizeOf_out (other : n ≠ 16 ∧ n ≠ 24) : wordSizeOf n = none := by
  rw [wordSizeOf, if_neg other.1, if_neg other.2]

end

theorem channelSettingsOf_out {f : InputFields} (out : 1 < f.polarity.toNat ∨ 1 < f.substitute.toNat) :
    channelSettingsOf f = none := by
  unfold channelSettingsOf
  rcases out with polarity | substitute
  · rw [flagOf_out polarity]
  · rw [flagOf_out substitute]
    cases flagOf f.polarity <;> rfl

theorem drainSettingsOf_out {f : DrainFields} (out : 1 < f.enable.toNat ∨ (f.wordSize ≠ 16 ∧ f.wordSize ≠ 24)
    ∨ 1 < f.byteOrder.toNat) : drainSettingsOf f = none := by
  unfold drainSettingsOf
  rcases out with enable | size | order
  · rw [flagOf_out enable]
  · rw [wordSizeOf_out size]
    cases flagOf f.enable <;> rfl
  · rw [flagOf_out order]
    cases flagOf f.enable <;> cases wordSizeOf f.wordSize <;> rfl

section
variable (s : State) {n m p : BitVec 8}

theorem reqInptRead_out (out : n = 0 ∨ 16 < n.toNat) : reqInptRead n s = refuse s .range := by
  rw [reqInptRead, inputIndex_out out]

theorem reqInptSet_out {f : InputFields} (out : 16 < n.toNat ∨ 1 < f.polarity.toNat ∨ 1 < f.substitute.toNat) :
    reqInptSet n f s = refuse s .range := by
  unfold reqInptSet
  rcases out with above | code
  · exact if_pos above
  · rw [channelSettingsOf_out code]
    exact ite_self _

theorem reqMixg_out {g : BitVec 16} (out : (m ≠ 17 ∧ m ≠ 18) ∨ 16 < n.toNat) : reqMixg m n g s = refuse s .range := by
  unfold reqMixg
  rcases out with bus | above
  · rw [busOf_out bus]
  · cases busOf m with
    | none => rfl
    | some b => exact if_pos above

theorem reqTrakSource_out (out : n = 0 ∨ 24 < n.toNat ∨ 18 < m.toNat) : reqTrakSource n m s = refuse s .range := by
  unfold reqTrakSource
  rcases out with zero | above | source
  · rw [trackIndex_out (.inl zero)]
  · rw [trackIndex_out (.inr above)]
  · cases trackIndex n with
    | none => rfl
    | some t => exact if_pos source

theorem reqTrakLink_out (out : n = 0 ∨ 24 < n.toNat) : reqTrakLink n s = refuse s .range := by
  rw [reqTrakLink, trackIndex_out out]

theorem reqTrakUnlink_out (out : n = 0 ∨ 24 < n.toNat) : reqTrakUnlink n s = refuse s .range := by
  rw [reqTrakUnlink, trackIndex_out out]

theorem reqTrakRead_out (out : n = 0 ∨ 24 < n.toNat) : reqTrakRead n s = refuse s .range := by
  rw [reqTrakRead, trackIndex_out out]

theorem reqTake_range {id : BitVec 16} (above : 6 < n.toNat) : reqTake id n s = refuse s .range := if_pos above

theorem reqTake_gone {id : BitVec 16} (named : n.toNat ≤ 6) (gone : s.record? id.toNat = none) :
    reqTake id n s = refuse s .noTake := by
  rw [reqTake, if_neg (Nat.not_lt.2 named), gone]

theorem reqMarkSet_out {l : Label} (above : 1 < n.toNat) : reqMarkSet n l s = refuse s .range := by
  rw [reqMarkSet, markOf_out above]

theorem reqMarkClear_out (above : 1 < n.toNat) : reqMarkClear n s = refuse s .range := by
  rw [reqMarkClear, markOf_out above]

theorem reqMarkRead_out (above : 1 < n.toNat) : reqMarkRead n s = refuse s .range := by
  rw [reqMarkRead, markOf_out above]

theorem reqTrigSet_out {f : BitVec 16} (out : (n ≠ 1 ∧ n ≠ 2) ∨ 3 < m.toNat ∨ 1 < p.toNat) :
    reqTrigSet n m p f s = refuse s .range := by
  unfold reqTrigSet
  rcases out with line | mode | polarity
  · rw [lineOf_out line]
  · rw [trigModeOf_out mode]
    cases lineOf n <;> rfl
  · rw [flagOf_out polarity]
    cases lineOf n <;> cases trigModeOf m <;> rfl

theorem reqTrigRead_out (other : n ≠ 1 ∧ n ≠ 2) : reqTrigRead n s = refuse s .range := by
  rw [reqTrigRead, lineOf_out other]

theorem reqTlmd_out {tol : BitVec 16} (out : 5 < n.toNat ∨ 2 < m.toNat) : reqTlmd n m tol s = refuse s .range := by
  unfold reqTlmd
  rcases out with rate | mode
  · rw [rateOf_out rate]
  · rw [timeModeOf_out mode]
    cases rateOf n <;> rfl

theorem reqDranSet_out {f : DrainFields} (out : 1 < n.toNat ∨ 1 < f.enable.toNat ∨ (f.wordSize ≠ 16 ∧ f.wordSize ≠ 24)
    ∨ 1 < f.byteOrder.toNat) : reqDranSet n f s = refuse s .range := by
  unfold reqDranSet
  rcases out with drain | code
  · rw [drainOf_out drain]
  · rw [drainSettingsOf_out code]
    cases drainOf n <;> rfl

theorem reqDranRead_out (above : 1 < n.toNat) : reqDranRead n s = refuse s .range := by
  rw [reqDranRead, drainOf_out above]

theorem reqNlinSet_many {v : Vector (BitVec 8) 8} (above : 8 < n.toNat) : reqNlinSet n v s = refuse s .range :=
  if_pos (.inl above)

theorem reqSlat_out (above : 3 < n.toNat) : reqSlat n s = refuse s .range := if_pos above

theorem reqLinkSet_out (above : 3 < n.toNat) : reqLinkSet n s = refuse s .range := by
  rw [reqLinkSet, errorLimitOf_out above]

end

/-! ## Action and scope codes outside their set -/

section
variable {code : BitVec 8}

theorem setOrRead_out (above : 1 < code.toNat) (set read : State → Answer) : setOrRead code set read = reqRange := by
  rw [setOrRead, if_neg (ne_code_of_lt above 0), if_neg (ne_code_of_lt above 1)]

theorem byThree_out (above : 2 < code.toNat) (first second third : State → Answer) :
    byThree code first second third = reqRange := by
  rw [byThree, if_neg (ne_code_of_lt above 0), if_neg (ne_code_of_lt above 1), if_neg (ne_code_of_lt above 2)]

theorem trakAction_out {p : Text} (above : 3 < (byteAt p 1).toNat) : trakAction p = reqRange := by
  rw [trakAction, if_neg (ne_code_of_lt above 0), if_neg (ne_code_of_lt above 1), if_neg (ne_code_of_lt above 2),
    if_neg (ne_code_of_lt above 3)]

end

/-- The kinds with an action or a scope code: the length of their payload, where the code stands, and the last code. -/
def codedKinds : List (ReqKind × Nat × Nat × Nat) :=
  [(.link, 2, 0, 2), (.rset, 1, 0, 1), (.inpt, 23, 0, 1), (.trak, 3, 1, 3), (.metr, 3, 0, 1), (.caps, 11, 0, 1),
    (.mark, 6, 1, 2), (.trig, 6, 1, 1), (.dran, 9, 1, 1), (.nlin, 10, 0, 2)]

/-- An owner refuses an action or a scope code outside its set, whatever else the payload carries. -/
theorem ownerRequest_out {kind : ReqKind} {size place top : Nat} (coded : (kind, size, place, top) ∈ codedKinds)
    {payload : Text} (above : top < (byteAt payload place).toNat) : ownerRequest kind payload = reqRange := by
  simp only [codedKinds, List.mem_cons, Prod.mk.injEq, List.not_mem_nil, or_false] at coded
  rcases coded with ⟨rfl, -, rfl, rfl⟩ | ⟨rfl, -, rfl, rfl⟩ | ⟨rfl, -, rfl, rfl⟩ | ⟨rfl, -, rfl, rfl⟩ | ⟨rfl, -, rfl, rfl⟩
    | ⟨rfl, -, rfl, rfl⟩ | ⟨rfl, -, rfl, rfl⟩ | ⟨rfl, -, rfl, rfl⟩ | ⟨rfl, -, rfl, rfl⟩ | ⟨rfl, -, rfl, rfl⟩
  case inr.inr.inr.inl => exact trakAction_out above
  case inl => exact byThree_out above _ _ _
  case inr.inr.inr.inr.inr.inr.inl => exact byThree_out above _ _ _
  case inr.inr.inr.inr.inr.inr.inr.inr.inr => exact byThree_out above _ _ _
  all_goals exact setOrRead_out above _ _

theorem coded_sized {kind : ReqKind} {size place top : Nat} (coded : (kind, size, place, top) ∈ codedKinds) :
    (kind, size) ∈ payloadSizes ∧ size ≤ 240 := by
  have all : ∀ x ∈ codedKinds, (x.1, x.2.1) ∈ payloadSizes ∧ x.2.1 ≤ 240 := by decide
  exact all _ coded

/-- Settles O18: each owner looks its names up before anything else, and a name or a code outside its set is not found. -/
theorem namesOutsideTheirSetAreRefused : Obligations.NamesOutsideTheirSetAreRefused := by
  unfold Obligations.NamesOutsideTheirSetAreRefused
  intro s tag room
  refine ⟨fun n out => served_refusal room (reqInptRead_out _ out), fun n f out => served_refusal room (reqInptSet_out _ out),
    fun b n g out => served_refusal room (reqMixg_out _ out),
    fun n src out => served_refusal room (reqTrakSource_out _ out),
    fun n out => ⟨served_refusal room (reqTrakLink_out _ out), served_refusal room (reqTrakUnlink_out _ out),
      served_refusal room (reqTrakRead_out _ out)⟩,
    fun id n above => served_refusal room (reqTake_range _ above),
    fun id n named gone => served_refusal room (reqTake_gone _ named gone),
    fun m l above => ⟨served_refusal room (reqMarkSet_out _ above), served_refusal room (reqMarkClear_out _ above),
      served_refusal room (reqMarkRead_out _ above)⟩,
    fun n m p f out => served_refusal room (reqTrigSet_out _ out),
    fun n other => served_refusal room (reqTrigRead_out _ other),
    fun rc mc tol out => served_refusal room (reqTlmd_out _ out),
    fun n f out => served_refusal room (reqDranSet_out _ out), fun n above => served_refusal room (reqDranRead_out _ above),
    fun n v above => served_refusal room (reqNlinSet_many _ above), fun n above => served_refusal room (reqSlat_out _ above),
    fun n above => served_refusal room (reqLinkSet_out _ above),
    fun kind size place top payload code coded sized stands above idle silent => ?coded⟩
  case coded =>
    obtain ⟨known, short⟩ := coded_sized coded
    have here : byteAt payload place = code := by rw [byteAt, List.getD_eq_getElem?_getD, stands, Option.getD_some]
    have fits : ReqKind.fits kind payload.length = true := by
      rw [fits_eq_of_mem known]
      exact decide_eq_true sized
    rw [feedBytes_good tag idle silent (word_length kind) (sized ▸ short), frameRequest_word, if_pos fits,
      ownerRequest_out coded (here.symm ▸ above)]
    exact served_refusal room rfl

end Sys2Proof.Machine
end

section
/-! SUPPORT. The timeline unit: what a report of the reference or of a jump leaves (R28), the two tests of a frame in the
words of the statements (R22), and what each reference state does with a valid frame (R21 to R27). -/

namespace Sys2Proof.Machine

/-! ## Reports (R28, R88) -/

/-- `t` differs from `s` by notices, condition flags and the records of the take table alone. -/
def OnlyReports (s t : State) : Prop :=
  t = { s with link := t.link, takes := { s.takes with table := t.takes.table } }

/-- An event of the module or the timeline has reached the open take, which is also the record of its id (R73, R88). -/
structure Entered (e : Event) (s t : State) : Prop where
  closed : s.openRecord? = none → t.takes = s.takes
  opened : ∀ r, s.openRecord? = some r → s.record? r.id = some r →
    t.openRecord? = some (withEvent r e) ∧ t.record? r.id = some (withEvent r e)
      ∧ ∀ id, id ≠ r.id → t.record? id = s.record? id

/-- A change that leaves the take controller, before the event. -/
theorem Entered.of_takes {e : Event} {s m t : State} (same : m.takes = s.takes) (h : Entered e m t) : Entered e s t := by
  have opened : m.openRecord? = s.openRecord? := by rw [State.openRecord?, same, State.openRecord?]
  have found (id : Nat) : m.record? id = s.record? id := by rw [State.record?, same, State.record?]
  refine ⟨fun none => (h.closed (opened.trans none)).trans same, fun r some here => ?_⟩
  simpa only [found] using h.opened r (opened.trans some) ((found r.id).trans here)

theorem OnlyReports.trans {s t u : State} (h : OnlyReports s t) (k : OnlyReports t u) : OnlyReports s u := by
  unfold OnlyReports at h k ⊢
  rw [k, h]

/-- Reports after a change of the timeline unit, written as an update. -/
theorem OnlyReports.eq {s m t : State} (moved : m = { s with timeline := m.timeline }) (h : OnlyReports m t) :
    t = { s with timeline := t.timeline, link := t.link, takes := t.takes } := by
  have only : t = { m with link := t.link, takes := { m.takes with table := t.takes.table } } := h
  have takes : t.takes = { m.takes with table := t.takes.table } := congrArg State.takes only
  have timeline : t.timeline = m.timeline := by rw [only]
  have frame : t = { m with link := t.link, takes := t.takes } := by
    rw [← takes] at only
    exact only
  rw [timeline]
  exact frame.trans (by rw [moved])

theorem onlyReports_modLink (s : State) (f : Link → Link) : OnlyReports s (s.modLink f) := rfl

theorem onlyReports_raise (s : State) (k : Condition) : OnlyReports s (s.raise k) := rfl

theorem onlyReports_lower (s : State) (k : Condition) : OnlyReports s (s.lower k) := rfl

theorem onlyReports_intake (s : State) (e : Event) : OnlyReports s (s.intake e) := by
  unfold State.intake
  split
  · rfl
  · split <;> rfl

/-- An event whose kind names no source always feeds the open take (R88). -/
theorem entered_intake {s : State} {e : Event} (always : ∀ mask, s.eventFeeds mask e = true) : Entered e s (s.intake e) where
  closed none := by rw [intake_none e none]
  opened r some found := by
    rw [intake_open some (always r.mask)]
    exact ⟨openRecord?_updRecord (fun q => (enter_kept e q).2.1) some,
      record?_updRecord_same (fun q => (enter_kept e q).1) found,
      fun id other => record?_updRecord_other (fun q => (enter_kept e q).1) other⟩

section
variable (s : State) (k : TrefKind) (pos : Nat) (e : Int)

theorem onlyReports_report : OnlyReports s (s.report k pos e) := by
  unfold State.report
  dsimp only
  split
  · exact (onlyReports_modLink s _).trans (onlyReports_intake _ _)
  · exact onlyReports_modLink s _

theorem report_link : (s.report k pos e).link = (s.notify (.tref k pos s.timeline.ref s.timeline.anchor e)).link := by
  unfold State.report
  dsimp only
  split
  · exact intake_link _ _
  · rfl

theorem report_plain (silent : k.event pos e = none) :
    s.report k pos e = s.notify (.tref k pos s.timeline.ref s.timeline.anchor e) := by
  rw [State.report, silent]

/-- A report that is also an event: the notice leaves the take table as it is, and the event always feeds (R28, R88). -/
theorem entered_report {ev : Event} (told : k.event pos e = some ev) : Entered ev s (s.report k pos e) := by
  have always (mask : TrackSet) : s.eventFeeds mask ev = true := by
    cases k <;> cases told <;> rfl
  have entered := entered_intake (s := s.notify (.tref k pos s.timeline.ref s.timeline.anchor e)) always
  rw [State.report, told]
  exact ⟨entered.closed, entered.opened⟩

/-- A report with room for its notice (R28, R173). -/
theorem report_room (room : NoticeRoom s) :
    (s.report k pos e).link = noticed s.link (.tref k pos s.timeline.ref s.timeline.anchor e) := by
  rw [report_link, notify_room _ room]

theorem report_timeline : (s.report k pos e).timeline = s.timeline := (confined_report s k pos e).timeline

end

theorem regained_timeline (s : State) (pos : Nat) : (s.regained pos).timeline = s.timeline :=
  (confined_regained s pos).timeline

theorem onlyReports_regained (s : State) (pos : Nat) : OnlyReports s (s.regained pos) :=
  (onlyReports_report s .refRegained pos 0).trans (onlyReports_lower _ _)

theorem entered_regained (s : State) (pos : Nat) :
    Entered { kind := .refRegained, source := 0, position := pos, error := 0 } s (s.regained pos) :=
  ⟨(entered_report s .refRegained pos 0 rfl).closed, (entered_report s .refRegained pos 0 rfl).opened⟩

theorem regained_room {s : State} (pos : Nat) (room : NoticeRoom s) :
    (s.regained pos).link = { noticed s.link (.tref .refRegained pos s.timeline.ref s.timeline.anchor 0) with
      conds := { s.link.conds with referenceLost := false } } := by
  rw [State.regained, State.lower, State.modConds, State.modLink_link, report_room s _ _ _ room]
  rfl

/-- One event after another reaches the open take. -/
theorem Entered.trans {s t u : State} {e f : Event} (h : Entered e s t) (k : Entered f t u) :
    (s.openRecord? = none → u.takes = s.takes)
    ∧ ∀ r, s.openRecord? = some r → s.record? r.id = some r → u.record? r.id = some (withEvent (withEvent r e) f) := by
  refine ⟨fun none => ?_, fun r some found => ?_⟩
  · have same := h.closed none
    rw [k.closed (by rw [State.openRecord?, same]; exact none), same]
  · obtain ⟨opened, again, -⟩ := h.opened r some found
    have id : (withEvent r e).id = r.id := (enter_kept e r).1
    rw [← id] at again ⊢
    exact (k.opened _ opened again).2.1

/-! ## The loss of the reference (R26, R34) -/

theorem lossDue_iff (s : State) : s.lossDue = true ↔ (s.timeline.ref = .locked ∨ s.timeline.ref = .verifying)
    ∧ 2 * ((s.timeline.rate.num + s.timeline.rate.den - 1) / s.timeline.rate.den) ≤ s.timeline.loss := by
  simp only [State.lossDue, Timeline.countsLoss, Bool.and_eq_true, Bool.or_eq_true, decide_eq_true_eq]
  exact Iff.rfl

theorem takeRefLost_idle {s : State} (idle : ¬s.lossDue = true) : s.takeRefLost = s := if_neg idle

/-- Settles O26: the loss is due exactly at the limit in the two states that count it, and is then reported or taken silently. -/
theorem refLostEntersHoldover : Obligations.RefLostEntersHoldover := by
  unfold Obligations.RefLostEntersHoldover
  refine fun s => ⟨fun short => ?short, fun locked verifying => ?elsewhere, fun counts limit => ?lost⟩
  case short =>
    refine congrArg Host.Outcome.next (takeRefLost_idle fun due => ?_)
    exact absurd ((lossDue_iff s).1 due).2 (Nat.not_le.2 short)
  case elsewhere =>
    refine congrArg Host.Outcome.next (takeRefLost_idle fun due => ?_)
    rcases ((lossDue_iff s).1 due).1 with h | h
    · exact locked h
    · exact verifying h
  case lost =>
    refine ⟨s.takeRefLost, rfl, ?_⟩
    rw [State.takeRefLost, if_pos ((lossDue_iff s).2 ⟨counts, limit⟩)]
    dsimp only
    cases again : s.timeline.regain with
    | true =>
      rw [if_pos rfl]
      exact ⟨rfl, fun _ => rfl, nofun, nofun, rfl⟩
    | false =>
      rw [if_neg Bool.false_ne_true]
      generalize moved : (s.modTimeline fun t => { t with candidate := none, ref := .holdover, regain := false }) = m
      have told := entered_report m .refLost s.ring.p 0 rfl
      have frame := (onlyReports_report m .refLost s.ring.p 0).trans (onlyReports_raise _ .referenceLost)
      have noted (room : NoticeRoom m) := report_room m .refLost s.ring.p 0 room
      have timeline : ((m.report .refLost s.ring.p 0).raise .referenceLost).timeline = m.timeline :=
        report_timeline m .refLost s.ring.p 0
      subst moved
      refine ⟨timeline, nofun, fun _ room => ?_, fun _ => ⟨rfl, told.closed, fun r some found => ?_⟩, ?_⟩
      · rw [State.raise, State.modConds, State.modLink_link, noted room]
        rfl
      · exact (told.opened r some found).2
      · rw [timeline]
        exact frame

/-! ## TLMD (R29, R30) -/

section
variable {s : State} {rc mc : BitVec 8} {tol : BitVec 16} {r : Rate} {m : TimeMode}

theorem reqTlmd_busy (rate : rateOf rc = some r) (mode : timeModeOf mc = some m) (other : r ≠ s.timeline.rate)
    (rolling : s.takes.state ≠ .stopped) : reqTlmd rc mc tol s = refuse s .busy := by
  rw [reqTlmd, rate, mode]
  exact if_pos ⟨other, rolling⟩

theorem reqTlmd_taken (rate : rateOf rc = some r) (mode : timeModeOf mc = some m)
    (free : r = s.timeline.rate ∨ s.takes.state = .stopped) : reqTlmd rc mc tol s =
      okAnswer (s.takeTlmd r m (min tol.toNat 480))
        (.tlmd r m (min tol.toNat 480) (s.takeTlmd r m (min tol.toNat 480)).timeline.ref) := by
  rw [reqTlmd, rate, mode]
  dsimp only
  rw [clamp_eq _ (Nat.zero_le _), Nat.zero_max]
  exact if_neg fun busy => free.elim busy.1 busy.2

theorem takeTlmd_kept (rate : r = s.timeline.rate) (mode : m = s.timeline.mode) (tolerance : Nat) :
    s.takeTlmd r m tolerance = { s with timeline := { s.timeline with tolerance := tolerance } } :=
  (if_neg (not_not.2 rate)).trans (if_neg (not_not.2 mode))

theorem takeTlmd_mode (rate : r = s.timeline.rate) (mode : m ≠ s.timeline.mode) (tolerance : Nat) :
    s.takeTlmd r m tolerance = { s with
      link := { s.link with conds := { s.link.conds with
        referenceLost := if s.timeline.mode = .follow then false else s.link.conds.referenceLost } }
      timeline := { s.timeline with mode := m, tolerance := tolerance, ref := if m = .free then .freeRun else .seeking
                                    candidate := none, regain := false, loss := 0 } } := by
  refine (if_neg (not_not.2 rate)).trans ((if_pos mode).trans ?_)
  rw [← entered_eq]
  by_cases follow : s.timeline.mode = .follow
  · rw [if_pos follow]
    exact if_pos follow
  · rw [if_neg follow]
    exact if_neg follow

theorem takeTlmd_rate (rate : r ≠ s.timeline.rate) (tolerance : Nat) : s.takeTlmd r m tolerance = { s with
    link := { s.link with conds := { s.link.conds with referenceLost := false } }
    timeline := { s.timeline with
      rate := r, mode := m, tolerance := tolerance, anchor := { pos := s.ring.p, count := 0 }
      ref := if m = .free then .freeRun else .seeking, candidate := none, regain := false, loss := 0 }
    takes := { s.takes with startMark := { s.takes.startMark with armed := false }
                            stopMark := { s.takes.stopMark with armed := false } } } := by
  rw [← entered_eq]
  exact if_pos rate

end

/-- Settles O27: the request by what it changes: the tolerance alone, the mode, or the rate, for which no take may be open. -/
theorem tlmdSetsRateModeAndTolerance : Obligations.TlmdSetsRateModeAndTolerance := by
  unfold Obligations.TlmdSetsRateModeAndTolerance
  refine fun s tag rc mc tol r m room rate mode => ⟨fun other rolling => ?busy, fun same kept => ?tolerance,
    fun same other => ?mode, fun other stopped => ?rate⟩
  case busy => exact served_refusal room (reqTlmd_busy rate mode other rolling)
  all_goals
    refine congrArg Host.Outcome.next ((serve_room tag ReqKind.tlmd.word (reqTlmd rc mc tol) room).trans ?_)
  case tolerance =>
    rw [reqTlmd_taken (s := s.modLink Link.goodFrame) rate mode (.inl same), takeTlmd_kept (s := s.modLink Link.goodFrame) same kept]
    rfl
  case mode =>
    rw [reqTlmd_taken (s := s.modLink Link.goodFrame) rate mode (.inl same), takeTlmd_mode (s := s.modLink Link.goodFrame) same other]
    rfl
  case rate =>
    rw [reqTlmd_taken (s := s.modLink Link.goodFrame) rate mode (.inr stopped), takeTlmd_rate (s := s.modLink Link.goodFrame) other]
    rfl

/-! ## The tests of a frame (R22) -/

section
variable (t : Timeline)

theorem withinTolerance_iff (e : Int) : withinTolerance t.tolerance e = true ↔ ¬OutsideTolerance t e := by
  simp only [withinTolerance, Bool.and_eq_true, decide_eq_true_eq, OutsideTolerance]
  omega

theorem agrees_iff (c arrival : Nat) :
    t.agrees c arrival = true ↔ ¬OutsideTolerance t ((arrival : Int) - t.expected c) :=
  withinTolerance_iff t _

theorem consistent_iff (first : Anchor) (c arrival : Nat) :
    t.consistent first c arrival = true ↔ FollowsFrame t first c arrival := by
  simp only [Timeline.consistent, Bool.and_eq_true, decide_eq_true_eq, and_assoc]
  exact Iff.rfl

end

/-! ## A valid frame by the reference state (R21 to R27) -/

/-- The candidate frame becomes the one that has come (R23, R25). -/
def State.newCandidate (s : State) (c arrival : Nat) : State :=
  s.modTimeline fun t => { t with candidate := some { pos := arrival, count := c } }

section
variable {s : State} {c arrival : Nat}

theorem frameSeeking_candidate
    (other : ∀ first, s.timeline.candidate = some first → ¬FollowsFrame s.timeline first c arrival) :
    s.frameSeeking c arrival = s.newCandidate c arrival := by
  unfold State.frameSeeking
  dsimp only
  split
  · rfl
  · next first held => exact if_neg (mt (consistent_iff _ _ _ _).1 (other first held))

/-- The timeline after a frame has moved the anchor to itself (R23, R25). -/
def Timeline.anchored (t : Timeline) (c arrival : Nat) (ref : RefState) : Timeline :=
  { t with anchor := { pos := arrival, count := c }, candidate := none, ref := ref }

/-- The reports of a jam: LOCKED or JAMMED, and beside it a TC JUMP where the error lies outside the tolerance (R23). -/
def State.jamReports (s : State) (kind : TrefKind) (arrival : Nat) (tolerance : Nat) (e : Int) : State :=
  if withinTolerance tolerance e then s.report kind arrival 0
  else (s.report kind arrival 0).report .tcJump arrival e

theorem frameSeeking_jam {first : Anchor} (held : s.timeline.candidate = some first)
    (follows : FollowsFrame s.timeline first c arrival) {kind : TrefKind} {ref : RefState}
    (jam : kind = if s.timeline.mode = .follow then .locked else .jammed)
    (state : ref = if s.timeline.mode = .follow then .locked else .freeRun) : s.frameSeeking c arrival =
      ((s.modTimeline fun t => t.anchored c arrival ref).jamReports kind arrival s.timeline.tolerance
        (s.timeline.errorOf c arrival)).markHandoff (s.timeline.countAt s.ring.p)
          ((s.timeline.anchored c arrival ref).countAt s.ring.p) := by
  unfold State.frameSeeking
  dsimp only
  rw [held]
  dsimp only
  rw [if_pos ((consistent_iff _ _ _ _).2 follows), jam, state]
  by_cases follow : s.timeline.mode = .follow <;> simp only [follow, ne_eq, not_true, not_false_iff, decide_true, decide_false,
    if_true, if_false, Bool.false_eq_true] <;> rfl

theorem frameLocked_agrees (agrees : ¬OutsideTolerance s.timeline (s.timeline.errorOf c arrival)) :
    s.frameLocked c arrival = s := if_pos ((agrees_iff _ _ _).2 agrees)

theorem frameLocked_disagrees (out : OutsideTolerance s.timeline (s.timeline.errorOf c arrival)) :
    s.frameLocked c arrival = s.modTimeline fun t =>
      { t with candidate := some { pos := arrival, count := c }, ref := .verifying, regain := false } :=
  if_neg (mt (agrees_iff _ _ _).1 (not_not.2 out))

theorem frameHoldover_agrees (agrees : ¬OutsideTolerance s.timeline (s.timeline.errorOf c arrival)) :
    s.frameHoldover c arrival = (s.modTimeline fun t => { t with candidate := none, ref := .locked }).regained arrival :=
  if_pos ((agrees_iff _ _ _).2 agrees)

theorem frameHoldover_disagrees (out : OutsideTolerance s.timeline (s.timeline.errorOf c arrival)) :
    s.frameHoldover c arrival = s.modTimeline fun t =>
      { t with candidate := some { pos := arrival, count := c }, ref := .verifying, regain := true } :=
  if_neg (mt (agrees_iff _ _ _).1 (not_not.2 out))

theorem frameVerifying_agrees (agrees : ¬OutsideTolerance s.timeline (s.timeline.errorOf c arrival)) :
    s.frameVerifying c arrival =
      if s.timeline.regain then
        (s.modTimeline fun t => { t with candidate := none, ref := .locked, regain := false }).regained arrival
      else s.modTimeline fun t => { t with candidate := none, ref := .locked, regain := false } :=
  if_pos ((agrees_iff _ _ _).2 agrees)

theorem frameVerifying_candidate (out : OutsideTolerance s.timeline (s.timeline.errorOf c arrival))
    (other : ∀ first, s.timeline.candidate = some first → ¬FollowsFrame s.timeline first c arrival) :
    s.frameVerifying c arrival = s.newCandidate c arrival := by
  have none : ¬s.timeline.candidate.any (fun first => s.timeline.consistent first c arrival) = true := by
    rw [Option.any_eq_true]
    rintro ⟨first, held, follows⟩
    exact other first held ((consistent_iff _ _ _ _).1 follows)
  unfold State.frameVerifying
  dsimp only
  rw [if_neg (mt (agrees_iff _ _ _).1 (not_not.2 out)), if_neg none]
  rfl

/-- The reports of a re-anchor: REF REGAINED where regain was pending, then TC JUMP (R25). -/
def State.reanchorReports (s : State) (regain : Bool) (arrival : Nat) (e : Int) : State :=
  (if regain then s.regained arrival else s).report .tcJump arrival e

theorem frameVerifying_reanchor (out : OutsideTolerance s.timeline (s.timeline.errorOf c arrival)) {first : Anchor}
    (held : s.timeline.candidate = some first) (follows : FollowsFrame s.timeline first c arrival) :
    s.frameVerifying c arrival =
      ((s.modTimeline fun t => { t.anchored c arrival .locked with regain := false }).reanchorReports s.timeline.regain
        arrival (s.timeline.errorOf c arrival)).markHandoff (s.timeline.countAt s.ring.p)
          ((s.timeline.anchored c arrival .locked).countAt s.ring.p) := by
  have some : s.timeline.candidate.any (fun first => s.timeline.consistent first c arrival) = true := by
    rw [held]
    exact (consistent_iff _ _ _ _).2 follows
  unfold State.frameVerifying
  dsimp only
  rw [if_neg (mt (agrees_iff _ _ _).1 (not_not.2 out)), if_pos some]
  rfl

end

/-! ## The arrival (R21) -/

/-- A valid frame has returned the loss count to 0. -/
def State.lossCleared (s : State) : State := s.modTimeline fun t => { t with loss := 0 }

section
variable {s : State} {l : Label} {c arrival : Nat}

theorem takeFrame_valid (valid : validLabel s.timeline.rate l = true) :
    s.takeFrame l s.timeline.rate.isDrop arrival = s.validFrame (labelCount s.timeline.rate l) arrival := by
  rw [State.takeFrame, if_neg (not_not.2 rfl), if_neg (by rw [valid]; nofun)]

theorem validFrame_freeRun (ref : s.timeline.ref = .freeRun) : s.validFrame c arrival = s.lossCleared := by
  rw [State.validFrame, ref]
  rfl

theorem validFrame_seeking (ref : s.timeline.ref = .seeking) :
    s.validFrame c arrival = s.lossCleared.frameSeeking c arrival := by
  rw [State.validFrame, ref]
  rfl

theorem validFrame_locked (ref : s.timeline.ref = .locked) :
    s.validFrame c arrival = s.lossCleared.frameLocked c arrival := by
  rw [State.validFrame, ref]
  rfl

theorem validFrame_verifying (ref : s.timeline.ref = .verifying) :
    s.validFrame c arrival = s.lossCleared.frameVerifying c arrival := by
  rw [State.validFrame, ref]
  rfl

theorem validFrame_holdover (ref : s.timeline.ref = .holdover) :
    s.validFrame c arrival = s.lossCleared.frameHoldover c arrival := by
  rw [State.validFrame, ref]
  rfl

end

theorem markHandoff_timeline (s : State) (c1 c2 : Nat) : (s.markHandoff c1 c2).timeline = s.timeline :=
  (confined_markHandoff s c1 c2).timeline

theorem jamReports_timeline (s : State) (kind : TrefKind) (arrival tolerance : Nat) (e : Int) :
    (s.jamReports kind arrival tolerance e).timeline = s.timeline := by
  unfold State.jamReports
  split
  · exact report_timeline ..
  · exact (report_timeline ..).trans (report_timeline ..)

theorem reanchorReports_timeline (s : State) (regain : Bool) (arrival : Nat) (e : Int) :
    (s.reanchorReports regain arrival e).timeline = s.timeline := by
  unfold State.reanchorReports
  rw [report_timeline]
  split
  · exact regained_timeline ..
  · rfl

/-- No reference state counts a loss at a valid frame. -/
theorem validFrame_loss (s : State) (c arrival : Nat) : (s.validFrame c arrival).timeline.loss = 0 := by
  cases ref : s.timeline.ref with
  | freeRun => rw [validFrame_freeRun ref]; rfl
  | seeking =>
    rw [validFrame_seeking ref]
    by_cases other : ∀ first, s.lossCleared.timeline.candidate = some first →
        ¬FollowsFrame s.lossCleared.timeline first c arrival
    · rw [frameSeeking_candidate other]
      rfl
    · push Not at other
      obtain ⟨first, held, follows⟩ := other
      rw [frameSeeking_jam held follows rfl rfl, markHandoff_timeline, jamReports_timeline]
      rfl
  | locked =>
    rw [validFrame_locked ref]
    unfold State.frameLocked
    split <;> rfl
  | verifying =>
    rw [validFrame_verifying ref]
    by_cases out : OutsideTolerance s.lossCleared.timeline (s.lossCleared.timeline.errorOf c arrival)
    · by_cases other : ∀ first, s.lossCleared.timeline.candidate = some first →
          ¬FollowsFrame s.lossCleared.timeline first c arrival
      · rw [frameVerifying_candidate out other]
        rfl
      · push Not at other
        obtain ⟨first, held, follows⟩ := other
        rw [frameVerifying_reanchor out held follows, markHandoff_timeline, reanchorReports_timeline]
        rfl
    · rw [frameVerifying_agrees out]
      split
      · rw [regained_timeline]
        rfl
      · rfl
  | holdover =>
    rw [validFrame_holdover ref]
    unfold State.frameHoldover
    split
    · rw [regained_timeline]
      rfl
    · rfl

/-- What a reference regained leaves, the timeline having been brought to `m` before (R25, R27, R34). -/
theorem regained_outcome {s m : State} (arrival : Nat) (moved : m = { s with timeline := m.timeline })
    (locked : m.timeline.ref = .locked) (kept : m.timeline.anchor = s.timeline.anchor) :
    (m.regained arrival).timeline = m.timeline
    ∧ (m.regained arrival).link.conds.referenceLost = false
    ∧ (NoticeRoom s → (m.regained arrival).link =
        { noticed s.link (.tref .refRegained arrival .locked s.timeline.anchor 0) with
          conds := { s.link.conds with referenceLost := false } })
    ∧ (s.openRecord? = none → (m.regained arrival).takes = s.takes)
    ∧ (∀ r, s.openRecord? = some r → s.record? r.id = some r → (m.regained arrival).record? r.id =
        some (withEvent r { kind := .refRegained, source := 0, position := arrival, error := 0 }))
    ∧ m.regained arrival = { s with
        timeline := (m.regained arrival).timeline, link := (m.regained arrival).link, takes := (m.regained arrival).takes } := by
  have told := entered_regained m arrival
  have frame : m.regained arrival = _ := onlyReports_regained m arrival
  have link : m.link = s.link := by rw [moved]
  have takes : m.takes = s.takes := by rw [moved]
  have opened : m.openRecord? = s.openRecord? := by rw [State.openRecord?, takes, State.openRecord?]
  have found (id : Nat) : m.record? id = s.record? id := by rw [State.record?, takes, State.record?]
  refine ⟨regained_timeline m arrival, rfl, fun room => ?_, fun none => ?_, fun r some here => ?_, ?_⟩
  · have room' : NoticeRoom m := by rw [NoticeRoom, link]; exact room
    rw [regained_room arrival room', link, locked, kept]
  · rw [told.closed (opened.trans none), takes]
  · exact (told.opened r (opened.trans some) ((found r.id).trans here)).2.1
  · rw [frame, moved]

/-- Settles O24: the arrival by the drop flag, the label and the reference state, each of whose tests is R22's. -/
theorem frameArrivalsSetTheReferenceState : Obligations.FrameArrivalsSetTheReferenceState := by
  unfold Obligations.FrameArrivalsSetTheReferenceState
  refine ⟨fun s l drop a => ⟨fun other => ?mismatch, fun same invalid => ?invalid, fun same valid ref => ?freeRun⟩,
    fun s l a c e valid count error => ?valid⟩
  case mismatch => exact congrArg Host.Outcome.next (if_pos other)
  case invalid => exact congrArg Host.Outcome.next ((if_neg (not_not.2 same)).trans (if_pos invalid))
  case freeRun =>
    subst same
    exact congrArg Host.Outcome.next ((takeFrame_valid valid).trans (validFrame_freeRun ref))
  case valid =>
    subst count error
    refine ⟨s.validFrame (labelCount s.timeline.rate l) a.toNat, congrArg Host.Outcome.next (takeFrame_valid valid),
      validFrame_loss s _ _, fun ref other => ?candidate, fun ref agrees => ?locked, fun ref out => ?verifies,
      fun ref out => ?holdoverVerifies, fun ref out other => ?replaces, fun ref agrees regain => ?returns,
      fun ref agrees => ?regains⟩
    case candidate => exact (validFrame_seeking ref).trans (frameSeeking_candidate other)
    case locked => exact (validFrame_locked ref).trans (frameLocked_agrees agrees)
    case verifies => exact (validFrame_locked ref).trans (frameLocked_disagrees out)
    case holdoverVerifies => exact (validFrame_holdover ref).trans (frameHoldover_disagrees out)
    case replaces => exact (validFrame_verifying ref).trans (frameVerifying_candidate out other)
    case returns =>
      refine (validFrame_verifying ref).trans ((frameVerifying_agrees (s := s.lossCleared) agrees).trans ?_)
      exact if_neg (by rw [show s.lossCleared.timeline.regain = false from regain]; nofun)
    case regains =>
      rcases ref with ref | ⟨ref, regain⟩
      · rw [validFrame_holdover ref, frameHoldover_agrees (s := s.lossCleared) agrees, if_pos ref]
        exact regained_outcome (s := s) a.toNat rfl rfl rfl
      · have pending : s.lossCleared.timeline.regain = true := regain
        rw [validFrame_verifying ref, frameVerifying_agrees (s := s.lossCleared) agrees, if_pos pending,
          if_neg (by rw [ref]; nofun : ¬s.timeline.ref = .holdover)]
        exact regained_outcome (s := s) a.toNat rfl rfl rfl

theorem onlyReports_ite {s t u : State} {p : Prop} [Decidable p] (ht : OnlyReports s t) (hu : OnlyReports s u) :
    OnlyReports s (if p then t else u) := by
  split
  · exact ht
  · exact hu

section
variable (s : State) (kind : TrefKind) (arrival tolerance : Nat) (e : Int) (regain : Bool)

theorem onlyReports_jamReports : OnlyReports s (s.jamReports kind arrival tolerance e) :=
  onlyReports_ite (onlyReports_report ..) ((onlyReports_report ..).trans (onlyReports_report ..))

theorem onlyReports_reanchorReports : OnlyReports s (s.reanchorReports regain arrival e) :=
  OnlyReports.trans (t := if regain then s.regained arrival else s) (onlyReports_ite (onlyReports_regained ..) rfl)
    (onlyReports_report ..)

end

/-- LOCKED and JAMMED are notices alone, and no events (R28). -/
theorem event_of_jam {kind : TrefKind} {follow : Prop} [Decidable follow] (jam : kind = if follow then .locked else .jammed)
    (pos : Nat) (e : Int) : kind.event pos e = none := by
  rw [jam]
  split <;> rfl

/-- Settles O25: the consistent frame moves the anchor, its reports leave the timeline, and the marks take the two counts. -/
theorem framesMoveTheAnchor : Obligations.FramesMoveTheAnchor := by
  unfold Obligations.FramesMoveTheAnchor
  intro s l a c e first anchor jump valid count error held follows moved jumped
  subst count error moved jumped
  refine ⟨fun ref kind state jam jammed => ?jam, fun ref out => ?reanchor⟩
  case jam =>
    generalize anchored : (s.lossCleared.modTimeline fun t => t.anchored (labelCount s.timeline.rate l) a.toNat state) = m
    generalize error : (a.toNat : Int) - s.timeline.expected (labelCount s.timeline.rate l) = e
    have taken := (takeFrame_valid (arrival := a.toNat) valid).trans ((validFrame_seeking ref).trans
      (frameSeeking_jam (s := s.lossCleared) held follows jam jammed))
    have timeline := jamReports_timeline m kind a.toNat s.timeline.tolerance e
    have frame := onlyReports_jamReports m kind a.toNat s.timeline.tolerance e
    have first := report_plain m kind a.toNat 0 (event_of_jam jam _ _)
    subst anchored
    refine ⟨_, ?_, OnlyReports.eq (s := s) rfl frame, timeline, fun inside => ?_, fun out => ?_⟩
    · rw [timeline, ← error]
      exact congrArg Host.Outcome.next taken
    · rw [State.jamReports, if_pos ((withinTolerance_iff _ _).2 inside), first]
      exact ⟨rfl, fun room => notify_link rfl room⟩
    · rw [State.jamReports, if_neg (mt (withinTolerance_iff _ _).1 (not_not.2 out)), first]
      have told (u : State) (same : u.takes = s.takes) := (entered_report u .tcJump a.toNat e rfl).of_takes same
      refine ⟨fun room => ?_, (told _ (by rfl)).closed, fun r some found => ((told _ (by rfl)).opened r some found).2.1⟩
      rw [report_link]
      exact notify_link (notify_link rfl (by show s.link.notices.length < 32; omega))
        (by rw [noticed_length]; show s.link.notices.length + 1 < 32; omega)
  case reanchor =>
    generalize anchored : (s.lossCleared.modTimeline fun t =>
      { t.anchored (labelCount s.timeline.rate l) a.toNat .locked with regain := false }) = m
    have taken := (takeFrame_valid (arrival := a.toNat) valid).trans ((validFrame_verifying ref).trans
      (frameVerifying_reanchor (s := s.lossCleared) out held follows))
    generalize error : (a.toNat : Int) - s.timeline.expected (labelCount s.timeline.rate l) = e
    have timeline := reanchorReports_timeline m s.timeline.regain a.toNat e
    have frame := onlyReports_reanchorReports m a.toNat e s.timeline.regain
    have regained (same : m.takes = s.takes) := (entered_regained m a.toNat).of_takes same
    have told (u : State) (same : u.takes = s.takes) := (entered_report u .tcJump a.toNat e rfl).of_takes same
    subst anchored
    have whole := OnlyReports.eq (s := s) rfl frame
    refine ⟨_, ?_, whole, timeline, ?_⟩
    · rw [timeline, ← error]
      exact congrArg Host.Outcome.next taken
    · cases s.timeline.regain with
      | false =>
        rw [State.reanchorReports, if_neg Bool.false_ne_true]
        exact ⟨(told _ (by rfl)).closed,
          fun _ => ⟨fun room => report_room _ _ _ _ room, fun r some found => ((told _ (by rfl)).opened r some found).2.1⟩, nofun⟩
      | true =>
        rw [State.reanchorReports, if_pos rfl]
        have both := (regained rfl).trans (entered_report _ .tcJump a.toNat e rfl)
        refine ⟨both.1, nofun, fun _ => ⟨fun room => ?_, both.2⟩⟩
        rw [report_link, regained_timeline]
        refine (notify_link (regained_room _ (by show s.link.notices.length < 32; omega)) ?_).trans rfl
        show (noticed _ _).notices.length < 32
        rw [noticed_length]
        show s.link.notices.length + 1 < 32
        omega

end Sys2Proof.Machine
end

section
/-! SUPPORT. Timecode by hand and fresh jams (R31, R32), and the marks at an anchor move (R101, R102). -/

namespace Sys2Proof.Machine

/-! ## TCST and JAMS (R31, R32) -/

/-- The report of a TCST: TC JUMP at P where the error lies outside the tolerance (R28, R31). -/
def State.handReport (s : State) (tolerance : Nat) (e : Int) : State :=
  if withinTolerance tolerance e then s else s.report .tcJump s.ring.p e

section
variable {s : State}

theorem reqTcst_label {l : Label} (invalid : validLabel s.timeline.rate l = false) : reqTcst l s = refuse s .label :=
  if_pos invalid

theorem reqTcst_state {l : Label} (valid : validLabel s.timeline.rate l = true) (mode : s.timeline.mode ≠ .free) :
    reqTcst l s = refuse s .state :=
  (if_neg (by rw [valid]; nofun)).trans (if_pos mode)

theorem reqTcst_taken {l : Label} (valid : validLabel s.timeline.rate l = true) (mode : s.timeline.mode = .free) :
    reqTcst l s = okAnswer (s.setTimecode (labelCount s.timeline.rate l)) (.tcst (labelCount s.timeline.rate l)
      { pos := s.ring.p, count := labelCount s.timeline.rate l }) :=
  (if_neg (by rw [valid]; nofun)).trans (if_neg (not_not.2 mode))

theorem reqJams_free (mode : s.timeline.mode = .free) : reqJams s = refuse s .state := if_pos mode

theorem reqJams_taken (mode : s.timeline.mode ≠ .free) : reqJams s = okAnswer s.startJam (.jams .seeking) := by
  refine (if_neg mode).trans ?_
  unfold State.startJam
  split <;> rfl

theorem handReport_timeline (tolerance : Nat) (e : Int) : (s.handReport tolerance e).timeline = s.timeline := by
  unfold State.handReport
  split
  · rfl
  · exact report_timeline ..

theorem onlyReports_handReport (tolerance : Nat) (e : Int) : OnlyReports s (s.handReport tolerance e) :=
  onlyReports_ite rfl (onlyReports_report ..)

/-- The frame of a TCST with the counts of P before and after handed to the marks (R28, R31). -/
theorem setTimecode_eq (c : Nat) : s.setTimecode c =
    ((s.setAnchor { pos := s.ring.p, count := c }).handReport s.timeline.tolerance
      (s.timeline.errorOf c s.ring.p)).markHandoff (s.timeline.countAt s.ring.p)
        ((s.setAnchor { pos := s.ring.p, count := c }).timeline.countAt s.ring.p) := rfl

end

/-- The machine of a TCST with its anchor moved and its jump reported, before the marks (R28, R31). -/
def State.handAnchored (s : State) (c : Nat) : State :=
  ((s.modLink Link.goodFrame).setAnchor { pos := s.ring.p, count := c }).handReport s.timeline.tolerance
    ((s.ring.p : Int) - s.timeline.expected c)

section
variable {s : State} {tag : BitVec 8} {l : Label} {c : Nat}

theorem handAnchored_timeline : (s.handAnchored c).timeline =
    { s.timeline with anchor := { pos := s.ring.p, count := c } } :=
  handReport_timeline ..

theorem exec_tcst_taken (room : HasRoom s) (valid : validLabel s.timeline.rate l = true) (mode : s.timeline.mode = .free)
    (count : c = labelCount s.timeline.rate l) : exec (.tcst tag l) s =
      .next (((s.handAnchored c).markHandoff (s.timeline.countAt s.ring.p)
        ((s.handAnchored c).timeline.countAt s.ring.p)).withReply tag .tcst .ok (.tcst c { pos := s.ring.p, count := c })) := by
  refine congrArg Host.Outcome.next ((serve_room tag ReqKind.tcst.word (reqTcst l) room).trans ?_)
  rw [reqTcst_taken (s := s.modLink Link.goodFrame) valid mode, setTimecode_eq, handAnchored_timeline, count]
  rfl

theorem handAnchored_inside (inside : ¬OutsideTolerance s.timeline ((s.ring.p : Int) - s.timeline.expected c)) :
    (s.handAnchored c).link = heard s.link ∧ (s.handAnchored c).takes = s.takes := by
  rw [State.handAnchored, State.handReport, if_pos ((withinTolerance_iff _ _).2 inside)]
  exact ⟨rfl, rfl⟩

theorem handAnchored_outside (out : OutsideTolerance s.timeline ((s.ring.p : Int) - s.timeline.expected c)) :
    s.handAnchored c = ((s.modLink Link.goodFrame).setAnchor { pos := s.ring.p, count := c }).report .tcJump s.ring.p
      ((s.ring.p : Int) - s.timeline.expected c) :=
  if_neg (mt (withinTolerance_iff _ _).1 (not_not.2 out))

theorem onlyReports_handAnchored :
    OnlyReports ((s.modLink Link.goodFrame).setAnchor { pos := s.ring.p, count := c }) (s.handAnchored c) :=
  onlyReports_handReport ..

end

/-- Settles O28: a TCST is refused by its label or the mode, or moves the anchor and reports; a JAMS enters SEEKING. -/
theorem timecodeIsSetByHandOrJammed : Obligations.TimecodeIsSetByHandOrJammed := by
  unfold Obligations.TimecodeIsSetByHandOrJammed
  refine ⟨fun s tag l room => ⟨fun invalid => ?label, fun valid mode => ?mode, fun valid mode c e count error => ?taken⟩,
    fun s tag room => ⟨fun mode => ?free, fun mode => ?jam⟩⟩
  case label => exact served_refusal room (reqTcst_label invalid)
  case mode => exact served_refusal room (reqTcst_state valid mode)
  case free => exact served_refusal room (reqJams_free mode)
  case jam =>
    refine congrArg Host.Outcome.next ((serve_room tag ReqKind.jams.word reqJams room).trans ?_)
    rw [reqJams_taken (s := s.modLink Link.goodFrame) mode]
    by_cases follow : s.timeline.mode = .follow
    · rw [State.startJam, if_pos (show (s.modLink Link.goodFrame).timeline.mode = .follow from follow), if_pos follow]
      rfl
    · rw [State.startJam, if_neg (show ¬(s.modLink Link.goodFrame).timeline.mode = .follow from follow), if_neg follow]
      rfl
  case taken =>
    subst error
    refine ⟨s.handAnchored c, exec_tcst_taken room valid mode count, ?_, handAnchored_timeline, handAnchored_inside,
      fun out => ?_⟩
    · exact OnlyReports.eq (s := s.modLink Link.goodFrame) rfl onlyReports_handAnchored
    · rw [handAnchored_outside out]
      have told := entered_report ((s.modLink Link.goodFrame).setAnchor { pos := s.ring.p, count := c }) .tcJump s.ring.p
        ((s.ring.p : Int) - s.timeline.expected c) rfl
      have entered := told.of_takes (s := s) (by rfl)
      refine ⟨fun room => ?_, entered.closed, fun r some found => (entered.opened r some found).2.1⟩
      rw [report_link]
      exact notify_link rfl room

/-! ## The marks at an anchor move (R101, R102) -/

/-- What the move from the count `c1` to the count `c2` of P makes of one mark of `x`, done in `y`. -/
def State.markOutcome (x : State) (c1 c2 : Nat) (m : MarkName) (y : State) : State :=
  if (x.mark m).armed = false then y
  else if (x.mark m).count = c2 then y.fireMark m x.ring.p c1 c2
  else if 0 < dist x.timeline.rate c1 (x.mark m).count ∧ dist x.timeline.rate c2 (x.mark m).count ≤ 0 then
    (y.disarm m).notify (.mrke m false (x.mark m).count (labelOf x.timeline.rate (x.mark m).count) x.ring.p c1 c2 none 0)
  else y

section
variable {x y : State} {c1 c2 : Nat} {m : MarkName}

theorem markOutcome_unarmed (unarmed : (x.mark m).armed = false) : x.markOutcome c1 c2 m y = y := if_pos unarmed

theorem markOutcome_landed (armed : (x.mark m).armed = true) (landed : (x.mark m).count = c2) :
    x.markOutcome c1 c2 m y = y.fireMark m x.ring.p c1 c2 :=
  (if_neg (by rw [armed]; nofun)).trans (if_pos landed)

theorem markOutcome_skipped (armed : (x.mark m).armed = true) (missed : (x.mark m).count ≠ c2)
    (before : 0 < dist x.timeline.rate c1 (x.mark m).count) (after : dist x.timeline.rate c2 (x.mark m).count ≤ 0) :
    x.markOutcome c1 c2 m y = (y.disarm m).notify (.mrke m false (x.mark m).count
      (labelOf x.timeline.rate (x.mark m).count) x.ring.p c1 c2 none 0) :=
  (if_neg (by rw [armed]; nofun)).trans ((if_neg missed).trans (if_pos ⟨before, after⟩))

theorem markOutcome_kept (armed : (x.mark m).armed = true) (missed : (x.mark m).count ≠ c2)
    (kept : dist x.timeline.rate c1 (x.mark m).count ≤ 0 ∨ 0 < dist x.timeline.rate c2 (x.mark m).count) :
    x.markOutcome c1 c2 m y = y := by
  refine (if_neg (by rw [armed]; nofun)).trans ((if_neg missed).trans (if_neg ?_))
  rintro ⟨before, after⟩
  omega

/-- A mark is judged by its own count, and by the rate and P, wherever these agree. -/
theorem markOutcome_congr {x' : State} (mark : x'.mark m = x.mark m) (rate : x'.timeline.rate = x.timeline.rate)
    (ring : x'.ring = x.ring) : x'.markOutcome c1 c2 m y = x.markOutcome c1 c2 m y := by
  simp only [State.markOutcome, mark, rate, ring]

theorem moveMark_eq (x : State) (c1 c2 : Nat) (m : MarkName) : x.moveMark c1 c2 m = x.markOutcome c1 c2 m x := rfl

/-- The move of the start mark leaves all that the stop mark is judged by. -/
theorem moveMark_start_leaves (x : State) (c1 c2 : Nat) : (x.moveMark c1 c2 .start).mark .stop = x.mark .stop
    ∧ (x.moveMark c1 c2 .start).timeline = x.timeline ∧ (x.moveMark c1 c2 .start).ring = x.ring := by
  have kept := confined_moveMark x c1 c2 .start
  refine ⟨?_, kept.timeline, kept.ring⟩
  unfold State.moveMark
  split
  · rfl
  · split
    · exact fireMark_start_stopMark ..
    · split <;> rfl

/-- The hand-off of two counts, each mark judged as it stands before it (R101). -/
theorem markHandoff_eq (x : State) (c1 c2 : Nat) : x.markHandoff c1 c2 =
    if c1 = c2 then x else x.markOutcome c1 c2 .stop (x.markOutcome c1 c2 .start x) := by
  obtain ⟨mark, timeline, ring⟩ := moveMark_start_leaves x c1 c2
  rw [State.markHandoff, moveMark_eq (x.moveMark c1 c2 .start), markOutcome_congr mark (by rw [timeline]) ring, moveMark_eq]

end

/-! ## The count of P at the anchor -/

/-- P is the anchor's frame when the anchor stands at P (R5, R6). -/
theorem countAt_anchor {t : Timeline} {p c : Nat} (anchor : t.anchor = { pos := p, count := c }) (day : c < t.rate.day) :
    t.countAt p = c := by
  have first : frameIndex t.rate 0 = 0 := by simpa [frameStart] using frameIndex_frameStart t.rate 0
  rw [Timeline.countAt, anchor, sub_self, first, add_zero, Int.emod_eq_of_lt (Int.natCast_nonneg c) (by exact_mod_cast day),
    Int.toNat_natCast]

theorem labelCount_lt_day {r : Rate} {l : Label} (valid : validLabel r l = true) : labelCount r l < r.day :=
  ((labelsAndCountsConvertBack r).1 l valid).1

/-! ## The marks at a TCST (R31, R101) -/

theorem handAnchored_eq (s : State) (c : Nat) : s.handAnchored c = { s with
    link := (s.handAnchored c).link, takes := { s.takes with table := (s.handAnchored c).takes.table }
    timeline := { s.timeline with anchor := { pos := s.ring.p, count := c } } } :=
  onlyReports_handAnchored (s := s) (c := c)

theorem handAnchored_mark (s : State) (c : Nat) (m : MarkName) : (s.handAnchored c).mark m = s.mark m := by
  rw [handAnchored_eq]
  cases m <;> rfl

theorem handAnchored_ring (s : State) (c : Nat) : (s.handAnchored c).ring = s.ring := by rw [handAnchored_eq]

/-- Settles O29: the hand-off judges each mark as it stood, and at a TCST the counts are those of P before and after. -/
theorem anchorMovesLandSkipOrKeepMarks : Obligations.AnchorMovesLandSkipOrKeepMarks := by
  unfold Obligations.AnchorMovesLandSkipOrKeepMarks
  refine ⟨fun x c1 c2 outcome judged => ?handoff, fun s tag l c1 c2 room valid mode before count => ?tcst⟩
  case handoff =>
    obtain rfl : outcome = x.markOutcome c1 c2 := funext fun m => funext (judged m)
    exact markHandoff_eq x c1 c2
  case tcst =>
    have after : (s.handAnchored c2).timeline.countAt s.ring.p = c2 :=
      countAt_anchor (by rw [handAnchored_timeline]) (by rw [handAnchored_timeline, count]; exact labelCount_lt_day valid)
    have handed : (s.handAnchored c2).markHandoff c1 c2 = if c1 = c2 then s.handAnchored c2
        else s.markOutcome c1 c2 .stop (s.markOutcome c1 c2 .start (s.handAnchored c2)) := by
      have judged (m : MarkName) (y : State) : (s.handAnchored c2).markOutcome c1 c2 m y = s.markOutcome c1 c2 m y :=
        markOutcome_congr (handAnchored_mark s c2 m) (by rw [handAnchored_timeline]) (handAnchored_ring s c2)
      rw [markHandoff_eq, judged, judged]
    refine ⟨s.handAnchored c2, (s.handAnchored c2).markHandoff c1 c2, ?_, handAnchored_eq s c2, handAnchored_inside,
      fun same => ?_, fun moved start stop => ?_, fun m other single moved armed unarmed => ?_, fun moved both => ?_,
      fun outcome judged moved => ?_⟩
    · rw [exec_tcst_taken room valid mode count, after, before]
    · rw [handed, if_pos same]
    · rw [handed, if_neg moved, markOutcome_unarmed stop, markOutcome_unarmed start]
    · have one : (s.handAnchored c2).markHandoff c1 c2 = s.markOutcome c1 c2 m (s.handAnchored c2) := by
        rw [handed, if_neg moved]
        cases m <;> cases other
        · exact absurd rfl single
        · rw [markOutcome_unarmed unarmed]
        · rw [markOutcome_unarmed (y := s.handAnchored c2) unarmed]
        · exact absurd rfl single
      rw [one]
      refine ⟨markOutcome_landed armed, fun missed ahead past space => ?_, markOutcome_kept armed⟩
      rw [markOutcome_skipped armed missed ahead past, notify_room _ (show NoticeRoom ((s.handAnchored c2).disarm m) from space)]
      have mark := handAnchored_mark s c2 m
      cases m
      · rw [← show (s.handAnchored c2).takes.startMark = s.takes.startMark from mark]
        rfl
      · rw [← show (s.handAnchored c2).takes.stopMark = s.takes.stopMark from mark]
        rfl
    · rw [handed, if_neg moved, markOutcome_landed (both .stop).1 (both .stop).2, markOutcome_landed (both .start).1 (both .start).2]
    · obtain rfl : outcome = s.markOutcome c1 c2 := funext fun m => funext (judged m)
      rw [handed, if_neg moved]

end Sys2Proof.Machine
end

section
/-! SUPPORT. The bytes of a sample (R119, R120); and what is due on an empty queue, with the tick where nothing is (log entry
3). -/

namespace Sys2Proof.Machine

/-! ## The bytes of a sample (R119, R120) -/

/-- Each byte of a word in two's complement is the byte of its value shifted down to it. -/
theorem ofInt_toInt_div {w : Nat} (x : BitVec w) {k : Nat} (inside : k + 8 ≤ w) :
    BitVec.ofInt 8 (x.toInt / 2 ^ k) = x.extractLsb' k 8 := by
  have shifted : x.toInt / 2 ^ k = (x.sshiftRight k).toInt := by
    rw [BitVec.toInt_sshiftRight, Int.shiftRight_eq_div_pow]
    rfl
  rw [shifted]
  show (x.sshiftRight k).signExtend 8 = _
  ext i low
  rw [← BitVec.getLsbD_eq_getElem, ← BitVec.getLsbD_eq_getElem, BitVec.getLsbD_signExtend, BitVec.getLsbD_sshiftRight,
    BitVec.getLsbD_extractLsb']
  simp only [low, decide_true, Bool.true_and, if_pos (show i < w by omega), if_pos (show k + i < w by omega),
    decide_eq_false (show ¬w ≤ i by omega), Bool.not_false]

theorem lowFirstBytes_three (x : BitVec 24) :
    lowFirstBytes 3 x.toInt = [x.extractLsb' 0 8, x.extractLsb' 8 8, x.extractLsb' 16 8] := by
  rw [← ofInt_toInt_div x (k := 0) (by decide), ← ofInt_toInt_div x (k := 8) (by decide),
    ← ofInt_toInt_div x (k := 16) (by decide)]
  simp only [lowFirstBytes, Int.ediv_ediv_of_nonneg (show (0 : Int) ≤ 256 by decide)]
  norm_num

theorem lowFirstBytes_two (y : BitVec 16) : lowFirstBytes 2 y.toInt = [y.extractLsb' 0 8, y.extractLsb' 8 8] := by
  rw [← ofInt_toInt_div y (k := 0) (by decide), ← ofInt_toInt_div y (k := 8) (by decide)]
  simp only [lowFirstBytes]
  norm_num

/-- The narrowed value of a sample is a 16-bit one (R119). -/
theorem narrow16_word (x : Sample) : (BitVec.ofInt 16 (narrow16 x)).toInt = narrow16 x := by
  have low := x.le_toInt
  have high : x.toInt < _ := x.toInt_lt
  refine BitVec.toInt_ofInt_eq_self (by decide) ?_ ?_ <;> unfold narrow16 <;> omega

/-- Settles O42: a word's bytes are those of its value in two's complement, and the narrowed value is a word of 16 bits. -/
theorem sampleBytesCarryTheSample : Obligations.SampleBytesCarryTheSample := by
  unfold Obligations.SampleBytesCarryTheSample
  intro x
  have narrow : lowFirstBytes 2 (narrow16 x) = _ := narrow16_word x ▸ lowFirstBytes_two (BitVec.ofInt 16 (narrow16 x))
  refine ⟨lowFirstBytes_three x, congrArg List.reverse (lowFirstBytes_three x), BitVec.ofInt 16 (narrow16 x),
    narrow16_word x, narrow, congrArg List.reverse narrow⟩

/-! ## What is due (log entry 3) -/

/-- The first due command of a list of conditions and commands. -/
theorem head?_flatMap_dueIf (l : List (Bool × Instr)) :
    (l.flatMap fun c => dueIf c.1 c.2).head? = (l.find? fun c => c.1).map fun c => c.2 := by
  induction l with
  | nil => rfl
  | cons c l ih =>
    obtain ⟨holds, i⟩ := c
    cases holds with
    | true => rfl
    | false => exact ih

section
variable (s : State)

theorem channel_clipOver_eq (c : Channel) : c.clipOver = decide (c.clip = true ∧ 4800 ≤ c.quiet) := by
  simp [Channel.clipOver]

theorem bus_clipOver_eq (b : MixBus) : b.clipOver = decide (b.clip = true ∧ 4800 ≤ b.quiet) := by
  simp [MixBus.clipOver]

theorem tailDue_isSome : s.tailDue.isSome = (decide (s.takes.state = .tail)
    && s.openRecord?.any fun r => r.endTarget.any fun e => decide (e ≤ s.ring.p)) := by
  unfold State.tailDue
  cases s.takes.state with
  | stopped => rfl
  | rolling => rfl
  | tail =>
    cases s.openRecord? with
    | none => rfl
    | some r =>
      cases target : r.endTarget with
      | none => simp [target]
      | some e => by_cases reached : e ≤ s.ring.p <;> simp [target, reached]

theorem limitDue_isSome : s.limitDue.isSome = (decide (s.takes.state = .rolling ∧ s.takes.caps.maxLength ≠ 0)
    && s.openRecord?.any fun r => decide (r.roll + s.takes.caps.maxLength ≤ s.ring.p)) := by
  unfold State.limitDue
  cases s.takes.state with
  | stopped => rfl
  | tail => rfl
  | rolling =>
    cases s.openRecord? with
    | none => simp
    | some r =>
      by_cases unset : s.takes.caps.maxLength = 0
      · simp [unset]
      · by_cases reached : r.roll + s.takes.caps.maxLength ≤ s.ring.p <;> simp [unset, reached]

theorem isDueFinal_eq (r : TakeRecord) : s.isDueFinal r = (decide (r.state = .closed ∧ r.id ∉ s.delivery.list)
    && r.windowEnd.any fun w => decide (w ≤ s.ring.p)) := by
  unfold State.isDueFinal
  cases r.windowEnd <;> simp [beq_eq_decide]

theorem finalDue_nonempty : (!s.finalDue.isEmpty) = s.takes.table.any fun r =>
    decide (r.state = .closed ∧ r.id ∉ s.delivery.list) && r.windowEnd.any fun w => decide (w ≤ s.ring.p) := by
  rw [funext fun r => (isDueFinal_eq s r).symm, State.finalDue, List.isEmpty_map, Bool.eq_iff_iff]
  simp

theorem lossDue_eq : s.lossDue = decide ((s.timeline.ref = .locked ∨ s.timeline.ref = .verifying)
    ∧ 2 * ((s.timeline.rate.num + s.timeline.rate.den - 1) / s.timeline.rate.den) ≤ s.timeline.loss) := by
  rw [Bool.eq_iff_iff, lossDue_iff, decide_eq_true_iff]

theorem lineFree_eq (l : Link) : l.lineFree = (l.tx.all (fun f => decide (f.bytes.length ≤ l.txTimer.count))
    && (l.tx.isSome || decide (l.replies ≠ [] ∨ l.notices ≠ []))) := by
  have waiting : (decide (l.replies ≠ [] ∨ l.notices ≠ [])) = (!l.replies.isEmpty || !l.notices.isEmpty) := by
    cases l.replies <;> cases l.notices <;> simp
  unfold Link.lineFree Link.sending
  rw [waiting, Bool.or_assoc]
  cases l.tx with
  | none => rfl
  | some f =>
    have sent : (!decide (l.txTimer.count < f.bytes.length)) = decide (f.bytes.length ≤ l.txTimer.count) := by
      rw [← decide_not]
      exact decide_eq_decide.2 Nat.not_lt
    dsimp only
    rw [sent]
    rfl

theorem timerRuns_eq (x : DrainState) :
    x.timerRuns = decide (x.settings.enabled = true ∧ (x.hold = true ∨ x.linkUp = false)) := by
  simp [DrainState.timerRuns]

theorem stallDue_eq (x : DrainState) : x.stallDue = decide (x.settings.enabled = true ∧ (x.hold = true ∨ x.linkUp = false)
    ∧ x.stalled = false ∧ x.settings.holdTimeout * 1000 ≤ x.timer.count) := by
  simp [DrainState.stallDue, DrainState.timerRuns, DrainState.timerLimit, Bool.and_assoc]
  rfl

theorem syncDue_eq (i : Inputs) : i.syncDue = decide (i.sync = .synced ∧ 4 ≤ i.syncTimer.count) := by
  simp [Inputs.syncDue]

theorem reportDue_eq (i : Inputs) :
    i.reportDue = decide (i.reportPeriod ≠ 0 ∧ i.reportPeriod ≤ i.reportTimer.count) := by
  simp [Inputs.reportDue]

theorem idleRuns_eq (x : NoteRx) :
    x.idleRuns = decide (x.line = .opened ∧ x.receiving = false ∧ x.lineHigh = true) := by
  simp [NoteRx.idleRuns, Bool.and_assoc]

theorem idleDue_eq (x : NoteRx) : (x.idleRuns && decide (44 ≤ x.idleTimer.count)) =
    decide (x.line = .opened ∧ x.receiving = false ∧ x.lineHigh = true ∧ 44 ≤ x.idleTimer.count) := by
  simp [idleRuns_eq, Bool.and_assoc]

theorem silenceDue_eq (l : Link) : l.silenceDue = decide (l.rx ≠ .hunt ∧ 200 < l.silenceTimer.count) := by
  simp [Link.silenceDue, Nat.lt_iff_add_one_le]

theorem completed_nonempty (x : NoteRx) : (!x.completed.isEmpty) = decide (x.completed ≠ []) := by
  cases x.completed <;> simp

end

/-- A running timer short of its limit goes on by one tick; any other stays. -/
theorem tickIf_eq (runs : Bool) (unit limit : Nat) (x : Timer) : x.tickIf runs unit limit =
    if runs = true ∧ x.count < limit then
      (if x.frac + 1 < unit then { x with frac := x.frac + 1 } else { count := x.count + 1, frac := 0 })
    else x := by
  cases runs with
  | false => rfl
  | true => simp [Timer.tickIf, Timer.advance]

/-- With nothing queued a step runs what is due (log entry 3). -/
theorem step_due {s : State} {c : Instr} (empty : s.pending = []) (due : s.dueCommand = some c) : step s = exec c s := by
  rw [step, empty]
  dsimp only
  rw [idleStep, due]

/-- Settles O2: the conditions of the list are the model's, in its order, and a tick is one advance of each running timer. -/
theorem idleStepRunsWhatIsDueOrTicks : Obligations.IdleStepRunsWhatIsDueOrTicks := by
  unfold Obligations.IdleStepRunsWhatIsDueOrTicks
  refine ⟨fun s ended due clips stalls => ?due, fun s ticked empty advances => ⟨fun c due => step_due empty due,
    fun quiet => ⟨s.tick, step_tick empty quiet, rfl, ?_⟩⟩⟩
  case due =>
    rw [← head?_flatMap_dueIf, State.dueCommand, clips, stalls .a, stalls .b]
    simp only [← channel_clipOver_eq, ← bus_clipOver_eq, ← tailDue_isSome, ← limitDue_isSome, ← finalDue_nonempty,
      ← lossDue_eq, ← completed_nonempty, ← lineFree_eq, ← syncDue_eq, ← stallDue_eq, ← reportDue_eq, ← idleDue_eq,
      ← silenceDue_eq, List.flatMap_append, List.flatMap_map, List.flatMap_cons, List.flatMap_nil, List.append_nil]
    simp only [State.advanceCommands, State.otherCommands, List.append_assoc]
    rfl
  · have eq (runs unit limit x) : ticked runs unit limit x = x.tickIf runs unit limit :=
      (advances runs unit limit x).trans (tickIf_eq runs unit limit x).symm
    simp only [eq, ← timerRuns_eq, ← idleRuns_eq]
    refine ⟨rfl, rfl, rfl, rfl, fun d => ?_, fun f going => ?_⟩
    · cases d <;> rfl
    · show (match s.link.tx with | some f => _ | none => _) = _
      rw [going]
      rfl

end Sys2Proof.Machine
end

section
/-! SUPPORT. A drain without a block in flight is tested for DONE and the list is swept (R117): what that leaves of the take,
of the others, of the drains and of the notice queue, said once. -/

namespace Sys2Proof.Machine

/-! ## The notices of the bookkeeping -/

/-- Every notice queued from `s` to `t` is a FINL. -/
def OnlyFinals (s t : State) : Prop :=
  ∃ new, t.link.notices = s.link.notices ++ new ∧ ∀ n ∈ new, n.notice.noticeKind = .finl

theorem OnlyFinals.of_link {s t : State} (same : t.link.notices = s.link.notices) : OnlyFinals s t :=
  ⟨[], same.trans (List.append_nil _).symm, fun _ among => absurd among List.not_mem_nil⟩

theorem OnlyFinals.trans {s t u : State} (h : OnlyFinals s t) (k : OnlyFinals t u) : OnlyFinals s u := by
  obtain ⟨new, grown, finals⟩ := h
  obtain ⟨more, grown', finals'⟩ := k
  refine ⟨new ++ more, by rw [grown', grown, List.append_assoc], fun n among => ?_⟩
  exact (List.mem_append.1 among).elim (finals n) (finals' n)

theorem onlyFinals_notify (s : State) {n : Notice} (finl : n.noticeKind = .finl) : OnlyFinals s (s.notify n) := by
  by_cases room : NoticeRoom s
  · rw [notify_room n room]
    refine ⟨_, rfl, fun m among => ?_⟩
    rw [List.mem_singleton.1 among]
    exact finl
  · rw [notify_full n room]
    exact .of_link rfl

theorem onlyFinals_makeFinal (s : State) (id : Nat) (early : Bool) : OnlyFinals s (s.makeFinal id early) := by
  have settled : OnlyFinals s (((s.settleOn id .a).settleOn id .b).updRecord id fun r =>
      { r with state := .final, earlyFinal := r.earlyFinal || early }) :=
    .of_link (by rw [updRecord_link, settleOn_link, settleOn_link])
  unfold State.makeFinal
  dsimp only
  split
  · exact settled.trans (onlyFinals_notify _ rfl)
  · exact settled

theorem onlyFinals_finalTest (s : State) (id : Nat) : OnlyFinals s (s.finalTest id) := by
  unfold State.finalTest
  split
  · split
    · exact onlyFinals_makeFinal ..
    · exact .of_link rfl
  · exact .of_link rfl

theorem onlyFinals_runAll {α : Type} (f : α → State → State) (hf : ∀ x s, OnlyFinals s (f x s)) (xs : List α) (s : State) :
    OnlyFinals s (runAll f xs s) := by
  induction xs generalizing s with
  | nil => exact .of_link rfl
  | cons x xs ih => exact (hf x s).trans (ih _)

theorem onlyFinals_sweepList (s : State) : OnlyFinals s s.sweepList := by
  have swept : OnlyFinals s s.swept :=
    (OnlyFinals.of_link rfl).trans (onlyFinals_runAll _ (fun id s => onlyFinals_finalTest s id) _ _)
  refine swept.trans (.of_link ?_)
  rw [sweepList_eq, activate_eq]
  rfl

theorem testDone_link (s : State) (id : Nat) (d : Drain) : (s.testDone id d).link = s.link := by
  unfold State.testDone
  split
  · rfl
  · split <;> rfl

theorem onlyFinals_settleDone (s : State) (id : Nat) (d : Drain) : OnlyFinals s (s.settleDone id d) :=
  (OnlyFinals.of_link (by rw [testDone_link])).trans (onlyFinals_sweepList _)

/-! ## The test for DONE and the sweep on an idle drain (R117) -/

theorem testDone_delivery (s : State) (id : Nat) (d : Drain) : (s.testDone id d).delivery = s.delivery := by
  unfold State.testDone
  split
  · rfl
  · split <;> rfl

theorem testDone_other (s : State) {id j : Nat} (d : Drain) (other : j ≠ id) :
    (s.testDone id d).record? j = s.record? j := by
  unfold State.testDone
  split
  · rfl
  · split
    · exact record?_updRecord_other (fun _ => rfl) other
    · rfl

/-- A section that the test for DONE finds ended on an idle drain, or left as it is. -/
def Section.doneWhere (x : Section) (ended : Prop) [Decidable ended] : Section :=
  if ended then { x with state := .done } else x

theorem doneWhere_left {x : Section} {ended : Prop} [Decidable ended] (short : ¬ended) : x.doneWhere ended = x :=
  if_neg short

/-- A section of a closed take with nothing left to form (R117). -/
abbrev Ended (p : TakeRecord) (d : Drain) : Prop :=
  p.state ≠ .opened ∧ (p.sections.get d).live = true ∧ p.endPos = some (p.sections.get d).formation

theorem doneWhere_eq (x : Section) (ended : Prop) [Decidable ended] :
    x.doneWhere ended = { x with state := (x.doneWhere ended).state } := by
  unfold Section.doneWhere
  split <;> rfl

theorem testDone_record? {u : State} {id : Nat} {d : Drain} {p : TakeRecord} (found : u.record? id = some p)
    (idle : (u.drain d).inFlight = none) : (u.testDone id d).record? id =
      some { p with sections := p.sections.modify d fun x => x.doneWhere (Ended p d) } := by
  by_cases ended : Ended p d
  · rw [testDone_done found idle ended.1 ended.2.1 ended.2.2]
    simp only [Section.doneWhere, if_pos ended]
    exact record?_updRecord_same (f := fun r => { r with sections := r.sections.modify d _ }) (fun _ => rfl) found
  · have left : u.testDone id d = u := by
      unfold State.testDone
      rw [found]
      exact if_neg fun h => ended ⟨h.1, h.2.1, h.2.2.1⟩
    rw [left, found]
    simp only [Section.doneWhere, if_neg ended]
    cases d <;> rfl

/-- From `u` to `t` the take `id`, which stands as `p`, has been tested for DONE on the idle drain `d` and the list has been
swept; the take then stands as `q` (R109, R111, R117). -/
structure DoneSettled (u t : State) (id : Nat) (d : Drain) (p q : TakeRecord) : Prop where
  found : t.record? id = some q
  same : q = { p with state := q.state, sections := q.sections }
  tested : q.sections.get d = { p.sections.get d with state := (q.sections.get d).state }
  done : Ended p d → (q.sections.get d).state = .done
  left : ¬Ended p d → q.sections.get d = (p.movedOn t).sections.get d
  other : ∀ e, e ≠ d → (p.sections.get e).live = true ∨ (u.drain e).inFlight = none →
    q.sections.get e = (p.movedOn t).sections.get e
  drains : ∀ e, (u.drain e).inFlight = none → t.drain e = u.drain e
  others : OthersMovedOn u t id
  swept : ListSwept u t
  sweeps : Sweeps u t
  finals : OnlyFinals u t

theorem doneSettled_settleDone {u : State} {id : Nat} {d : Drain} {p : TakeRecord} (found : u.record? id = some p)
    (idle : (u.drain d).inFlight = none) : ∃ q, DoneSettled u (u.settleDone id d) id d p q := by
  have delivery := testDone_delivery u id d
  have drain (e : Drain) : (u.testDone id d).drain e = u.drain e := by rw [State.drain, delivery, State.drain]
  have record := testDone_record? found idle
  obtain ⟨q, after, follows⟩ := sweepList_record? (u.testDone id d) record
  have sweeps := sweeps_settleDone u id d
  have moves (r : TakeRecord) : r.movedOn (u.testDone id d) = r.movedOn (u.settleDone id d) :=
    record_movedOn_congr (fun e => (sweepList_currentTake _ e).symm) r
  have tested := sweepList_section_idle (u.testDone id d) record after ((congrArg _ (drain d)).trans idle)
  rw [movedOn_sections, PerDrain.get_modify_same] at tested
  refine ⟨q, after, by rw [follows.same]; rfl, ?tested, ?done, ?left, ?other, fun e => sweeps.drain_idle,
    othersMovedOn_sweepList (congrArg _ delivery) (fun j other => testDone_other u d other),
    listSwept_sweepList (congrArg _ delivery), sweeps, onlyFinals_settleDone u id d⟩
  case tested =>
    rw [tested, Section.movedOn, doneWhere_eq]
  case done =>
    intro ended
    rw [tested, Section.doneWhere, if_pos ended]
    rfl
  case left =>
    intro short
    rw [tested, doneWhere_left short, ← moves, movedOn_sections]
  case other =>
    intro e other kept
    have same : (p.sections.modify d fun x => x.doneWhere (Ended p d)).get e = p.sections.get e :=
      PerDrain.get_modify_other _ _ _ _ other
    rw [← moves, movedOn_sections, ← same]
    rcases kept with live | calm
    · have live : TakeRecord.live { p with sections := p.sections.modify d fun x => x.doneWhere (Ended p d) } = true :=
        live_of_section (d := e) ((congrArg _ same).trans live)
      rw [Option.some.inj (after.symm.trans (sweepList_record?_live record live)), movedOn_sections, sweepList_currentTake]
    · rw [sweepList_section_idle (u.testDone id d) record after ((congrArg _ (drain e)).trans calm), movedOn_sections]

/-! ## A change of one take's section before the sweep -/

section
variable {s u t : State} {id : Nat}

theorem OthersMovedOn.of_others (h : OthersMovedOn u t id) (list : u.delivery.list = s.delivery.list)
    (others : ∀ j, j ≠ id → u.record? j = s.record? j) : OthersMovedOn s t id := by
  intro p other found
  obtain ⟨q, after, same, kept⟩ := h p other ((others _ other).trans found)
  exact ⟨q, after, same, fun live => kept (live.imp_right fun unlisted => by rwa [list])⟩

theorem ListSwept.of_list (h : ListSwept u t) (list : u.delivery.list = s.delivery.list) : ListSwept s t := by
  intro id
  rw [h id, list]

end

/-- What DONE and the sweep leave on the drain that has been tested: the state of the section alone. -/
theorem DoneSettled.state_left {u t : State} {id : Nat} {d : Drain} {p q : TakeRecord} (h : DoneSettled u t id d p q)
    (short : (p.sections.get d).live = false ∨ p.state = .opened ∨ p.endPos ≠ some (p.sections.get d).formation) :
    (q.sections.get d).state = ((p.movedOn t).sections.get d).state := by
  rw [h.left]
  rintro ⟨closed, live, reached⟩
  rcases short with dead | opened | elsewhere
  · exact Bool.false_ne_true (dead.symm.trans live)
  · exact closed opened
  · exact elsewhere reached

/-! ## Completions (R121) -/

section
variable {s : State} {d : Drain} {b : Block} {r : TakeRecord}

/-- The machine with a completed block counted in its section, before the test for DONE (R121 step 1). -/
def State.blockCounted (s : State) (d : Drain) (b : Block) : State :=
  (s.updSection b.header.takeId d fun x => x.complete b.header.count).modDrain d fun x => { x with inFlight := none }

theorem takeCompletion_counted (flight : (s.drain d).inFlight = some b) (unsettled : b.settled = false)
    (found : s.record? b.header.takeId = some r) :
    s.takeCompletion d = (s.blockCounted d b).settleDone b.header.takeId d := by
  unfold State.takeCompletion State.countsInSection
  rw [flight]
  dsimp only
  rw [if_pos (by rw [unsettled, found]; rfl)]
  rfl

theorem takeCompletion_late (flight : (s.drain d).inFlight = some b)
    (late : b.settled = true ∨ s.record? b.header.takeId = none) :
    s.takeCompletion d = s.modDrain d fun x => { x.completeLate b.header.count with inFlight := none } := by
  unfold State.takeCompletion State.countsInSection
  rw [flight]
  dsimp only
  refine if_neg ?_
  rcases late with settled | gone
  · rw [settled]
    nofun
  · rw [gone, Option.isSome_none, Bool.and_false]
    nofun

theorem blockCounted_record? (found : s.record? b.header.takeId = some r) :
    (s.blockCounted d b).record? b.header.takeId =
      some { r with sections := r.sections.modify d fun x => x.complete b.header.count } :=
  record?_updRecord_same (f := fun r => { r with sections := r.sections.modify d _ }) (fun _ => rfl) found

theorem blockCounted_other {j : Nat} (other : j ≠ b.header.takeId) : (s.blockCounted d b).record? j = s.record? j :=
  record?_updRecord_other (f := fun r => { r with sections := r.sections.modify d _ }) (fun _ => rfl) other

theorem blockCounted_drain : (s.blockCounted d b).drain d = { s.drain d with inFlight := none } :=
  State.drain_modDrain_same ..

theorem blockCounted_drain_other {e : Drain} (other : e ≠ d) : (s.blockCounted d b).drain e = s.drain e :=
  State.drain_modDrain_other (h := other) ..

end

/-- Settles O43: a counted block is a change of one section and one drain, followed by the test for DONE on a drain that is then
idle; a late one is a change of the drain alone. -/
theorem completionCountsTheBlock : Obligations.CompletionCountsTheBlock := by
  unfold Obligations.CompletionCountsTheBlock
  intro s d
  refine ⟨fun idle => ?none, fun b r flight unsettled found => ?counted, fun b flight late => ?late⟩
  case none =>
    refine congrArg Host.Outcome.next ?_
    unfold State.takeCompletion
    rw [idle]
  case late =>
    refine ⟨_, rfl, ?_⟩
    rw [takeCompletion_late flight late]
    exact ⟨State.drain_modDrain_same .., fun o other => State.drain_modDrain_other (h := other) .., rfl, rfl⟩
  case counted =>
    have record := blockCounted_record? (d := d) found
    have idle : ((s.blockCounted d b).drain d).inFlight = none := by rw [blockCounted_drain]
    have section_d : (r.sections.modify d fun x => x.complete b.header.count).get d =
        (r.sections.get d).complete b.header.count := PerDrain.get_modify_same ..
    have held : r.id = b.header.takeId := record?_id found
    obtain ⟨q, h⟩ := doneSettled_settleDone record idle
    have drains (e : Drain) (other : e ≠ d) : (s.blockCounted d b).drain e = s.drain e := blockCounted_drain_other other
    have drain := h.drains d idle
    rw [blockCounted_drain] at drain
    refine ⟨_, q, congrArg Host.Outcome.next (takeCompletion_counted flight unsettled found), by rw [drain], drain, h.found,
      h.same, ?cell, fun live closed reached => h.done ?ended, fun short => ?state, fun e other kept => ?sections,
      fun e other idle => ?drains, ?others, h.swept.of_list rfl, h.sweeps.eq⟩
    case others =>
      rw [held]
      exact h.others.of_others (s := s) rfl fun j => blockCounted_other
    case cell =>
      exact h.tested.trans (by rw [section_d]; rfl)
    case ended =>
      refine ⟨closed, ?_, ?_⟩
      · rw [section_d]
        exact live
      · rw [section_d]
        exact reached
    case state =>
      rw [h.state_left (by rw [section_d]; exact short), movedOn_sections, movedOn_sections, section_d]
      rfl
    case sections =>
      have same : (r.sections.modify d fun x => x.complete b.header.count).get e = r.sections.get e :=
        PerDrain.get_modify_other _ _ _ _ other
      rw [h.other e other (by rwa [same, drains e other]), movedOn_sections, movedOn_sections, same]
    case drains =>
      rw [← drains e other]
      exact h.drains e (by rwa [drains e other])

end Sys2Proof.Machine
end

section
/-! The drain ports' flags, timers and stalls (R123 to R125), and O44. -/

namespace Sys2Proof.Machine

section
variable {s : State} {d : Drain}

theorem modDrain_left {f : DrainState → DrainState} (same : f (s.drain d) = s.drain d) : s.modDrain d f = s := by
  cases d
  · exact congrArg (fun x => { s with delivery := { s.delivery with drains := { s.delivery.drains with a := x } } }) same
  · exact congrArg (fun x => { s with delivery := { s.delivery with drains := { s.delivery.drains with b := x } } }) same

/-! ## The stall (R125, R131) -/

theorem reachStall_again (stalled : (s.drain d).stalled = true) :
    s.reachStall d = s.modDrain d fun x => { x with timer := { count := x.settings.holdTimeout * 1000, frac := 0 } } :=
  if_pos stalled

theorem reachStall_first (going : (s.drain d).stalled = false) : s.reachStall d =
    (((s.modDrain d fun x => { x with timer := { count := x.settings.holdTimeout * 1000, frac := 0 } }).modDrain d fun x =>
        { x with stalled := true }).raise .drainStalled).notify
      (.drne d .stalled ((s.currentTake d).getD 0) s.ring.p 0 (if (s.drain d).linkUp = true then .held else .linkDown)
        (s.drain d).settings.holdTimeout) :=
  if_neg (by rw [going]; nofun)

/-- The drain at a stall, the first of a spell or not. -/
theorem reachStall_drain : (s.reachStall d).drain d = { s.drain d with
    stalled := true, timer := { count := (s.drain d).settings.holdTimeout * 1000, frac := 0 } } := by
  cases stalled : (s.drain d).stalled with
  | true =>
    rw [reachStall_again stalled, State.drain_modDrain_same, ← stalled]
  | false =>
    rw [reachStall_first stalled]
    refine (State.drain_modDrain_same ..).trans ?_
    rw [State.drain_modDrain_same]

theorem reachStall_drain_other {e : Drain} (other : e ≠ d) : (s.reachStall d).drain e = s.drain e := by
  cases stalled : (s.drain d).stalled with
  | true =>
    rw [reachStall_again stalled, State.drain_modDrain_other (h := other)]
  | false =>
    rw [reachStall_first stalled]
    refine (State.drain_modDrain_other (h := other) ..).trans ?_
    rw [State.drain_modDrain_other (h := other)]

theorem reachStall_list : (s.reachStall d).delivery.list = s.delivery.list := by
  cases stalled : (s.drain d).stalled with
  | true => rw [reachStall_again stalled]; rfl
  | false => rw [reachStall_first stalled]; rfl

theorem reachStall_eq : s.reachStall d = { s with link := (s.reachStall d).link, delivery := (s.reachStall d).delivery } := by
  cases stalled : (s.drain d).stalled with
  | true => rw [reachStall_again stalled]; rfl
  | false => rw [reachStall_first stalled]; rfl

theorem reachStall_link_again (stalled : (s.drain d).stalled = true) : (s.reachStall d).link = s.link := by
  rw [reachStall_again stalled]
  rfl

theorem reachStall_link_first (going : (s.drain d).stalled = false) (room : NoticeRoom s) :
    (s.reachStall d).link = { noticed s.link
      (.drne d .stalled ((s.currentTake d).getD 0) s.ring.p 0 (if (s.drain d).linkUp = true then .held else .linkDown)
        (s.drain d).settings.holdTimeout) with conds := { s.link.conds with drainStalled := true } } := by
  rw [reachStall_first going, notify_room _ (by exact room)]
  rfl

end

/-- Settles O44: each event is a change of one drain, and the stall is said once for every state. -/
theorem portEventsChangeTheDrain : Obligations.PortEventsChangeTheDrain := by
  unfold Obligations.PortEventsChangeTheDrain
  have leaves {s : State} {d : Drain} {f : DrainState → DrainState} (same : f (s.drain d) = s.drain d) :
      (Host.Outcome.next (s.modDrain d f) : Done) = .next s := congrArg _ (modDrain_left same)
  have other (s : State) (d : Drain) (f : DrainState → DrainState) :
      (s.modDrain d f).drain (match d with | .a => .b | .b => .a) = s.drain (match d with | .a => .b | .b => .a) := by
    cases d <;> rfl
  refine ⟨fun s d => ⟨fun ignored => leaves ?_, fun enabled going => ⟨_, rfl, rfl, other .., rfl, ?_⟩,
    fun ignored => leaves ?_, fun enabled held => ⟨_, rfl, rfl, other .., rfl, ?_⟩,
    fun down => ⟨_, rfl, rfl, other .., rfl, ?_⟩⟩, fun s d => ⟨fun stopped => ?_, fun enabled held => ?_⟩⟩
  · unfold DrainState.takeHold
    exact if_neg fun h => ignored.elim (by rw [h.1]; nofun) (by rw [h.2]; nofun)
  · rw [State.drain_modDrain_same, DrainState.takeHold, if_pos ⟨enabled, going⟩]
    rfl
  · unfold DrainState.takeGo
    exact if_neg fun h => ignored.elim (by rw [h.1]; nofun) (by rw [h.2]; nofun)
  · rw [State.drain_modDrain_same, DrainState.takeGo, if_pos ⟨enabled, held⟩]
    rfl
  · rw [State.drain_modDrain_same, DrainState.takeLinkUp, if_neg (by rw [down]; nofun)]
    rfl
  · refine congrArg Host.Outcome.next (if_neg ?_)
    rw [timerRuns_eq, decide_eq_true_eq]
    rintro ⟨enabled, spell⟩
    rcases stopped with disabled | ⟨free, up⟩
    · exact Bool.false_ne_true (disabled.symm.trans enabled)
    · rw [free, up] at spell
      exact spell.elim nofun nofun
  · have stalls : s.takeStall d = s.reachStall d := if_pos (by rw [timerRuns_eq]; exact decide_eq_true ⟨enabled, held⟩)
    exact ⟨_, congrArg Host.Outcome.next stalls, reachStall_drain, fun x other => reachStall_drain_other other,
      reachStall_list, reachStall_link_again, reachStall_link_first, reachStall_eq⟩

end Sys2Proof.Machine
end

section
/-! The link-down and the block in flight that it aborts (R122, R124), and O46. -/

namespace Sys2Proof.Machine

section
variable {s : State} {d : Drain}

/-! ## The gap episode test (R128) -/

section
variable (takeId pos offset : Nat) (reason : DrneReason)

theorem gapEpisodeTest_again (set : (s.drain d).gapEpisode = true) :
    s.gapEpisodeTest d takeId pos offset reason = s := if_pos set

theorem gapEpisodeTest_new (clear : (s.drain d).gapEpisode = false) :
    s.gapEpisodeTest d takeId pos offset reason =
      ((s.modDrain d fun x => { x with gapEpisode := true }).raise .deliveryGap).notify
        (.drne d .gap takeId pos offset reason (s.drain d).settings.holdTimeout) :=
  if_neg (by rw [clear]; nofun)

theorem gapEpisodeTest_drain :
    (s.gapEpisodeTest d takeId pos offset reason).drain d = { s.drain d with gapEpisode := true } := by
  cases flag : (s.drain d).gapEpisode with
  | true => rw [gapEpisodeTest_again (set := flag), ← flag]
  | false =>
    rw [gapEpisodeTest_new (clear := flag)]
    exact State.drain_modDrain_same ..

theorem gapEpisodeTest_drain_other {e : Drain} (other : e ≠ d) :
    (s.gapEpisodeTest d takeId pos offset reason).drain e = s.drain e := by
  cases flag : (s.drain d).gapEpisode with
  | true => rw [gapEpisodeTest_again (set := flag)]
  | false =>
    rw [gapEpisodeTest_new (clear := flag)]
    exact State.drain_modDrain_other (h := other) ..

theorem gapEpisodeTest_eq : s.gapEpisodeTest d takeId pos offset reason =
    { s with link := (s.gapEpisodeTest d takeId pos offset reason).link
             delivery := (s.gapEpisodeTest d takeId pos offset reason).delivery } := by
  cases flag : (s.drain d).gapEpisode with
  | true => rw [gapEpisodeTest_again (set := flag)]
  | false => rw [gapEpisodeTest_new (clear := flag)]; rfl

theorem notify_deliveryGap (s : State) (n : Notice) : (s.notify n).link.conds.deliveryGap = s.link.conds.deliveryGap := by
  by_cases room : NoticeRoom s
  · rw [notify_room n room]
    rfl
  · rw [notify_full n room]

theorem gapEpisodeTest_deliveryGap (clear : (s.drain d).gapEpisode = false) :
    (s.gapEpisodeTest d takeId pos offset reason).link.conds.deliveryGap = true := by
  rw [gapEpisodeTest_new (clear := clear), notify_deliveryGap]
  rfl

theorem gapEpisodeTest_notices (clear : (s.drain d).gapEpisode = false) (room : NoticeRoom s) :
    (s.gapEpisodeTest d takeId pos offset reason).link.notices = s.link.notices ++ [{
      seq := s.link.nextSeq
      notice := .drne d .gap takeId pos offset reason (s.drain d).settings.holdTimeout }] := by
  rw [gapEpisodeTest_new (clear := clear), notify_room _ (by exact room)]
  rfl

end

/-! ## The machine before the test for DONE -/

/-- The port at a link-down, its block in flight taken off it. -/
def State.portDown (s : State) (d : Drain) : State :=
  (s.modDrain d DrainState.dropLink).modDrain d fun x => { x with inFlight := none }

/-- A section whose block in flight has been aborted: a settled block leaves it as it is (R122, R130). -/
def Section.abortedBy (x : Section) (b : Block) (o start : Nat) : Section :=
  if b.settled = true then x else x.abortLink b o start

/-- A link-down loses positions of the block for its section (R122). -/
def Section.loses (x : Section) (b : Block) (o : Nat) : Bool := !b.settled && x.abortLoses b o

/-- The machine with the aborted block accounted for in its section (R122). -/
def State.sectionAborted (s : State) (d : Drain) (b : Block) (r : TakeRecord) : State :=
  if b.settled = true then s.portDown d
  else (s.portDown d).updSection r.id d fun x => x.abortLink b s.oldest r.start

/-- The machine with the abort's gap reported, before the test for DONE (R122, R128). -/
def State.linkAborted (s : State) (d : Drain) (b : Block) (r : TakeRecord) : State :=
  if (r.sections.get d).loses b s.oldest = true then
    (s.sectionAborted d b r).gapEpisodeTest d r.id b.first (b.first - r.start) .abort
  else s.sectionAborted d b r

variable {b : Block} {r : TakeRecord}

theorem dropLink_inFlight : ((s.modDrain d DrainState.dropLink).drain d).inFlight = (s.drain d).inFlight := by
  rw [State.drain_modDrain_same]
  rfl

theorem takeLinkDown_idle (idle : (s.drain d).inFlight = none) : s.takeLinkDown d = s.modDrain d DrainState.dropLink := by
  unfold State.takeLinkDown State.abortForLink
  rw [dropLink_inFlight, idle]

theorem takeLinkDown_gone (flight : (s.drain d).inFlight = some b) (gone : s.record? b.header.takeId = none) :
    s.takeLinkDown d = s.portDown d := by
  unfold State.takeLinkDown State.abortForLink
  rw [dropLink_inFlight, flight]
  dsimp only
  rw [State.record?_modDrain, gone]
  rfl

theorem takeLinkDown_found (flight : (s.drain d).inFlight = some b) (found : s.record? b.header.takeId = some r) :
    s.takeLinkDown d = (s.linkAborted d b r).settleDone r.id d := by
  unfold State.takeLinkDown State.abortForLink State.linkAborted State.sectionAborted Section.loses
  rw [dropLink_inFlight, flight]
  dsimp only
  rw [State.record?_modDrain, found]
  have oldest : (s.modDrain d DrainState.dropLink).oldest = s.oldest := rfl
  rw [oldest]
  cases b.settled with
  | true => rfl
  | false =>
    cases loses : (r.sections.get d).abortLoses b s.oldest with
    | true => simp [loses, State.portDown]
    | false => simp [loses, State.portDown]

/-! ## What the abort leaves -/

theorem portDown_drain : (s.portDown d).drain d = { (s.drain d).dropLink with inFlight := none } := by
  rw [State.portDown, State.drain_modDrain_same, State.drain_modDrain_same]

theorem portDown_drain_other {e : Drain} (other : e ≠ d) : (s.portDown d).drain e = s.drain e := by
  rw [State.portDown, State.drain_modDrain_other (h := other), State.drain_modDrain_other (h := other)]

theorem sectionAborted_eq : s.sectionAborted d b r =
    { s with takes := (s.sectionAborted d b r).takes, delivery := (s.portDown d).delivery } := by
  unfold State.sectionAborted
  split <;> rfl

theorem sectionAborted_drain (e : Drain) : (s.sectionAborted d b r).drain e = (s.portDown d).drain e := by
  rw [sectionAborted_eq]
  rfl

theorem sectionAborted_record? (found : s.record? r.id = some r) : (s.sectionAborted d b r).record? r.id =
    some { r with sections := r.sections.modify d fun x => x.abortedBy b s.oldest r.start } := by
  unfold State.sectionAborted Section.abortedBy
  by_cases settled : b.settled = true
  · simp only [if_pos settled]
    rw [State.portDown, State.record?_modDrain, State.record?_modDrain, found]
    cases d <;> rfl
  · simp only [if_neg settled]
    exact record?_updRecord_same (f := fun r => { r with sections := r.sections.modify d _ }) (fun _ => rfl) found

theorem sectionAborted_other {j : Nat} (other : j ≠ r.id) : (s.sectionAborted d b r).record? j = s.record? j := by
  unfold State.sectionAborted
  split
  · rfl
  · exact record?_updRecord_other (f := fun r => { r with sections := r.sections.modify d _ }) (fun _ => rfl) other

theorem linkAborted_loses (loses : (r.sections.get d).loses b s.oldest = true) : s.linkAborted d b r =
    (s.sectionAborted d b r).gapEpisodeTest d r.id b.first (b.first - r.start) .abort := if_pos loses

theorem linkAborted_whole (whole : (r.sections.get d).loses b s.oldest = false) :
    s.linkAborted d b r = s.sectionAborted d b r := if_neg (by rw [whole]; nofun)

theorem linkAborted_record? (j : Nat) : (s.linkAborted d b r).record? j = (s.sectionAborted d b r).record? j := by
  unfold State.linkAborted
  split
  · rw [gapEpisodeTest_record?]
  · rfl

theorem linkAborted_list : (s.linkAborted d b r).delivery.list = s.delivery.list := by
  unfold State.linkAborted
  split
  · rw [gapEpisodeTest_list, sectionAborted_eq]
    rfl
  · rw [sectionAborted_eq]
    rfl

theorem linkAborted_eq : s.linkAborted d b r = { s with
    link := (s.linkAborted d b r).link, takes := (s.linkAborted d b r).takes, delivery := (s.linkAborted d b r).delivery } := by
  unfold State.linkAborted
  split
  · rw [gapEpisodeTest_eq, sectionAborted_eq]
  · rw [sectionAborted_eq]

theorem linkAborted_drain : (s.linkAborted d b r).drain d = { (s.drain d).dropLink with
    inFlight := none, gapEpisode := (s.drain d).gapEpisode || (r.sections.get d).loses b s.oldest } := by
  cases loses : (r.sections.get d).loses b s.oldest with
  | true =>
    rw [linkAborted_loses loses, gapEpisodeTest_drain, sectionAborted_drain, portDown_drain, Bool.or_true]
  | false =>
    rw [linkAborted_whole loses, sectionAborted_drain, portDown_drain, Bool.or_false]
    rfl

theorem linkAborted_drain_other {e : Drain} (other : e ≠ d) : (s.linkAborted d b r).drain e = s.drain e := by
  cases loses : (r.sections.get d).loses b s.oldest with
  | true =>
    rw [linkAborted_loses loses, gapEpisodeTest_drain_other (other := other), sectionAborted_drain, portDown_drain_other other]
  | false => rw [linkAborted_whole loses, sectionAborted_drain, portDown_drain_other other]

theorem sectionAborted_gapEpisode : ((s.sectionAborted d b r).drain d).gapEpisode = (s.drain d).gapEpisode := by
  rw [sectionAborted_drain, portDown_drain]
  rfl

/-- An abort that starts no gap episode leaves the control link interface. -/
theorem linkAborted_link (quiet : (s.drain d).gapEpisode = true ∨ (r.sections.get d).loses b s.oldest = false) :
    (s.linkAborted d b r).link = s.link := by
  have same : (s.sectionAborted d b r).link = s.link := by rw [sectionAborted_eq]
  cases loses : (r.sections.get d).loses b s.oldest with
  | true =>
    rcases quiet with set | whole
    · rw [linkAborted_loses loses, gapEpisodeTest_again (set := sectionAborted_gapEpisode.trans set), same]
    · exact absurd (whole.symm.trans loses) Bool.false_ne_true
  | false => rw [linkAborted_whole loses, same]

/-- A new gap episode at an abort: the condition and the notice (R131). -/
theorem linkAborted_report (clear : (s.drain d).gapEpisode = false) (loses : (r.sections.get d).loses b s.oldest = true) :
    (s.linkAborted d b r).link.conds.deliveryGap = true
      ∧ (NoticeRoom s → (s.linkAborted d b r).link.notices = s.link.notices ++ [{
          seq := s.link.nextSeq
          notice := .drne d .gap r.id b.first (b.first - r.start) .abort (s.drain d).settings.holdTimeout }]) := by
  have same : (s.sectionAborted d b r).link = s.link := by rw [sectionAborted_eq]
  have settings : ((s.sectionAborted d b r).drain d).settings = (s.drain d).settings := by
    rw [sectionAborted_drain, portDown_drain]
    rfl
  rw [linkAborted_loses loses]
  refine ⟨gapEpisodeTest_deliveryGap (clear := sectionAborted_gapEpisode.trans clear) .., fun room => ?_⟩
  rw [gapEpisodeTest_notices (clear := sectionAborted_gapEpisode.trans clear) (room := by rwa [NoticeRoom, same]), same,
    settings]

/-! ## The section of an aborted block -/

variable {x : Section} {o start : Nat}

theorem abortedBy_settled (settled : b.settled = true) : x.abortedBy b o start = x := if_pos settled

theorem abortedBy_live (unsettled : b.settled = false) (live : x.live = true) :
    x.abortedBy b o start = x.abortLive b o start := by
  rw [Section.abortedBy, if_neg (by rw [unsettled]; nofun)]
  cases state : x.state <;> simp [Section.live, state] at live <;> simp [Section.abortLink, state]

theorem abortedBy_abandoned (unsettled : b.settled = false) (abandoned : x.state = .abandoned) : x.abortedBy b o start =
    { x with formation := x.confirmed, abandoned := x.abandoned + b.header.count, nextSeq := b.header.seq } := by
  rw [Section.abortedBy, if_neg (by rw [unsettled]; nofun), Section.abortLink, abandoned]

theorem loses_iff : x.loses b o = true ↔
    b.settled = false ∧ x.live = true ∧ 0 < min (b.first + b.header.count) o - b.first := by
  rw [Section.loses, Section.abortLoses, Bool.and_eq_true, Bool.and_eq_true, decide_eq_true_eq, Bool.not_eq_true',
    Nat.sub_pos_iff_lt]

/-- A live section whose block is still retained: both cursors return and no gap is recorded. -/
theorem abortLive_whole (whole : min (b.first + b.header.count) o - b.first = 0) : x.abortLive b o start =
    { x with formation := min x.formation (max b.first o), confirmed := min x.formation (max b.first o)
             nextSeq := b.header.seq } := by
  rw [Section.abortLive, if_neg (by omega)]

/-- A live section whose block has partly left the ring: the run is a gap. -/
theorem abortLive_lost (lost : 0 < min (b.first + b.header.count) o - b.first) : x.abortLive b o start =
    { (x.recordGap (b.first - start) (min (b.first + b.header.count) o - b.first)) with
      gapTotal := x.gapTotal + (min (b.first + b.header.count) o - b.first), gapPending := true
      formation := min x.formation (max b.first o), confirmed := min x.formation (max b.first o)
      nextSeq := b.header.seq } := by
  rw [Section.abortLive, if_pos (by omega)]
  rfl

theorem abortLive_state : (x.abortLive b o start).state = x.state := by
  unfold Section.abortLive Section.lose
  dsimp only
  split
  · exact recordGap_state ..
  · rfl

theorem abortLive_formation : (x.abortLive b o start).formation = min x.formation (max b.first o) := rfl

end

theorem movedOn_dead {x : Section} (dead : x.live = false) (c : Prop) [Decidable c] : x.movedOn c = x := by
  refine section_movedOn_of_not fun h => ?_
  rw [Section.live, h.1] at dead
  cases dead

theorem DoneSettled.section_dead {u t : State} {id : Nat} {d : Drain} {p q : TakeRecord} (h : DoneSettled u t id d p q)
    (dead : (p.sections.get d).live = false) : q.sections.get d = p.sections.get d := by
  rw [h.left fun ended => Bool.false_ne_true (dead.symm.trans ended.2.1), movedOn_sections, movedOn_dead dead]

/-- Settles O46: the abort is a change of one section and one drain, with the gap reported, followed by the test for DONE on a
drain that is then idle. -/
theorem linkDownAbortsTheBlock : Obligations.LinkDownAbortsTheBlock := by
  unfold Obligations.LinkDownAbortsTheBlock
  intro s d
  have timer : (s.drain d).dropLink.timer =
      if (s.drain d).settings.enabled = true ∧ ((s.drain d).hold = true ∨ (s.drain d).linkUp = false)
        then (s.drain d).timer else { count := 0, frac := 0 } := by
    unfold DrainState.dropLink
    simp only [timerRuns_eq, decide_eq_true_eq]
    rfl
  refine ⟨fun idle => ?idle, fun b r x o lost flight found hx ho hlost => ?found, fun b flight gone => ?gone⟩
  case idle =>
    refine ⟨_, congrArg Host.Outcome.next (takeLinkDown_idle idle), rfl, rfl,
      fun x other => State.drain_modDrain_other (h := other) .., ?_⟩
    rw [State.drain_modDrain_same, ← timer]
    rfl
  case gone =>
    refine ⟨_, congrArg Host.Outcome.next (takeLinkDown_gone flight gone), ?_⟩
    rw [portDown_drain]
    exact ⟨rfl, rfl, rfl, rfl, rfl, fun e other => portDown_drain_other other, rfl⟩
  case found =>
    have held : r.id = b.header.takeId := record?_id found
    rw [← held] at found ⊢
    have oldest : s.oldest = o := ho.symm
    have record := (linkAborted_record? (s := s) (d := d) (b := b) (r := r) r.id).trans (sectionAborted_record? found)
    have idle : ((s.linkAborted d b r).drain d).inFlight = none := by rw [linkAborted_drain]
    have drain := linkAborted_drain (s := s) (d := d) (b := b) (r := r)
    have quiet := linkAborted_link (s := s) (d := d) (b := b) (r := r)
    have report := linkAborted_report (s := s) (d := d) (b := b) (r := r)
    rw [oldest] at record drain quiet report
    obtain ⟨q, h⟩ := doneSettled_settleDone record idle
    have section_d : (r.sections.modify d fun x => x.abortedBy b o r.start).get d =
        x.abortedBy b o r.start := by rw [PerDrain.get_modify_same, ← hx]
    have loses : (r.sections.get d).loses b o = true ↔ b.settled = false ∧ x.live = true ∧ 0 < lost := by
      rw [loses_iff, ← hx, ← hlost]
    have drains (e : Drain) (other : e ≠ d) : (s.linkAborted d b r).drain e = s.drain e := linkAborted_drain_other other
    have drain' := (h.drains d idle).trans drain
    have episode : (((s.linkAborted d b r).settleDone r.id d).drain d).gapEpisode =
        ((s.drain d).gapEpisode || (r.sections.get d).loses b o) := by rw [drain']
    refine ⟨_, q, congrArg Host.Outcome.next (takeLinkDown_found flight (held ▸ found)), h.found,
      ⟨(s.drain d).gapEpisode || (r.sections.get d).loses b o, ?drain⟩, fun unsettled live whole => ⟨?whole, ?still⟩,
      fun unsettled live lost => ⟨?lost, ?begun, fun clear => ?report⟩, fun no_episode => ?quiet,
      fun unsettled live closed reached => h.done ⟨closed, ?lives, ?reached⟩, fun unsettled abandoned => ?abandoned,
      fun settled dead => ?settled, h.same, fun e other kept => ?sections, fun e other calm => ?drains,
      h.others.of_others linkAborted_list fun j other => (linkAborted_record? j).trans (sectionAborted_other other),
      h.swept.of_list linkAborted_list, ?same⟩
    case drain => rw [drain', ← timer]; rfl
    case whole =>
      rw [h.tested, section_d, abortedBy_live unsettled live, abortLive_whole (hlost ▸ whole)]
    case still =>
      have kept : (r.sections.get d).loses b o = false := Bool.eq_false_iff.2 fun h => by have := (loses.1 h).2.2; omega
      rw [episode, kept, Bool.or_false]
    case lost =>
      rw [h.tested, section_d, abortedBy_live unsettled live, abortLive_lost (hlost ▸ lost), ← hlost]
    case begun => rw [episode, loses.2 ⟨unsettled, live, lost⟩, Bool.or_true]
    case report =>
      obtain ⟨gap, notice⟩ := report clear (loses.2 ⟨unsettled, live, lost⟩)
      refine ⟨h.sweeps.conds.1.trans gap, fun room => ?_⟩
      rw [← notice room]
      exact h.sweeps.notices
    case quiet =>
      have silent : (s.drain d).gapEpisode = true ∨ (r.sections.get d).loses b o = false := by
        refine no_episode.imp_right fun kept => Bool.eq_false_iff.2 fun h => ?_
        obtain ⟨unsettled, live, lost⟩ := loses.1 h
        rcases kept with settled | dead | whole
        · exact Bool.false_ne_true (unsettled.symm.trans settled)
        · exact Bool.false_ne_true (dead.symm.trans live)
        · omega
      obtain ⟨new, grown, finals⟩ := h.finals
      rw [quiet silent] at grown
      refine ⟨episode.trans ?_, h.sweeps.conds.1.trans (by rw [quiet silent]), new, grown, finals⟩
      rcases silent with set | whole
      · rw [set, Bool.true_or]
      · rw [whole, Bool.or_false]
    case lives =>
      rw [section_d, abortedBy_live unsettled live, ← live]
      exact live_congr abortLive_state
    case reached =>
      rw [section_d, abortedBy_live unsettled live, abortLive_formation]
      exact reached
    case abandoned =>
      have dead : (x.abortedBy b o r.start).live = false := by
        rw [abortedBy_abandoned unsettled abandoned]
        unfold Section.live
        rw [abandoned]
      rw [h.section_dead (section_d.symm ▸ dead), section_d, abortedBy_abandoned unsettled abandoned]
    case settled =>
      have left : x.abortedBy b o r.start = x := abortedBy_settled settled
      rw [h.section_dead (by rw [section_d, left, dead]), section_d, left]
    case sections =>
      have same : (r.sections.modify d fun x => x.abortedBy b o r.start).get e = r.sections.get e :=
        PerDrain.get_modify_other _ _ _ _ other
      rw [h.other e other (by rwa [same, drains e other]), movedOn_sections, movedOn_sections, same]
    case drains =>
      rw [← drains e other]
      exact h.drains e (by rwa [drains e other])
    case same =>
      rw [h.sweeps.eq, linkAborted_eq]

end Sys2Proof.Machine
end

section
/-! DRAN set (R113 to R115): the settings stored, the drain enabled or disabled, and O47. -/

namespace Sys2Proof.Machine

/-! ## A drain's sections abandoned (R115) -/

theorem abandonFor_live {x : Section} (live : x.live = true) (e : Option Nat) : x.abandonFor e = { x with
    state := .abandoned, owing := x.owing || e.isNone
    abandoned := match e with | some e => x.abandoned + (e - x.confirmed) | none => x.abandoned } := by
  unfold Section.abandonFor
  rw [if_pos live]
  cases e with
  | some e => simp
  | none => simp

theorem abandonFor_dead {x : Section} (dead : x.live = false) (e : Option Nat) : x.abandonFor e = x :=
  if_neg (by rw [dead]; nofun)

theorem abandonFor_left_dead (x : Section) (e : Option Nat) : (x.abandonFor e).live = false := by
  cases live : x.live with
  | true =>
    rw [abandonFor_live live]
    rfl
  | false => rw [abandonFor_dead live, live]

/-- A record whose section for a drain is abandoned if it is live (R115 step 2). -/
def TakeRecord.abandonOn (r : TakeRecord) (d : Drain) : TakeRecord :=
  { r with sections := r.sections.modify d fun x => x.abandonFor r.endPos }

theorem abandonOn_abandonOn (r : TakeRecord) (d : Drain) : (r.abandonOn d).abandonOn d = r.abandonOn d := by
  have twice (x : Section) : (x.abandonFor r.endPos).abandonFor r.endPos = x.abandonFor r.endPos :=
    abandonFor_dead (abandonFor_left_dead x r.endPos) r.endPos
  cases d
  · exact congrArg (fun a => ({ r with sections := { r.sections with a := a } } : TakeRecord)) (twice _)
  · exact congrArg (fun b => ({ r with sections := { r.sections with b := b } } : TakeRecord)) (twice _)

section
variable (s : State) (d : Drain)

theorem abandonSections_eq :
    s.abandonSections d = runAll (fun id s => s.updRecord id fun r => r.abandonOn d) s.delivery.list s := rfl

/-- The sections of a drain are abandoned in the takes of a list, in the records alone. -/
theorem abandonAll_frame (l : List Nat) : runAll (fun id s => s.updRecord id fun r => r.abandonOn d) l s =
    { s with takes := (runAll (fun id s => s.updRecord id fun r => r.abandonOn d) l s).takes } := by
  induction l generalizing s with
  | nil => rfl
  | cons id l ih => exact (ih _).trans rfl

theorem abandonAll_record? (l : List Nat) (j : Nat) :
    (runAll (fun id s => s.updRecord id fun r => r.abandonOn d) l s).record? j =
      (s.record? j).map fun r => if r.id ∈ l then r.abandonOn d else r := by
  induction l generalizing s with
  | nil => simp [runAll]
  | cons id l ih =>
    refine (ih (s.updRecord id fun r => r.abandonOn d)).trans ?_
    rw [record?_updRecord s id j (fun r => r.abandonOn d) fun _ => rfl, Option.map_map]
    congr 1
    funext r
    have same_id : (r.abandonOn d).id = r.id := rfl
    by_cases first : r.id = id
    · have twice := abandonOn_abandonOn r d
      by_cases later : r.id ∈ l <;> simp [first, twice]
    · simp [first]

theorem abandonAll_takes (l : List Nat) : ∃ table,
    (runAll (fun id s => s.updRecord id fun r => r.abandonOn d) l s).takes = { s.takes with table := table } := by
  induction l generalizing s with
  | nil => exact ⟨_, rfl⟩
  | cons id l ih => exact ih _

end

/-! ## A drain disabled (R115), before the list is swept -/

/-- A drain at its disabled values. -/
def DrainState.cut (x : DrainState) : DrainState :=
  { x with settings := { x.settings with enabled := false }, hold := false, timer := { count := 0, frac := 0 },
           stalled := false, gapEpisode := false }

/-- The machine with a drain disabled, before the list is swept (R115). -/
def State.drainCut (s : State) (d : Drain) : State :=
  (((s.abortForDisable d).abandonSections d).modDrain d DrainState.cut).settleStallCondition

/-- The section of a drain in state `x` once the drain is disabled: its block taken back, and in a listed take the rest
abandoned (R115). -/
def Section.cutOn (y : Section) (r : TakeRecord) (x : DrainState) (list : List Nat) : Section :=
  if r.id ∈ list then (x.takeBack r.id y).abandonFor r.endPos else x.takeBack r.id y

/-- A record once a drain in state `x` is disabled. -/
def TakeRecord.cutOn (r : TakeRecord) (d : Drain) (x : DrainState) (list : List Nat) : TakeRecord :=
  { r with sections := r.sections.modify d fun y => y.cutOn r x list }

section
variable {s : State} {d : Drain}

theorem disableDrain_eq : s.disableDrain d = (s.drainCut d).sweepList := rfl

theorem drainCut_list : (s.drainCut d).delivery.list = s.delivery.list := by
  obtain ⟨-, list, -⟩ := abortForDisable_frame s d
  rw [State.drainCut, settleStallCondition_delivery, abandonSections_eq, abandonAll_frame]
  exact list

theorem drainCut_record? (enabled : (s.drain d).settings.enabled = true) (j : Nat) : (s.drainCut d).record? j =
    (s.record? j).map fun r => r.cutOn d (s.drain d) s.delivery.list := by
  obtain ⟨-, list, -⟩ := abortForDisable_frame s d
  have taken : (s.abortForDisable d).record? j = (s.record? j).map fun r => r.takeBack d (s.drain d) := by
    rw [State.record?, abortForDisable_takes enabled]
    exact find?_map_id (f := fun r => r.takeBack d (s.drain d)) (fun _ => rfl) j
  rw [State.record?, State.drainCut, settleStallCondition_takes]
  refine (abandonAll_record? (s.abortForDisable d) d (s.abortForDisable d).delivery.list j).trans ?_
  rw [taken, list, Option.map_map]
  congr 1
  funext r
  unfold TakeRecord.cutOn Section.cutOn
  by_cases listed : r.id ∈ s.delivery.list
  · rw [Function.comp_apply, if_pos (by exact listed)]
    simp only [if_pos listed]
    cases d <;> rfl
  · rw [Function.comp_apply, if_neg (by exact listed)]
    simp only [if_neg listed]
    rfl

theorem drainCut_drains (e : Drain) : (s.drainCut d).drain e =
    ((s.abortForDisable d).modDrain d DrainState.cut).drain e := by
  rw [State.drainCut, State.drain, settleStallCondition_delivery, abandonSections_eq, abandonAll_frame]
  rfl

theorem drainCut_drain : (s.drainCut d).drain d = { (s.drain d).cut with inFlight := none } := by
  rw [drainCut_drains, State.drain_modDrain_same, abortForDisable_drain]
  rfl

theorem drainCut_drain_other {e : Drain} (other : e ≠ d) : (s.drainCut d).drain e = s.drain e := by
  obtain ⟨-, -, -, others⟩ := abortForDisable_frame s d
  rw [drainCut_drains, State.drain_modDrain_other (h := other), others e other]

theorem drainCut_link : (s.drainCut d).link = { s.link with conds := { s.link.conds with
    drainStalled := s.link.conds.drainStalled && (s.drain (otherDrain d)).stalled } } := by
  obtain ⟨link, -⟩ := abortForDisable_frame s d
  have kept : (((s.abortForDisable d).abandonSections d).modDrain d DrainState.cut).link = s.link := by
    rw [State.modDrain_link, abandonSections_eq, abandonAll_frame]
    exact link
  have none_stalled : (((s.abortForDisable d).abandonSections d).modDrain d DrainState.cut).noDrainStalled =
      !(s.drain (otherDrain d)).stalled := by
    have same : ((s.drainCut d).drain d).stalled = false := by rw [drainCut_drain]; rfl
    have other (e : Drain) (ne : e ≠ d) : ((s.drainCut d).drain e).stalled = (s.drain e).stalled := by
      rw [drainCut_drain_other ne]
    rw [State.drainCut, State.drain, settleStallCondition_delivery] at same
    simp only [State.drainCut, State.drain, settleStallCondition_delivery] at other
    unfold State.noDrainStalled
    cases d with
    | a => exact congrArg₂ (fun x y => !x && !y) same (other .b nofun)
    | b => exact (congrArg₂ (fun x y => !x && !y) (other .a nofun) same).trans (Bool.and_true _)
  unfold State.drainCut State.settleStallCondition
  rw [none_stalled]
  cases (s.drain (otherDrain d)).stalled with
  | true => exact kept.trans (by rw [Bool.and_true])
  | false =>
    refine (congrArg (fun l : Link => { l with conds := l.conds.put .drainStalled false }) kept).trans ?_
    rw [Bool.and_false]
    rfl

theorem drainCut_eq : s.drainCut d = { s with
    link := (s.drainCut d).link, takes := (s.drainCut d).takes, delivery := (s.drainCut d).delivery } := by
  have aborted : s.abortForDisable d = { s with
      takes := (s.abortForDisable d).takes, delivery := (s.abortForDisable d).delivery } := by
    unfold State.abortForDisable
    split
    · rfl
    · dsimp only
      split <;> rfl
  unfold State.drainCut State.settleStallCondition
  rw [abandonSections_eq, abandonAll_frame, aborted]
  split <;> rfl

/-! ## A drain disabled and the list swept (R109, R111, R115) -/

theorem otherDrain_ne (d : Drain) : otherDrain d ≠ d := by cases d <;> nofun

theorem eq_otherDrain {d e : Drain} (other : e ≠ d) : e = otherDrain d := by
  match d, e, other with
  | .a, .b, _ => rfl
  | .b, .a, _ => rfl
  | .a, .a, other => exact absurd rfl other
  | .b, .b, other => exact absurd rfl other

theorem cutOn_listed_dead {y : Section} {r : TakeRecord} {x : DrainState} {list : List Nat} (listed : r.id ∈ list) :
    (y.cutOn r x list).live = false := by
  rw [Section.cutOn, if_pos listed]
  exact abandonFor_left_dead ..

theorem cutOn_same (r : TakeRecord) (d : Drain) (x : DrainState) (list : List Nat) :
    (r.cutOn d x list).sections.get d = (r.sections.get d).cutOn r x list := PerDrain.get_modify_same ..

theorem cutOn_other (r : TakeRecord) {d e : Drain} (other : e ≠ d) (x : DrainState) (list : List Nat) :
    (r.cutOn d x list).sections.get e = r.sections.get e := PerDrain.get_modify_other _ _ _ _ other

theorem drainCut_idle : ((s.drainCut d).drain d).inFlight = none := by rw [drainCut_drain]

theorem disableDrain_drain : (s.disableDrain d).drain d = { (s.drain d).cut with inFlight := none } :=
  ((sweeps_sweepList (s.drainCut d)).drain_idle drainCut_idle).trans drainCut_drain

theorem disableDrain_drain_other {e : Drain} (other : e ≠ d) (idle : (s.drain e).inFlight = none) :
    (s.disableDrain d).drain e = s.drain e := by
  rw [← drainCut_drain_other (s := s) other]
  exact (sweeps_sweepList (s.drainCut d)).drain_idle (by rwa [drainCut_drain_other other])

theorem disableDrain_stalled : (s.disableDrain d).link.conds.drainStalled =
    (s.link.conds.drainStalled && (s.drain (otherDrain d)).stalled) :=
  (sweeps_sweepList (s.drainCut d)).conds.2.2.trans (by rw [drainCut_link])

theorem disableDrain_eq_confined : s.disableDrain d = { s with
    link := (s.disableDrain d).link, takes := (s.disableDrain d).takes, delivery := (s.disableDrain d).delivery } := by
  rw [disableDrain_eq, (sweeps_sweepList (s.drainCut d)).eq, drainCut_eq]

theorem drainCut_found (enabled : (s.drain d).settings.enabled = true) {id : Nat} {r : TakeRecord}
    (found : s.record? id = some r) : (s.drainCut d).record? id = some (r.cutOn d (s.drain d) s.delivery.list) := by
  rw [drainCut_record? enabled, found, Option.map_some]

/-- The disabled drain has no take to deliver. -/
theorem drainCut_dead (enabled : (s.drain d).settings.enabled = true) {id : Nat} (listed : id ∈ s.delivery.list) :
    (s.drainCut d).liveOn d id = false := by
  cases found : s.record? id with
  | none => rw [State.liveOn, drainCut_record? enabled, found]; rfl
  | some r =>
    rw [liveOn_found (drainCut_found enabled found), cutOn_same]
    exact cutOn_listed_dead (by rwa [record?_id found])

theorem disableDrain_currentTake (enabled : (s.drain d).settings.enabled = true) :
    (s.disableDrain d).currentTake d = none := by
  rw [disableDrain_eq, sweepList_currentTake]
  cases current : (s.drainCut d).currentTake d with
  | none => rfl
  | some id =>
    obtain ⟨listed, live⟩ := currentTake_some current
    rw [drainCut_list] at listed
    exact absurd ((drainCut_dead enabled listed).symm.trans live) Bool.false_ne_true

theorem liveOn_iff {e : Drain} {id : Nat} :
    s.liveOn e id = true ↔ ∃ r, s.record? id = some r ∧ (r.sections.get e).live = true := by
  rw [State.liveOn, Option.any_eq_true]

theorem disableDrain_list (enabled : (s.drain d).settings.enabled = true) (id : Nat) :
    id ∈ (s.disableDrain d).delivery.list ↔
      id ∈ s.delivery.list ∧ ∃ r, s.record? id = some r ∧ (r.sections.get (otherDrain d)).live = true := by
  rw [disableDrain_eq, sweepList_list, drainCut_list, List.mem_filter, ← liveOn_iff]
  refine and_congr_right fun listed => ?_
  have dead := drainCut_dead enabled listed
  have other : (s.drainCut d).liveOn (otherDrain d) id = s.liveOn (otherDrain d) id := by
    cases found : s.record? id with
    | none => rw [State.liveOn, State.liveOn, drainCut_record? enabled, found]; rfl
    | some r => rw [liveOn_found found, liveOn_found (drainCut_found enabled found), cutOn_other _ (otherDrain_ne d)]
  rw [stillDelivering_eq]
  cases d with
  | a => rw [dead, Bool.false_or]; exact iff_of_eq (by rw [← other]; rfl)
  | b => rw [dead, Bool.or_false]; exact iff_of_eq (by rw [← other]; rfl)

/-- A record once the drain is disabled and the list swept. -/
theorem disableDrain_record? (enabled : (s.drain d).settings.enabled = true) {id : Nat} {r : TakeRecord}
    (found : s.record? id = some r) : ∃ q, (s.disableDrain d).record? id = some q
      ∧ q = { r with state := q.state, sections := q.sections }
      ∧ q.sections.get d = (r.sections.get d).cutOn r (s.drain d) s.delivery.list
      ∧ ((r.sections.get (otherDrain d)).live = true ∨ id ∉ s.delivery.list → q.state = r.state
        ∧ q.sections.get (otherDrain d) = (r.movedOn (s.disableDrain d)).sections.get (otherDrain d)) := by
  have record := drainCut_found enabled found
  obtain rfl := record?_id found
  obtain ⟨q, after, follows⟩ := sweepList_record? (s.drainCut d) record
  refine ⟨q, after, by rw [follows.same]; rfl, ?_, fun kept => ?_⟩
  · rw [sweepList_section_idle _ record after drainCut_idle, movedOn_sections, cutOn_same]
    refine section_movedOn_of_not fun ⟨_, current⟩ => ?_
    obtain ⟨listed, live⟩ := currentTake_some current
    rw [drainCut_list] at listed
    exact Bool.false_ne_true ((drainCut_dead enabled listed).symm.trans live)
  · have still : (s.drainCut d).stillDelivering r.id = true ∨ r.id ∉ (s.drainCut d).delivery.list := by
      rw [drainCut_list]
      refine kept.imp_left fun live => stillDelivering_of_liveOn (d := otherDrain d) ?_
      rw [liveOn_found record, cutOn_other _ (otherDrain_ne d)]
      exact live
    have moved := sweepList_record?_kept (s.drainCut d) still
    rw [after, record, Option.map_some] at moved
    rw [Option.some.inj moved, movedOn_sections, movedOn_sections, cutOn_other _ (otherDrain_ne d), disableDrain_eq,
      sweepList_currentTake]
    exact ⟨rfl, rfl⟩

/-! ## The section of a disabled drain -/

theorem takeBack_none {x : DrainState} {id : Nat} {y : Section}
    (none_left : ∀ b, x.inFlight = some b → b.header.takeId = id → b.settled = true) : x.takeBack id y = y := by
  unfold DrainState.takeBack
  split
  · rename_i b flight
    refine if_neg fun ⟨_, unsettled, same⟩ => ?_
    exact Bool.false_ne_true (unsettled.symm.trans (none_left b flight same))
  · rfl

theorem takeBack_block {x : DrainState} {id : Nat} {y : Section} {b : Block} (enabled : x.settings.enabled = true)
    (flight : x.inFlight = some b) (same : b.header.takeId = id) (unsettled : b.settled = false) :
    x.takeBack id y = y.takenBack b := by
  unfold DrainState.takeBack
  rw [flight]
  exact if_pos ⟨enabled, unsettled, same⟩

theorem cutOn_dead {y : Section} {r : TakeRecord} {x : DrainState} {list : List Nat}
    (kept : (x.takeBack r.id y).live = false ∨ r.id ∉ list) : y.cutOn r x list = x.takeBack r.id y := by
  unfold Section.cutOn
  split
  · rename_i listed
    exact abandonFor_dead (kept.resolve_right fun unlisted => unlisted listed) _
  · rfl

theorem takenBack_live {y : Section} (b : Block) (live : y.live = true) :
    y.takenBack b = { y with formation := y.confirmed, nextSeq := b.header.seq } := by
  unfold Section.takenBack
  rw [if_neg]
  intro abandoned
  rw [Section.live, abandoned] at live
  cases live

theorem takenBack_abandoned {y : Section} (b : Block) (abandoned : y.state = .abandoned) : y.takenBack b =
    { y with formation := y.confirmed, nextSeq := b.header.seq, abandoned := y.abandoned + b.header.count } := by
  unfold Section.takenBack
  rw [if_pos abandoned]

/-- The drain's live section of a listed take, once the drain is disabled (R115). -/
theorem disableDrain_abandoned (enabled : (s.drain d).settings.enabled = true) {id : Nat} {r : TakeRecord} {y : Section}
    (listed : id ∈ s.delivery.list) (found : s.record? id = some r) (hy : y = r.sections.get d) (live : y.live = true) :
    ∃ q, (s.disableDrain d).record? id = some q
      ∧ ((∀ b, (s.drain d).inFlight = some b → b.header.takeId = id → b.settled = true) →
          q.sections.get d = { y with
            state := .abandoned, owing := y.owing || r.endPos.isNone
            abandoned := match r.endPos with | some e => y.abandoned + (e - y.confirmed) | none => y.abandoned })
      ∧ (∀ b, (s.drain d).inFlight = some b → b.header.takeId = id → b.settled = false →
          q.sections.get d = { y with
            state := .abandoned, owing := y.owing || r.endPos.isNone
            formation := y.confirmed, nextSeq := b.header.seq
            abandoned := match r.endPos with | some e => y.abandoned + (e - y.confirmed) | none => y.abandoned }) := by
  obtain ⟨q, after, -, cell, -⟩ := disableDrain_record? enabled found
  obtain rfl := record?_id found
  rw [← hy, Section.cutOn, if_pos listed] at cell
  refine ⟨q, after, fun none_left => cell.trans ?_, fun b flight same unsettled => cell.trans ?_⟩
  · rw [takeBack_none none_left]
    exact abandonFor_live live r.endPos
  · rw [takeBack_block enabled flight same unsettled, takenBack_live b live]
    exact abandonFor_live (x := { y with formation := y.confirmed, nextSeq := b.header.seq }) live r.endPos

/-- The drain's abandoned section of the take in flight, once the drain is disabled (R115, R122). -/
theorem disableDrain_aborted (enabled : (s.drain d).settings.enabled = true) {b : Block} {r : TakeRecord} {y : Section}
    (flight : (s.drain d).inFlight = some b) (found : s.record? b.header.takeId = some r) (hy : y = r.sections.get d)
    (abandoned : y.state = .abandoned) : ∃ q, (s.disableDrain d).record? b.header.takeId = some q
      ∧ (b.settled = true → q.sections.get d = y)
      ∧ (b.settled = false → q.sections.get d = { y with
          formation := y.confirmed, nextSeq := b.header.seq, abandoned := y.abandoned + b.header.count }) := by
  obtain ⟨q, after, -, cell, -⟩ := disableDrain_record? enabled found
  have dead (x : Section) (state : x.state = .abandoned) : x.live = false := by rw [Section.live, state]
  rw [← hy] at cell
  refine ⟨q, after, fun settled => ?_, fun unsettled => ?_⟩
  · have left : (s.drain d).takeBack r.id y = y := takeBack_none fun c at_c _ => by
      rw [← Option.some.inj (flight.symm.trans at_c), settled]
    rw [cell, cutOn_dead (.inl (by rw [left]; exact dead y abandoned)), left]
  · have taken : (s.drain d).takeBack r.id y = y.takenBack b :=
      takeBack_block enabled flight (record?_id found).symm unsettled
    rw [cell, cutOn_dead (.inl (by rw [taken]; exact dead _ abandoned)), taken, takenBack_abandoned b abandoned]

/-- Any record, once the drain is disabled (R111, R115). -/
theorem disableDrain_kept (enabled : (s.drain d).settings.enabled = true) {r : TakeRecord} (found : s.record? r.id = some r) :
    ∃ q, (s.disableDrain d).record? r.id = some q ∧ q = { r with state := q.state, sections := q.sections }
      ∧ ((r.sections.get (otherDrain d)).live = true ∨ r.id ∉ s.delivery.list →
          q.state = r.state
          ∧ q.sections.get (otherDrain d) = (r.movedOn (s.disableDrain d)).sections.get (otherDrain d))
      ∧ ((r.sections.get d).live = false ∨ r.id ∉ s.delivery.list →
          (∀ b, (s.drain d).inFlight = some b → b.header.takeId = r.id → b.settled = true) →
          q.sections.get d = r.sections.get d) := by
  obtain ⟨q, after, same, cell, moves⟩ := disableDrain_record? enabled found
  refine ⟨q, after, same, moves, fun kept none_left => ?_⟩
  have left : (s.drain d).takeBack r.id (r.sections.get d) = r.sections.get d := takeBack_none none_left
  rw [cell, cutOn_dead (kept.imp_left fun dead => by rwa [left]), left]

end

/-! ## DRAN set (R113) -/

/-- A drain with the settings of a DRAN set stored, but for enable. -/
def DrainState.store (y : DrainState) (x : DrainSettings) : DrainState :=
  { y with settings := { x with enabled := y.settings.enabled } }

section
variable {s : State} {d : Drain} {x : DrainSettings}

theorem dranBusy_iff : s.dranBusy d x = true ↔ ¬DranFree s d x := by
  unfold State.dranBusy DranFree
  cases s.currentTake d with
  | none => simp
  | some id => simp; tauto

theorem testTimeout_left (early : (s.drain d).timerRuns = true → (s.drain d).timer.count < (s.drain d).timerLimit) :
    s.testTimeout d = s := if_neg fun ⟨runs, reached⟩ => absurd (early runs) (Nat.not_lt.2 reached)

theorem testTimeout_reached (runs : (s.drain d).timerRuns = true) (reached : (s.drain d).timerLimit ≤ (s.drain d).timer.count) :
    s.testTimeout d = s.reachStall d := if_pos ⟨runs, reached⟩

theorem reachStall_currentTake (e : Drain) : (s.reachStall d).currentTake e = s.currentTake e := by
  refine currentTake_congr reachStall_list fun id _ => ?_
  rw [reachStall_eq]
  rfl

/-- The drain's reply after the stall, as it stands then. -/
theorem reachStall_result : (s.reachStall d).dranResult d = .dran ((s.reachStall d).drain d) ((s.currentTake d).getD 0) := by
  rw [State.dranResult, reachStall_currentTake]

theorem testTimeout_frame (s : State) (d : Drain) : (∀ e, e ≠ d → (s.testTimeout d).drain e = s.drain e)
    ∧ (s.testTimeout d).delivery.list = s.delivery.list
    ∧ s.testTimeout d = { s with link := (s.testTimeout d).link, delivery := (s.testTimeout d).delivery } := by
  unfold State.testTimeout
  split
  · exact ⟨fun e => reachStall_drain_other, reachStall_list, reachStall_eq⟩
  · exact ⟨fun _ _ => rfl, rfl, rfl⟩

theorem store_same {y : DrainState} (same : x.enabled = y.settings.enabled) : y.store x = { y with settings := x } := by
  unfold DrainState.store
  rw [← same]

theorem setDrain_same (same : x.enabled = (s.drain d).settings.enabled) :
    s.setDrain d x = (s.modDrain d fun y => y.store x).testTimeout d := by
  have kept : ((s.modDrain d fun y => y.store x).drain d).settings.enabled = x.enabled := by
    rw [State.drain_modDrain_same, same]
    rfl
  exact congrArg (fun u => State.testTimeout u d) (if_pos kept.symm)

theorem setDrain_enable (enable : x.enabled = true) (off : (s.drain d).settings.enabled = false) :
    s.setDrain d x = ((s.modDrain d fun y => y.store x).enableDrain d).testTimeout d := by
  have kept : ((s.modDrain d fun y => y.store x).drain d).settings.enabled = false := by
    rw [State.drain_modDrain_same]
    exact off
  refine congrArg (fun u => State.testTimeout u d) ((if_neg ?_).trans (if_pos enable))
  rw [enable]
  exact fun h => Bool.false_ne_true (kept.symm.trans h.symm)

theorem setDrain_disable (disable : x.enabled = false) (on : (s.drain d).settings.enabled = true) :
    s.setDrain d x = (s.modDrain d fun y => y.store x).disableDrain d := by
  have kept : ((s.modDrain d fun y => y.store x).drain d).settings.enabled = true := by
    rw [State.drain_modDrain_same]
    exact on
  refine (congrArg (fun u => State.testTimeout u d) ((if_neg ?_).trans (if_neg ?_))).trans (testTimeout_left fun runs => ?_)
  · rw [disable]
    exact fun h => Bool.false_ne_true (h.trans kept)
  · rw [disable]
    nofun
  · have runs : (((s.modDrain d fun y => y.store x).disableDrain d).drain d).timerRuns = true := runs
    rw [disableDrain_drain] at runs
    cases runs

/-- A DRAN set that is taken: what its owner leaves, and its reply. -/
theorem dranSet_taken {tag code : BitVec 8} {f : DrainFields} (room : HasRoom s) (drain : drainOf code = some d)
    (fields : drainSettingsOf f = some x) (free : DranFree s d x) : exec (.dranSet tag code f) s =
      .next (((s.modLink Link.goodFrame).setDrain d x).withReply tag .dran .ok
        (((s.modLink Link.goodFrame).setDrain d x).dranResult d)) := by
  refine congrArg Host.Outcome.next ?_
  have idle : (s.modLink Link.goodFrame).dranBusy d x = false :=
    Bool.eq_false_iff.2 fun busy => (dranBusy_iff.1 busy) free
  rw [serve_room _ _ _ room, reqDranSet, drain, fields]
  dsimp only
  rw [if_neg (by rw [idle]; nofun)]
  rfl

theorem dranSet_busy {tag code : BitVec 8} {f : DrainFields} (room : HasRoom s) (drain : drainOf code = some d)
    (fields : drainSettingsOf f = some x) (busy : ¬DranFree s d x) : exec (.dranSet tag code f) s =
      .next (replied s tag .dran .busy .none) := by
  refine served_refusal room ?_
  have busy : (s.modLink Link.goodFrame).dranBusy d x = true := dranBusy_iff.2 busy
  rw [reqDranSet, drain, fields]
  exact if_pos busy

end

/-- Settles O47: the five cases of a DRAN set, each a change of the one drain, or its disabling, under the reply. -/
theorem dranSetStoresOrIsBusy : Obligations.DranSetStoresOrIsBusy := by
  unfold Obligations.DranSetStoresOrIsBusy
  intro s tag f d x room enable wordSize byteOrder blockLength holdTimeout
  have fields := drainSettingsOf_eq enable wordSize byteOrder blockLength holdTimeout
  have positive : 1 ≤ x.holdTimeout := by omega
  have code : drainOf (match d with | .a => 0 | .b => 1) = some d := by cases d <;> rfl
  refine ⟨dranSet_busy room code fields, fun free on enabled => ?stays, fun free on disabled => ?enabling,
    fun free off disabled => ?left, fun free off enabled => ?disabling⟩
  all_goals refine ⟨_, dranSet_taken room code fields free, ?_⟩
  case stays =>
    have same : x.enabled = (s.drain d).settings.enabled := on.trans enabled.symm
    have stored : ((s.modLink Link.goodFrame).modDrain d fun y => y.store x).drain d = { s.drain d with settings := x } :=
      (State.drain_modDrain_same ..).trans (store_same same)
    rw [setDrain_same (s := s.modLink Link.goodFrame) same]
    obtain ⟨others, list, eq⟩ := testTimeout_frame ((s.modLink Link.goodFrame).modDrain d fun y => y.store x) d
    refine ⟨fun e other => (others e other).trans (State.drain_modDrain_other (h := other) ..), list, fun early => ?_,
      fun held reached => ?_, ?_⟩
    · rw [testTimeout_left]
      · exact ⟨stored, rfl⟩
      · rw [stored, timerRuns_eq, decide_eq_true_eq]
        rintro ⟨-, spell⟩
        rcases early with ⟨free, up⟩ | short
        · rw [free, up] at spell
          exact spell.elim nofun nofun
        · exact short
    · rw [testTimeout_reached (by rw [stored, timerRuns_eq]; exact decide_eq_true ⟨on, held⟩) (by rw [stored]; exact reached)]
      generalize same_v : (s.modLink Link.goodFrame).modDrain d (fun y => y.store x) = v at *
      have link : v.link = (s.modLink Link.goodFrame).link := by rw [← same_v]; rfl
      have current : v.currentTake d = s.currentTake d := by rw [← same_v]; rfl
      have ring : v.ring = s.ring := by rw [← same_v]; rfl
      refine ⟨reachStall_drain.trans (by rw [stored]), fun stalled => ?_, fun going notices => ?_⟩
      · have again : (v.reachStall d).link = v.link := reachStall_link_again (by rw [stored]; exact stalled)
        rw [State.withReply, again, link, reachStall_result, current]
        rfl
      · have first := reachStall_link_first (s := v) (d := d) (by rw [stored]; exact going) (by rw [NoticeRoom, link]; exact notices)
        rw [State.withReply, first, link, reachStall_result, current, stored, ring]
        rfl
    · rw [eq]
      rfl
  case enabling =>
    rw [setDrain_enable (s := s.modLink Link.goodFrame) on disabled]
    have stored : (((s.modLink Link.goodFrame).modDrain d fun y => y.store x).enableDrain d).drain d =
        { s.drain d with settings := x, hold := false, timer := { count := 0, frac := 0 } } := by
      refine (State.drain_modDrain_same ..).trans ?_
      rw [State.drain_modDrain_same, DrainState.store, ← on]
      rfl
    have others (e : Drain) (other : e ≠ d) :
        (((s.modLink Link.goodFrame).modDrain d fun y => y.store x).enableDrain d).drain e = s.drain e :=
      (State.drain_modDrain_other (h := other) ..).trans (State.drain_modDrain_other (h := other) ..)
    rw [testTimeout_left fun _ => by rw [stored]; exact Nat.mul_pos positive (by decide)]
    exact ⟨stored, others, rfl, rfl⟩
  case left =>
    have same : x.enabled = (s.drain d).settings.enabled := off.trans disabled.symm
    have stored : ((s.modLink Link.goodFrame).modDrain d fun y => y.store x).drain d = { s.drain d with settings := x } :=
      (State.drain_modDrain_same ..).trans (store_same same)
    rw [setDrain_same (s := s.modLink Link.goodFrame) same, testTimeout_left]
    · exact ⟨stored, fun e other => State.drain_modDrain_other (h := other) .., rfl, rfl⟩
    · rw [stored, DrainState.timerRuns, off]
      nofun
  case disabling =>
    rw [setDrain_disable (s := s.modLink Link.goodFrame) off enabled]
    have stored : ((s.modLink Link.goodFrame).modDrain d fun y => y.store x).drain d = (s.drain d).store x :=
      State.drain_modDrain_same ..
    have other : ((s.modLink Link.goodFrame).modDrain d fun y => y.store x).drain (otherDrain d) = s.drain (otherDrain d) :=
      State.drain_modDrain_other (h := otherDrain_ne d) ..
    have on : (((s.modLink Link.goodFrame).modDrain d fun y => y.store x).drain d).settings.enabled = true := by
      rw [stored]; exact enabled
    have flights : (((s.modLink Link.goodFrame).modDrain d fun y => y.store x).drain d).inFlight = (s.drain d).inFlight := by
      rw [stored]; rfl
    have drain : (((s.modLink Link.goodFrame).modDrain d fun y => y.store x).disableDrain d).drain d = { s.drain d with
        settings := x, hold := false, timer := { count := 0, frac := 0 }, stalled := false, gapEpisode := false
        inFlight := none } := by
      rw [disableDrain_drain, stored, DrainState.cut, DrainState.store, ← off]
    have stalled := disableDrain_stalled (s := (s.modLink Link.goodFrame).modDrain d fun y => y.store x) (d := d)
    have list := disableDrain_list on
    have abandoned (id r y) := disableDrain_abandoned (id := id) (r := r) (y := y) on
    have aborted (b r y) := disableDrain_aborted (b := b) (r := r) (y := y) on
    have kept (r) := disableDrain_kept (r := r) on
    have others := disableDrain_drain_other (s := (s.modLink Link.goodFrame).modDrain d fun y => y.store x) (otherDrain_ne d)
    have current := disableDrain_currentTake on
    have replies := (confined_disableDrain ((s.modLink Link.goodFrame).modDrain d fun y => y.store x) d).replies
    have same := disableDrain_eq_confined (s := (s.modLink Link.goodFrame).modDrain d fun y => y.store x) (d := d)
    rw [flights] at abandoned aborted kept
    rw [other] at stalled others
    generalize ((s.modLink Link.goodFrame).modDrain d fun y => y.store x).disableDrain d = u at *
    refine ⟨drain, stalled, list, abandoned, aborted, kept, others, ?_, ?_⟩
    · rw [State.dranResult, current]
      exact congrArg (· ++ _) replies
    · rw [same]
      rfl

end Sys2Proof.Machine
end

section
/-! The pushes of a write (R126) and the gaps that they record and report (R127, R128, R131), and O45. -/

namespace Sys2Proof.Machine

/-! ## The gap list (R127) -/

section
variable (x : Section) (offset length : Nat)

theorem recordGap_first (empty : x.gaps = []) :
    x.recordGap offset length = { x with gaps := [{ offset := offset, length := length }] } := by
  rw [Section.recordGap, empty]
  rfl

theorem recordGap_next {rest : List Gap} {g : Gap} (gaps : x.gaps = rest ++ [g]) : x.recordGap offset length =
    if offset = g.offset + g.length then
      { x with gaps := rest ++ [{ offset := g.offset, length := g.length + length }] }
    else if offset + length = g.offset then { x with gaps := rest ++ [{ offset := offset, length := g.length + length }] }
    else if x.gaps.length < 8 then { x with gaps := x.gaps ++ [{ offset := offset, length := length }] }
    else { x with notListed := if x.notListed < 65535 then x.notListed + 1 else x.notListed } := by
  have last : x.gaps.getLast? = some g := by rw [gaps, List.getLast?_concat]
  have front : x.gaps.dropLast = rest := by rw [gaps, List.dropLast_concat]
  rw [Section.recordGap, last]
  dsimp only
  rw [front]
  rfl

end

/-- A gap is recorded alike whatever the section's state and abandoned count. -/
theorem recordGap_with (x : Section) (offset length : Nat) (state : SecState) (abandoned : Nat) :
    ({ x with state := state, abandoned := abandoned } : Section).recordGap offset length =
      { x.recordGap offset length with state := state, abandoned := abandoned } := by
  unfold Section.recordGap
  dsimp only
  split
  · split
    · rfl
    · split
      · rfl
      · split <;> rfl
  · rfl

theorem pushedBy_eq (x : Section) (offset n : Nat) : x.pushedBy offset n = { (x.recordGap offset n) with
    formation := x.formation + n, confirmed := x.confirmed + n, gapTotal := x.gapTotal + n, gapPending := true } := rfl

theorem SectionFollows.pushedBy {x y : Section} (h : SectionFollows x y) (offset n : Nat) :
    SectionFollows (x.pushedBy offset n) (y.pushedBy offset n) := by
  have moved : y.pushedBy offset n = { x.pushedBy offset n with state := y.state, abandoned := y.abandoned } := by
    rw [h.same, Section.pushedBy, Section.lose, recordGap_with]
    rfl
  refine ⟨by rw [moved], fun settled => ?_⟩
  rw [pushedBy_state, pushedBy_state]
  exact h.settled ((live_congr (pushedBy_state ..)).symm.trans settled)

/-! ## The notices of gaps (R128, R131) -/

/-- A drain's gap episode begins between two states. -/
abbrev EpisodeBegins (s t : State) (d : Drain) : Prop := (s.drain d).gapEpisode = false ∧ (t.drain d).gapEpisode = true

/-- A notice of a write: a FINL, or the DRNE GAP of a drain. -/
abbrev IsWriteNotice (n : QueuedNotice) : Prop :=
  n.notice.noticeKind = .finl ∨ isGapOf .a n.notice = true ∨ isGapOf .b n.notice = true

/-- From `s` to `t` gap episodes begin and none ends; each that begins sets DELIVERY GAP and queues one DRNE GAP at most, and
every other notice queued is a FINL. -/
structure GapsReported (s t : State) : Prop where
  flags : ∀ d, (s.drain d).gapEpisode = true → (t.drain d).gapEpisode = true
  condition : t.link.conds.deliveryGap = true ↔ s.link.conds.deliveryGap = true ∨ ∃ d, EpisodeBegins s t d
  notices : ∃ new, t.link.notices = s.link.notices ++ new
    ∧ (∀ d, (new.filter fun n => isGapOf d n.notice).length ≤ if EpisodeBegins s t d then 1 else 0)
    ∧ ∀ n ∈ new, IsWriteNotice n

theorem gap_not_finl {d : Drain} {n : Notice} (finl : n.noticeKind = .finl) : isGapOf d n = false := by
  unfold isGapOf
  split
  · cases finl
  · rfl

theorem gapsReported_of_finals {s t : State} (finals : OnlyFinals s t)
    (flags : ∀ d, (t.drain d).gapEpisode = (s.drain d).gapEpisode)
    (condition : t.link.conds.deliveryGap = s.link.conds.deliveryGap) : GapsReported s t := by
  have none_begins (d : Drain) : ¬EpisodeBegins s t d := fun ⟨clear, set⟩ =>
    Bool.false_ne_true (clear.symm.trans ((flags d).symm.trans set))
  obtain ⟨new, grown, only⟩ := finals
  refine ⟨fun d set => (flags d).trans set, ?_, new, grown, fun d => ?_, fun n among => .inl (only n among)⟩
  · rw [condition]
    exact ⟨.inl, fun h => h.resolve_right fun ⟨d, begins⟩ => none_begins d begins⟩
  · have empty : new.filter (fun n => isGapOf d n.notice) = [] :=
      List.filter_eq_nil_iff.2 fun n among => by rw [gap_not_finl (only n among)]; nofun
    rw [empty]
    exact Nat.zero_le _

theorem GapsReported.refl (s : State) : GapsReported s s := gapsReported_of_finals (.of_link rfl) (fun _ => rfl) rfl

theorem GapsReported.trans {s t u : State} (h : GapsReported s t) (k : GapsReported t u) : GapsReported s u := by
  have begins (d : Drain) : EpisodeBegins s u d ↔ EpisodeBegins s t d ∨ EpisodeBegins t u d := by
    refine ⟨fun ⟨clear, set⟩ => ?_, ?_⟩
    · cases between : (t.drain d).gapEpisode with
      | true => exact .inl ⟨clear, between⟩
      | false => exact .inr ⟨between, set⟩
    · rintro (⟨clear, set⟩ | ⟨clear, set⟩)
      · exact ⟨clear, k.flags d set⟩
      · exact ⟨Bool.eq_false_iff.2 fun before => Bool.false_ne_true (clear.symm.trans (h.flags d before)), set⟩
  obtain ⟨new, grown, count, only⟩ := h.notices
  obtain ⟨more, grown', count', only'⟩ := k.notices
  refine ⟨fun d set => k.flags d (h.flags d set), ?_, new ++ more, by rw [grown', grown, List.append_assoc], fun d => ?_,
    fun n among => (List.mem_append.1 among).elim (only n) (only' n)⟩
  · rw [k.condition, h.condition]
    simp only [begins, exists_or, or_assoc]
  · have once : EpisodeBegins s t d → ¬EpisodeBegins t u d := fun ⟨_, set⟩ ⟨clear, _⟩ =>
      Bool.false_ne_true (clear.symm.trans set)
    rw [List.filter_append, List.length_append]
    have both := Nat.add_le_add (count d) (count' d)
    refine both.trans ?_
    simp only [begins]
    by_cases first : EpisodeBegins s t d
    · rw [if_pos first, if_neg (once first), if_pos (.inl first)]
    · rw [if_neg first, Nat.zero_add]
      by_cases second : EpisodeBegins t u d
      · rw [if_pos second, if_pos (.inr second)]
      · rw [if_neg second]
        exact Nat.zero_le _

theorem Sweeps.gapsReported {s t : State} (h : Sweeps s t) (finals : OnlyFinals s t) : GapsReported s t :=
  gapsReported_of_finals finals (fun d => by rw [(h.drains d).1]) h.conds.1

theorem gapsReported_gapEpisodeTest (s : State) (d : Drain) (takeId pos offset : Nat) (reason : DrneReason) :
    GapsReported s (s.gapEpisodeTest d takeId pos offset reason) := by
  cases flag : (s.drain d).gapEpisode with
  | true =>
    rw [gapEpisodeTest_again (set := flag)]
    exact GapsReported.refl s
  | false =>
    have begun : EpisodeBegins s (s.gapEpisodeTest d takeId pos offset reason) d :=
      ⟨flag, by rw [gapEpisodeTest_drain]⟩
    have others (e : Drain) (other : e ≠ d) :
        ((s.gapEpisodeTest d takeId pos offset reason).drain e).gapEpisode = (s.drain e).gapEpisode := by
      rw [gapEpisodeTest_drain_other (other := other)]
    refine ⟨fun e set => ?_, ?_, ?_⟩
    · by_cases same : e = d
      · rw [same]
        exact begun.2
      · rw [others e same, set]
    · exact iff_of_true (gapEpisodeTest_deliveryGap (clear := flag) ..) (.inr ⟨d, begun⟩)
    · by_cases room : NoticeRoom s
      · refine ⟨_, gapEpisodeTest_notices (clear := flag) (room := room) .., fun e => ?_, fun n among => ?_⟩
        · by_cases same : e = d
          · subst same
            rw [if_pos begun]
            exact List.length_filter_le ..
          · have apart : (d == e) = false := beq_eq_false_iff_ne.2 fun h => same h.symm
            rw [List.filter_cons_of_neg (by show ¬(d == e) = true; rw [apart]; nofun)]
            exact Nat.zero_le _
        · rw [List.mem_singleton.1 among]
          cases d
          · exact .inr (.inl rfl)
          · exact .inr (.inr rfl)
      · refine ⟨[], ?_, fun e => Nat.zero_le _, fun n among => absurd among List.not_mem_nil⟩
        rw [gapEpisodeTest_new (clear := flag), notify_full _ (by exact room), List.append_nil]
        rfl

/-! ## The pushes report their gaps -/

theorem pushed_gapsReported (s : State) (id : Nat) (d : Drain) (r : TakeRecord) : GapsReported s (s.pushed id d r) := by
  have moved : GapsReported s (s.updSection id d fun x => x.pushedBy ((r.sections.get d).formation - r.start)
      (pushTarget s.oldest r.endPos - (r.sections.get d).formation)) :=
    gapsReported_of_finals (.of_link rfl) (fun _ => rfl) rfl
  exact moved.trans (gapsReported_gapEpisodeTest ..)

theorem settleDone_gapsReported (s : State) (id : Nat) (d : Drain) : GapsReported s (s.settleDone id d) :=
  (sweeps_settleDone s id d).gapsReported (onlyFinals_settleDone s id d)

theorem push_gapsReported (s : State) (id : Nat) (d : Drain) : GapsReported s (s.push id d) := by
  cases found : s.record? id with
  | none =>
    rw [push_gone found]
    exact GapsReported.refl s
  | some r =>
    rw [push_found found]
    split
    · exact (pushed_gapsReported ..).trans (settleDone_gapsReported ..)
    · exact GapsReported.refl s

theorem pushes_gapsReported (l : List Nat) (s : State) :
    GapsReported s (runAll (fun id s => (s.push id .a).push id .b) l s) := by
  induction l generalizing s with
  | nil => exact GapsReported.refl s
  | cons id l ih => exact ((push_gapsReported s id .a).trans (push_gapsReported _ id .b)).trans (ih _)

/-! ## A section through the pushes of others -/

/-- A take's section for a drain as the pushes of other sections leave it. -/
structure SectionStands (d : Drain) (p q : TakeRecord) : Prop where
  start : q.start = p.start
  endPos : q.endPos = p.endPos
  cell : SectionFollows (p.sections.get d) (q.sections.get d)
  live : (p.sections.get d).live = true → (q.sections.get d).live = true

/-- From `s` to `t` the ring stays, no notice is lost, and the section of take `id` for drain `d` stands. -/
structure Stands (id : Nat) (d : Drain) (s t : State) : Prop where
  ring : t.ring = s.ring
  record : ∀ p, s.record? id = some p → ∃ q, t.record? id = some q ∧ SectionStands d p q

theorem SectionStands.refl (d : Drain) (p : TakeRecord) : SectionStands d p p :=
  ⟨rfl, rfl, SectionFollows.refl _, fun live => live⟩

theorem SectionStands.trans {d : Drain} {p q r : TakeRecord} (h : SectionStands d p q) (k : SectionStands d q r) :
    SectionStands d p r :=
  ⟨k.start.trans h.start, k.endPos.trans h.endPos, h.cell.trans k.cell, fun live => k.live (h.live live)⟩

section
variable {id : Nat} {d : Drain}

theorem Stands.refl (s : State) : Stands id d s s := ⟨rfl, fun p found => ⟨p, found, SectionStands.refl d p⟩⟩

theorem Stands.trans {s t u : State} (h : Stands id d s t) (k : Stands id d t u) : Stands id d s u := by
  refine ⟨k.ring.trans h.ring, fun p found => ?_⟩
  obtain ⟨q, found', stands⟩ := h.record p found
  obtain ⟨r, found'', stands'⟩ := k.record q found'
  exact ⟨r, found'', stands.trans stands'⟩

theorem stands_runAll {α : Type} (f : α → State → State) (xs : List α) (hf : ∀ x ∈ xs, ∀ s, Stands id d s (f x s))
    (s : State) : Stands id d s (runAll f xs s) := by
  induction xs generalizing s with
  | nil => exact Stands.refl s
  | cons x xs ih =>
    exact (hf x List.mem_cons_self s).trans (ih (fun y later => hf y (List.mem_cons_of_mem _ later)) _)

theorem stands_sweepList (s : State) : Stands id d s s.sweepList := by
  refine ⟨(confined_sweepList s).ring, fun p found => ?_⟩
  obtain ⟨q, after, follows⟩ := sweepList_record? s found
  obtain ⟨q', after', records, -⟩ := (sweeps_sweepList s).records id p found
  obtain rfl := Option.some.inj (after.symm.trans after')
  refine ⟨q, after, by rw [follows.same]; rfl, by rw [follows.same]; rfl, records.sections d, fun live => ?_⟩
  rw [follows.live, movedOn_sections, movedOn_live, live]

theorem stands_updSection (s : State) {j : Nat} {e : Drain} (other : j ≠ id ∨ e ≠ d) (f : Section → Section) :
    Stands id d s (s.updSection j e f) := by
  refine ⟨rfl, fun p found => ?_⟩
  have held := record?_id found
  rw [record?_updSection, found]
  refine ⟨_, rfl, ?_⟩
  dsimp only
  split
  · rename_i same
    have apart : d ≠ e := fun h => other.elim (fun ne => ne (same.symm.trans held)) fun ne => ne h.symm
    have kept : (p.sections.modify e f).get d = p.sections.get d := PerDrain.get_modify_other _ _ _ _ apart
    exact ⟨rfl, rfl, by rw [kept]; exact SectionFollows.refl _, fun live => by rw [kept]; exact live⟩
  · exact SectionStands.refl d p

theorem stands_testDone (s : State) {j : Nat} {e : Drain} (other : j ≠ id ∨ e ≠ d) : Stands id d s (s.testDone j e) := by
  unfold State.testDone
  split
  · exact Stands.refl s
  · split
    · exact stands_updSection s other _
    · exact Stands.refl s

theorem stands_gapEpisodeTest (s : State) (e : Drain) (takeId pos offset : Nat) (reason : DrneReason) :
    Stands id d s (s.gapEpisodeTest e takeId pos offset reason) := by
  refine ⟨(confined_gapEpisodeTest ..).ring, fun p found => ⟨p, ?_, SectionStands.refl d p⟩⟩
  rw [gapEpisodeTest_record?, found]

theorem stands_push (s : State) {j : Nat} {e : Drain} (other : j ≠ id ∨ e ≠ d) : Stands id d s (s.push j e) := by
  cases found : s.record? j with
  | none =>
    rw [push_gone found]
    exact Stands.refl s
  | some r =>
    rw [push_found found]
    split
    · have pushed : Stands id d s (s.pushed j e r) := (stands_updSection s other _).trans (stands_gapEpisodeTest ..)
      exact pushed.trans ((stands_testDone _ other).trans (stands_sweepList _))
    · exact Stands.refl s

theorem stands_pushes (s : State) (l : List Nat) (others : id ∉ l) :
    Stands id d s (runAll (fun id s => (s.push id .a).push id .b) l s) := by
  refine stands_runAll _ l (fun j among s => ?_) s
  have ne : j ≠ id := fun same => others (same ▸ among)
  exact (stands_push s (.inl ne)).trans (stands_push _ (.inl ne))

end

/-! ## A section through the pushes of a write (R126) -/

/-- From `s` to `t` the section of take `id` for drain `d`, which stands in `p`, has had its push: pushed up to the target, its
gap recorded and the episode flag set, or left where it is not behind. -/
structure PushDone (s t : State) (id : Nat) (d : Drain) (p q : TakeRecord) : Prop where
  found : t.record? id = some q
  left : pushTarget s.oldest p.endPos ≤ (p.sections.get d).formation → SectionFollows (p.sections.get d) (q.sections.get d)
  pushed : (p.sections.get d).formation < pushTarget s.oldest p.endPos →
    SectionFollows ((p.sections.get d).pushedBy ((p.sections.get d).formation - p.start)
      (pushTarget s.oldest p.endPos - (p.sections.get d).formation)) (q.sections.get d)
    ∧ (t.drain d).gapEpisode = true

section
variable {s t u : State} {id : Nat} {d : Drain} {p q : TakeRecord}

theorem push_done (found : s.record? id = some p) (live : (p.sections.get d).live = true) :
    ∃ q, PushDone s (s.push id d) id d p q := by
  by_cases behind : (p.sections.get d).formation < pushTarget s.oldest p.endPos
  · have run : s.push id d = (s.pushed id d p).settleDone id d := (push_found found).trans (if_pos ⟨live, behind⟩)
    have moved : (s.pushed id d p).record? id = some { p with
        sections := p.sections.modify d fun x => x.pushedBy ((p.sections.get d).formation - p.start)
          (pushTarget s.oldest p.endPos - (p.sections.get d).formation) } := by
      rw [State.pushed, gapEpisodeTest_record?]
      exact record?_updRecord_same (f := fun r => { r with sections := r.sections.modify d _ }) (fun _ => rfl) found
    obtain ⟨q, after, follows, -⟩ := (sweeps_settleDone (s.pushed id d p) id d).records id _ moved
    have cell := follows.sections d
    rw [PerDrain.get_modify_same] at cell
    have flag : ((s.pushed id d p).drain d).gapEpisode = true := by rw [State.pushed, gapEpisodeTest_drain]
    rw [run]
    exact ⟨q, after, fun ahead => absurd behind (Nat.not_lt.2 ahead),
      fun _ => ⟨cell, (settleDone_gapsReported (s.pushed id d p) id d).flags d flag⟩⟩
  · have run : s.push id d = s := (push_found found).trans (if_neg fun h => behind h.2)
    rw [run]
    exact ⟨p, found, fun _ => SectionFollows.refl _, fun h => absurd h behind⟩

/-- What follows the push leaves the section, and no episode ends. -/
theorem PushDone.then (h : PushDone s t id d p q) (k : Stands id d t u) (g : GapsReported t u) :
    ∃ r, PushDone s u id d p r := by
  obtain ⟨r, found, stands⟩ := k.record q h.found
  exact ⟨r, found, fun ahead => (h.left ahead).trans stands.cell,
    fun behind => ⟨(h.pushed behind).1.trans stands.cell, g.flags d (h.pushed behind).2⟩⟩

/-- What comes before the push leaves the section where it was. -/
theorem PushDone.after (stands : SectionStands d p q) (ring : t.ring = s.ring) {r : TakeRecord}
    (h : PushDone t u id d q r) : PushDone s u id d p r := by
  have o : t.oldest = s.oldest := by rw [State.oldest, State.oldest, ring]
  have formation := stands.cell.kept.1
  obtain ⟨found, left, pushed⟩ := h
  rw [o, stands.endPos, formation] at left pushed
  rw [stands.start] at pushed
  exact ⟨found, fun ahead => stands.cell.trans (left ahead),
    fun behind => ⟨(stands.cell.pushedBy _ _).trans (pushed behind).1, (pushed behind).2⟩⟩

/-- Both sections of a take are pushed, drain A's first. -/
theorem pushBoth_done (found : s.record? id = some p) (live : (p.sections.get d).live = true) :
    ∃ q, PushDone s ((s.push id .a).push id .b) id d p q := by
  cases d with
  | a =>
    obtain ⟨q, done⟩ := push_done found live
    exact done.then (stands_push _ (.inr nofun)) (push_gapsReported ..)
  | b =>
    have first : Stands id .b s (s.push id .a) := stands_push s (.inr nofun)
    obtain ⟨q, found', stands⟩ := first.record p found
    obtain ⟨r, done⟩ := push_done found' (stands.live live)
    exact ⟨r, done.after stands first.ring⟩

/-- The pushes of a list that names the take once. -/
theorem pushes_done (l : List Nat) (nodup : l.Nodup) (listed : id ∈ l) (s : State) {p : TakeRecord}
    (found : s.record? id = some p) (live : (p.sections.get d).live = true) :
    ∃ q, PushDone s (runAll (fun id s => (s.push id .a).push id .b) l s) id d p q := by
  induction l generalizing s p with
  | nil => cases listed
  | cons j l ih =>
    obtain ⟨fresh, nodup⟩ := List.nodup_cons.1 nodup
    rcases List.mem_cons.1 listed with rfl | later
    · obtain ⟨q, done⟩ := pushBoth_done found live
      exact done.then (stands_pushes _ l fresh) (pushes_gapsReported l _)
    · have ne : j ≠ id := fun same => fresh (same ▸ later)
      have first : Stands id d s ((s.push j .a).push j .b) := (stands_push s (.inl ne)).trans (stands_push _ (.inl ne))
      obtain ⟨q, found', stands⟩ := first.record p found
      obtain ⟨r, done⟩ := ih nodup later _ found' (stands.live live)
      exact ⟨r, done.after stands first.ring⟩

/-- The first notice of the pushes where one section alone is pushed. -/
theorem pushes_notice (found : s.record? id = some p) (live : (p.sections.get d).live = true)
    (behind : (p.sections.get d).formation < pushTarget s.oldest p.endPos)
    (others : ∀ e, e ≠ d → (p.sections.get e).live = false) (clear : (s.drain d).gapEpisode = false) (room : NoticeRoom s) :
    s.link.notices ++ [{ seq := s.link.nextSeq
                         notice := .drne d .gap id (p.sections.get d).formation ((p.sections.get d).formation - p.start) .push
                           (s.drain d).settings.holdTimeout }]
      <+: ((s.push id .a).push id .b).link.notices := by
  have grows (s : State) (e : Drain) : s.link.notices <+: (s.push id e).link.notices := by
    obtain ⟨new, grown, -⟩ := (push_gapsReported s id e).notices
    exact ⟨new, grown.symm⟩
  have run : s.push id d = (s.pushed id d p).settleDone id d := (push_found found).trans (if_pos ⟨live, behind⟩)
  have notice : (s.pushed id d p).link.notices = s.link.notices ++ [{
      seq := s.link.nextSeq
      notice := .drne d .gap id (p.sections.get d).formation ((p.sections.get d).formation - p.start) .push
        (s.drain d).settings.holdTimeout }] := gapEpisodeTest_notices (clear := clear) (room := room) ..
  have first : (s.pushed id d p).link.notices <+: (s.push id d).link.notices := by
    rw [run]
    exact (sweeps_settleDone (s.pushed id d p) id d).notices
  rw [← notice]
  cases d with
  | a => exact first.trans (grows _ .b)
  | b =>
    have left : s.push id .a = s := (push_found found).trans (if_neg fun h =>
      Bool.false_ne_true ((others .a nofun).symm.trans h.1))
    rw [left]
    exact first

end

/-! ## The audio frame (R58, R126) -/

/-- The machine after the ring's write, before the pushes. -/
def State.stored (u : State) (slots : Vector (BitVec 32) 16) : State :=
  (u.takeSync.conditionFrame slots).writeRing (u.trackSamples slots)

section
variable (u : State) (slots : Vector (BitVec 32) 16) (l1 l2 : Bool)

theorem takeAudio_pushes : u.takeAudio slots l1 l2 = (runAll (fun id s => (s.push id .a).push id .b)
    (u.stored slots).delivery.list (u.stored slots)).takePosition l1 l2 u.ring.p := rfl

theorem conditionFrame_kept (s : State) : (s.conditionFrame slots).link = s.link
    ∧ (s.conditionFrame slots).delivery = s.delivery := by
  unfold State.conditionFrame
  generalize s.frameEvents slots = l
  generalize s.routerAfter slots = r
  obtain ⟨link, delivery, -⟩ := runAll_intake_frame l ((s.modInputs fun i => i.takeSlots slots).modRouter fun _ => r)
  rw [State.modRouter_link, State.modInputs_link] at link
  rw [State.modRouter_delivery, State.modInputs_delivery] at delivery
  exact ⟨link, delivery⟩

theorem stored_delivery : (u.stored slots).delivery = u.delivery := by
  obtain ⟨-, -, -, -, delivery, -⟩ := takeSync_spec u
  exact (conditionFrame_kept slots u.takeSync).2.trans delivery

theorem stored_link : (u.stored slots).link.notices = u.link.notices ∧ (u.stored slots).link.nextSeq = u.link.nextSeq
    ∧ (u.stored slots).link.conds.deliveryGap = u.link.conds.deliveryGap := by
  have same : (u.stored slots).link = u.takeSync.link := (conditionFrame_kept slots u.takeSync).1
  rw [same]
  unfold State.takeSync
  dsimp only
  split
  · exact ⟨rfl, rfl, rfl⟩
  · exact ⟨rfl, rfl, rfl⟩

/-- The events of the frame leave the positions and the sections of every record. -/
theorem intakes_record? (l : List Event) (s : State) {id : Nat} {p : TakeRecord} (found : s.record? id = some p) :
    ∃ q, (runAll (fun e s => s.intake e) l s).record? id = some q
      ∧ q = { p with events := q.events, eventsLost := q.eventsLost } := by
  have entered (e : Event) (p : TakeRecord) :
      p.enter e = { p with events := (p.enter e).events, eventsLost := (p.enter e).eventsLost } := by
    unfold TakeRecord.enter
    split <;> rfl
  induction l generalizing s p with
  | nil => exact ⟨p, found, rfl⟩
  | cons e l ih =>
    have step : ∃ q, (s.intake e).record? id = some q ∧ q = { p with events := q.events, eventsLost := q.eventsLost } := by
      unfold State.intake
      split
      · exact ⟨p, found, rfl⟩
      · split
        · rw [record?_updRecord s _ id (TakeRecord.enter e) fun r => by rw [entered], found]
          refine ⟨_, rfl, ?_⟩
          dsimp only
          split
          · exact entered e p
          · rfl
        · exact ⟨p, found, rfl⟩
    obtain ⟨q, found', same⟩ := step
    obtain ⟨r, found'', same'⟩ := ih _ found'
    exact ⟨r, found'', by rw [same', same]⟩

theorem stored_record? {id : Nat} {p : TakeRecord} (found : u.record? id = some p) : ∃ q, (u.stored slots).record? id = some q
    ∧ q.start = p.start ∧ q.endPos = p.endPos ∧ q.sections = p.sections := by
  obtain ⟨-, -, -, takes, -⟩ := takeSync_spec u
  have before : ((u.takeSync.modInputs fun i => i.takeSlots slots).modRouter fun _ =>
      u.takeSync.routerAfter slots).record? id = some p := by
    rw [State.record?, State.modRouter_takes, State.modInputs_takes, takes]
    exact found
  obtain ⟨q, after, same⟩ := intakes_record? (u.takeSync.frameEvents slots) _ before
  exact ⟨q, after, by rw [same], by rw [same], by rw [same]⟩

theorem takeAudio_gapsReported : GapsReported u (u.takeAudio slots l1 l2) := by
  obtain ⟨notices, -, condition⟩ := stored_link u slots
  have same : GapsReported u (u.stored slots) := gapsReported_of_finals (.of_link notices)
    (fun d => by rw [State.drain, stored_delivery, State.drain]) condition
  have last (s : State) : GapsReported s (s.takePosition l1 l2 u.ring.p) :=
    gapsReported_of_finals (.of_link rfl) (fun _ => rfl) rfl
  rw [takeAudio_pushes]
  exact (same.trans (pushes_gapsReported _ _)).trans (last _)

end

/-- Settles O45: each listed section has one push of its own, which the others leave; every push reports its gap. -/
theorem lostRunsAreRecordedAsGaps : Obligations.LostRunsAreRecordedAsGaps := by
  unfold Obligations.LostRunsAreRecordedAsGaps
  refine ⟨?pushes, ?reports, fun x offset length => ⟨recordGap_first x offset length, fun rest g gaps => ?entry⟩⟩
  case entry =>
    rw [recordGap_next x offset length gaps]
    refine ⟨fun after => if_pos after, fun apart before => (if_neg apart).trans (if_pos before), fun apart apart' =>
      ⟨fun room => ?_, fun full => ?_⟩⟩
    · rw [if_neg apart, if_neg apart', if_pos room]
    · rw [if_neg apart, if_neg apart', if_neg (Nat.not_lt.2 full)]
  case reports =>
    intro s u t slots l1 l2 settled run
    have ran : u.takeAudio slots l1 l2 = t := by
      rw [settled]
      exact Host.Outcome.next.inj run
    have reported := takeAudio_gapsReported u slots l1 l2
    rw [ran] at reported
    exact ⟨reported.condition, reported.flags, reported.notices⟩
  case pushes =>
    intro s u slots l1 l2 settled nodup
    refine ⟨u.takeAudio slots l1 l2, by rw [settled]; rfl, fun id r d x lost listed found hx live hlost => ?_⟩
    obtain ⟨p, before, start, ends, cells⟩ := stored_record? u slots found
    have list : (u.stored slots).delivery.list = u.delivery.list := by rw [stored_delivery]
    have drains (e : Drain) : (u.stored slots).drain e = u.drain e := by rw [State.drain, stored_delivery, State.drain]
    have live' : (p.sections.get d).live = true := by rwa [cells, ← hx]
    obtain ⟨q, done⟩ := pushes_done (u.stored slots).delivery.list (by rwa [list]) (by rwa [list]) (u.stored slots) before live'
    have ring : (u.takeAudio slots l1 l2).ring = (u.stored slots).ring := by
      obtain ⟨-, -, -, ring, -⟩ := takePosition_frame (u.stored slots).overrun l1 l2 u.ring.p
      rw [takeAudio_pushes]
      exact ring.trans (confined_overrun (u.stored slots)).ring
    have oldest : (u.stored slots).oldest = (u.takeAudio slots l1 l2).ring.p - 2097152 := by
      rw [ring]
      unfold State.oldest oldestRetained
      rfl
    have target : lost = pushTarget (u.stored slots).oldest p.endPos - x.formation := by
      rw [hlost, ← oldest, ends]
      cases r.endPos <;> rfl
    have cell : p.sections.get d = x := by rw [cells, hx]
    have flag : (u.drain d).gapEpisode = ((u.stored slots).drain d).gapEpisode := by rw [drains]
    have reported := takeAudio_gapsReported u slots l1 l2
    obtain ⟨after, left, pushed⟩ := done
    rw [cell, start] at pushed
    rw [cell] at left
    have run := takeAudio_pushes u slots l1 l2
    generalize pushes : runAll (fun id s => (s.push id .a).push id .b) (u.stored slots).delivery.list (u.stored slots) = v at *
    have drain (e : Drain) : (u.takeAudio slots l1 l2).drain e = v.drain e := by rw [run]; rfl
    have record : (u.takeAudio slots l1 l2).record? id = v.record? id := by rw [run]; rfl
    have link : (u.takeAudio slots l1 l2).link = v.link := by rw [run]; rfl
    refine ⟨q, record.trans after, fun none_lost => (left (by omega)).same, fun some_lost => ?_⟩
    obtain ⟨moved, begun⟩ := pushed (by omega)
    rw [← target] at moved
    rw [← drain] at begun
    refine ⟨moved.same.trans (by rw [pushedBy_eq]), begun, fun clear =>
      ⟨reported.condition.2 (.inr ⟨d, clear, begun⟩), fun room alone others => ?_⟩⟩
    obtain ⟨notices, nextSeq, -⟩ := stored_link u slots
    have first := pushes_notice (s := u.stored slots) before live' (by rw [cell]; omega) (fun e other => by
      rw [cells]; exact others e other) (flag ▸ clear) (by rw [NoticeRoom, notices]; exact room)
    rw [notices, nextSeq, drains, cell, start] at first
    rw [list, alone, runAll, runAll] at pushes
    rw [pushes] at first
    rw [link]
    exact first

end Sys2Proof.Machine
end

section
/-! What every operation of takes and delivery keeps, as one invariant in three layers: the capacities and the open take, which
hold in every legal state; the table and the list, which need the next take ids free (log entry 34); and the accounts of the
takes (R70, R110, R111), which need P to have a next value (log entry 5). -/

namespace Sys2Proof.Machine

/-! ## The three layers -/

/-- The lists of a take record hold at most their capacity (R72, R73, R110). -/
structure RecordCapped (r : TakeRecord) : Prop where
  comments : r.slate.comments.length ≤ 8
  events : r.events.length ≤ 32
  gaps : ∀ d : Drain, (r.sections.get d).gaps.length ≤ 8

/-- What the operations of takes and delivery keep of every legal state, with REFERENCE LOST at `b`. -/
structure CoreLegal (b : Bool) (s : State) : Prop where
  reference : s.link.conds.referenceLost = b
  notices : s.link.notices.length ≤ 32
  list : s.delivery.list.length ≤ 4
  comments : s.binding.comments.length ≤ 8
  records : ∀ r ∈ s.takes.table, RecordCapped r
  takes : OneOpenTake s.takes
  nextId : NextIdInRange s.takes
  stalled : s.link.conds.drainStalled = true ↔ (s.drain .a).stalled = true ∨ (s.drain .b).stalled = true

/-- A legal take table and list, with the next `k` take ids free (R75, R76, R109, log entry 34). -/
structure TableKept (k : Nat) (s : State) : Prop where
  table : TableLegal s
  fresh : ∀ i < k, ∀ r ∈ s.takes.table, r.id ≠ followingId^[i] s.takes.nextId

/-- The three layers: the table's where `t` holds, the accounts where `a` holds too. -/
structure Kept (t a : Prop) (b : Bool) (k : Nat) (s : State) : Prop where
  core : CoreLegal b s
  table : t → TableKept k s
  accounts : t → a → TakesAccounted s

/-! ## The table's layer by ids and list -/

theorem mem_ids {s : State} {id : Nat} : (id ∈ s.takes.table.map fun r => r.id) ↔ ∃ r ∈ s.takes.table, r.id = id := by
  simp

/-- The table's layer sees the ids of the table, the next id and the list alone. -/
theorem TableKept.of_ids {k : Nat} {s u : State} (h : TableKept k s)
    (ids : u.takes.table.map (fun r => r.id) = s.takes.table.map fun r => r.id) (next : u.takes.nextId = s.takes.nextId)
    (list : u.delivery.list.Sublist s.delivery.list) : TableKept k u := by
  obtain ⟨⟨capacity, nodup, single, listed⟩, fresh⟩ := h
  have length : u.takes.table.length = s.takes.table.length := by
    have := congrArg List.length ids
    simpa using this
  refine ⟨⟨length ▸ capacity, ids ▸ nodup, single.sublist list, fun id among => ids ▸ listed id (list.subset among)⟩,
    fun i below r held => ?_⟩
  have there : r.id ∈ s.takes.table.map fun r => r.id := ids ▸ List.mem_map.2 ⟨r, held, rfl⟩
  obtain ⟨q, before, same⟩ := mem_ids.1 there
  rw [next, ← same]
  exact fresh i below q before

theorem TableKept.fewer {k n : Nat} {s : State} (h : TableKept (k + n) s) : TableKept k s :=
  ⟨h.table, fun i below => h.fresh i (Nat.lt_add_right n below)⟩

theorem TableKept.record? {k : Nat} {s : State} (h : TableKept k s) {r : TakeRecord} (held : r ∈ s.takes.table) :
    s.record? r.id = some r := record?_of_mem h.table.ids held

theorem TableKept.unique {k : Nat} {s : State} (h : TableKept k s) {id : Nat} {p r : TakeRecord}
    (found : s.record? id = some p) (held : r ∈ s.takes.table) (same : r.id = id) : r = p :=
  Option.some.inj ((h.record? held).symm.trans (same ▸ found))

/-! ## The core's layer -/

namespace CoreLegal

variable {b : Bool} {s u : State}

/-- The core's layer sees these parts alone. -/
theorem congr (h : CoreLegal b s) (reference : u.link.conds.referenceLost = b) (notices : u.link.notices.length ≤ 32)
    (takes : u.takes.table = s.takes.table ∧ u.takes.state = s.takes.state ∧ u.takes.nextId = s.takes.nextId)
    (list : u.delivery.list.length ≤ s.delivery.list.length) (comments : u.binding.comments.length ≤ 8)
    (stalled : u.link.conds.drainStalled = true ↔ (u.drain .a).stalled = true ∨ (u.drain .b).stalled = true) :
    CoreLegal b u := by
  obtain ⟨table, state, nextId⟩ := takes
  refine ⟨reference, notices, list.trans h.list, comments, table ▸ h.records, ⟨table ▸ h.takes.atMostOne, ?_⟩, ?_, stalled⟩
  · rw [state, table]
    exact h.takes.stopped
  · unfold NextIdInRange
    rw [nextId]
    exact h.nextId

/-- A change of records that keeps their capacities and opens none. -/
theorem mapTable (h : CoreLegal b s) {f : TakeRecord → TakeRecord} (capped : ∀ r, RecordCapped r → RecordCapped (f r))
    (opened : ∀ r, (f r).state = .opened → r.state = .opened) :
    CoreLegal b (s.modTakes fun t => { t with table := t.table.map f }) := by
  refine ⟨h.reference, h.notices, h.list, h.comments, fun q held => ?_, ⟨?_, fun stopped q held => ?_⟩, h.nextId, h.stalled⟩
  · obtain ⟨r, before, rfl⟩ := List.mem_map.1 held
    exact capped r (h.records r before)
  · refine Nat.le_trans ?_ h.takes.atMostOne
    change ((s.takes.table.map f).filter fun r => r.state == .opened).length ≤ _
    rw [List.filter_map, List.length_map]
    refine (List.monotone_filter_right s.takes.table fun r => ?_).length_le
    simp only [Function.comp_apply, beq_iff_eq]
    exact opened r
  · obtain ⟨r, before, rfl⟩ := List.mem_map.1 held
    exact fun open_now => h.takes.stopped stopped r before (opened r open_now)

theorem updRecord (h : CoreLegal b s) {id : Nat} {f : TakeRecord → TakeRecord}
    (capped : ∀ r, RecordCapped r → RecordCapped (f r)) (opened : ∀ r, (f r).state = .opened → r.state = .opened) :
    CoreLegal b (s.updRecord id f) := by
  refine h.mapTable (f := fun r => if r.id = id then f r else r) (fun r before => ?_) fun r => ?_
  · split
    · exact capped r before
    · exact before
  · split
    · exact opened r
    · exact fun same => same

end CoreLegal

theorem RecordCapped.section {r : TakeRecord} (h : RecordCapped r) {d : Drain} {f : Section → Section}
    (gaps : ∀ x, x.gaps.length ≤ 8 → (f x).gaps.length ≤ 8) :
    RecordCapped { r with sections := r.sections.modify d f } := by
  refine ⟨h.comments, h.events, fun e => ?_⟩
  by_cases same : e = d
  · rw [same, PerDrain.get_modify_same]
    exact gaps _ (h.gaps d)
  · rw [PerDrain.get_modify_other _ _ _ _ same]
    exact h.gaps e

theorem CoreLegal.updSection {b : Bool} {s : State} (h : CoreLegal b s) {id : Nat} {d : Drain} {f : Section → Section}
    (gaps : ∀ x, x.gaps.length ≤ 8 → (f x).gaps.length ≤ 8) : CoreLegal b (s.updSection id d f) :=
  h.updRecord (fun _ capped => capped.section gaps) fun _ open_now => open_now

/-! ## The accounts' layer -/

theorem flightOf_congr {x y : DrainState} (same : y.inFlight = x.inFlight) (id : Nat) : y.flightOf id = x.flightOf id := by
  rw [DrainState.flightOf, DrainState.flightOf, same]

theorem flightOf_idle {x : DrainState} (idle : x.inFlight = none) (id : Nat) : x.flightOf id = 0 := by
  rw [DrainState.flightOf, idle]

theorem flightOf_unsettled {x : DrainState} {b : Block} {id : Nat} (flight : x.inFlight = some b)
    (own : b.header.takeId = id ∧ b.settled = false) : x.flightOf id = b.header.count := by
  rw [DrainState.flightOf, flight]
  exact if_pos own

theorem flightOf_foreign {x : DrainState} {b : Block} {id : Nat} (flight : x.inFlight = some b)
    (foreign : ¬(b.header.takeId = id ∧ b.settled = false)) : x.flightOf id = 0 := by
  rw [DrainState.flightOf, flight]
  exact if_neg foreign

/-- The accounts see these parts alone. -/
theorem TakesAccounted.congr {s u : State} (h : TakesAccounted s) (ring : u.ring.p = s.ring.p)
    (table : u.takes.table = s.takes.table) (state : u.takes.state = s.takes.state)
    (preRoll : u.takes.caps.preRoll ≤ 480000) (due : ∀ m, u.takes.markDue = some m → m.pos = u.ring.p)
    (list : u.delivery.list = s.delivery.list)
    (drains : ∀ d, (u.drain d).inFlight = (s.drain d).inFlight
      ∧ ((s.drain d).settings.enabled = true → (s.drain d).inFlight ≠ none → (u.drain d).settings.enabled = true))
    (edges : ∀ n, EdgesRecent u.ring.p (u.triggers.get n)) : TakesAccounted u := by
  have record (id : Nat) : u.record? id = s.record? id := by rw [State.record?, State.record?, table]
  have oldest : u.oldest = s.oldest := by rw [State.oldest, State.oldest, ring]
  refine ⟨?_, ?_, fun d b flight => ?_, ?_, ?_, ?_, preRoll, due, edges⟩
  · rw [table, ring]
    exact h.positions
  · rw [table, ring]
    intro r held d
    rw [flightOf_congr (drains d).1]
    exact h.sections r held d
  · rw [(drains d).1] at flight
    obtain ⟨enabled, own⟩ := h.blocks d b flight
    refine ⟨(drains d).2 enabled (by rw [flight]; nofun), fun unsettled => ?_⟩
    rw [record, oldest]
    exact own unsettled
  · rw [table, list]
    exact h.listed
  · rw [table, list]
    exact h.left
  · rw [table, state]
    exact h.tail

/-! ## The invariant under small changes -/

namespace Kept

variable {t a : Prop} {b : Bool} {k n : Nat} {s u : State}

theorem fewer (h : Kept t a b (k + n) s) : Kept t a b k s := ⟨h.core, fun table => (h.table table).fewer, h.accounts⟩

theorem ite {p : Prop} [Decidable p] (yes : p → Kept t a b k s) (no : ¬p → Kept t a b k u) :
    Kept t a b k (if p then s else u) := by
  split
  · rename_i holds
    exact yes holds
  · rename_i fails
    exact no fails

theorem each {α : Type} {f : α → State → State} {xs : List α} (h : Kept t a b k s)
    (keeps : ∀ x ∈ xs, ∀ v, Kept t a b k v → Kept t a b k (f x v)) : Kept t a b k (runAll f xs s) := by
  induction xs generalizing s with
  | nil => exact h
  | cons x xs ih =>
    exact ih (keeps x List.mem_cons_self s h) fun y later => keeps y (List.mem_cons_of_mem _ later)

/-- A change outside takes, delivery, ring and triggers. -/
theorem blocks (h : Kept t a b k s) (takes : u.takes = s.takes) (delivery : u.delivery = s.delivery) (ring : u.ring = s.ring)
    (triggers : u.triggers = s.triggers) (comments : u.binding.comments.length ≤ 8) (notices : u.link.notices.length ≤ 32)
    (reference : u.link.conds.referenceLost = b) (stalled : u.link.conds.drainStalled = s.link.conds.drainStalled) :
    Kept t a b k u := by
  have drain (d : Drain) : u.drain d = s.drain d := by rw [State.drain, State.drain, delivery]
  refine ⟨h.core.congr reference notices (by rw [takes]; exact ⟨rfl, rfl, rfl⟩) (by rw [delivery]) comments
    (by rw [stalled, drain, drain]; exact h.core.stalled), fun table => (h.table table).of_ids (by rw [takes]) (by rw [takes])
      (by rw [delivery]), fun table accounts => ?_⟩
  have accounted := h.accounts table accounts
  refine accounted.congr (by rw [ring]) (by rw [takes]) (by rw [takes]) (by rw [takes]; exact accounted.preRoll)
    (by rw [takes, ring]; exact accounted.markDue) (by rw [delivery]) (fun d => ?_)
    (by rw [ring, triggers]; exact accounted.edges)
  rw [drain]
  exact ⟨rfl, fun enabled _ => enabled⟩

theorem notify (h : Kept t a b k s) (n : Notice) : Kept t a b k (s.notify n) := by
  have conds : (s.notify n).link.conds.referenceLost = s.link.conds.referenceLost
      ∧ (s.notify n).link.conds.drainStalled = s.link.conds.drainStalled := by
    by_cases room : NoticeRoom s
    · rw [notify_room n room]
      exact ⟨rfl, rfl⟩
    · rw [notify_full n room]
      exact ⟨rfl, rfl⟩
  exact h.blocks rfl rfl rfl rfl h.core.comments (notify_capacity n h.core.notices) (conds.1.trans h.core.reference) conds.2

/-- A change of a drain's flags, timer or settings that leaves its block, its stall, and enable where a block is in flight. -/
theorem modFlags (h : Kept t a b k s) {d : Drain} {f : DrainState → DrainState}
    (flight : (f (s.drain d)).inFlight = (s.drain d).inFlight) (stalled : (f (s.drain d)).stalled = (s.drain d).stalled)
    (enabled : (s.drain d).settings.enabled = true → (s.drain d).inFlight ≠ none →
      (f (s.drain d)).settings.enabled = true) : Kept t a b k (s.modDrain d f) := by
  have drain (e : Drain) : ((s.modDrain d f).drain e).inFlight = (s.drain e).inFlight
      ∧ ((s.modDrain d f).drain e).stalled = (s.drain e).stalled
      ∧ ((s.drain e).settings.enabled = true → (s.drain e).inFlight ≠ none →
        ((s.modDrain d f).drain e).settings.enabled = true) := by
    by_cases same : e = d
    · rw [same, State.drain_modDrain_same]
      exact ⟨flight, stalled, enabled⟩
    · rw [State.drain_modDrain_other (h := same)]
      exact ⟨rfl, rfl, fun on _ => on⟩
  refine ⟨h.core.congr h.core.reference h.core.notices ⟨rfl, rfl, rfl⟩ (Nat.le_refl _) h.core.comments ?_,
    fun table => (h.table table).of_ids rfl rfl (List.Sublist.refl _), fun table accounts => ?_⟩
  · rw [(drain .a).2.1, (drain .b).2.1]
    exact h.core.stalled
  · have accounted := h.accounts table accounts
    exact accounted.congr rfl rfl rfl accounted.preRoll accounted.markDue rfl (fun e => ⟨(drain e).1, (drain e).2.2⟩)
      accounted.edges

end Kept

end Sys2Proof.Machine
end

section
/-! The accounts of one section under the events of its delivery (R110, R111, R115 to R122, R126, R129, R130), and the accounts
of the machine under a change of one record. -/

namespace Sys2Proof.Machine

/-! ## One section's accounts -/

namespace SectionAccounted

variable {p : Nat} {r q : TakeRecord} {x : Section} {n : Nat}

/-- The accounts of a section look at the take's start, its end and its state alone. -/
theorem congr (h : SectionAccounted p r x n) (start : q.start = r.start) (endPos : q.endPos = r.endPos)
    (state : q.state = r.state) : SectionAccounted p q x n := by
  obtain ⟨confirmed, reach, live, done, abandoned, owing, whole, final⟩ := h
  refine ⟨?_, ?_, live, ?_, ?_, ?_, ?_, ?_⟩
  · rwa [start]
  · rwa [endPos]
  · rwa [state]
  · rwa [state]
  · rwa [state]
  · rwa [start, endPos]
  · rwa [state]

theorem later {p' : Nat} (h : SectionAccounted p r x n) (le : p ≤ p') : SectionAccounted p' r x n := by
  refine { h with reach := fun on => (h.reach on).trans ?_ }
  cases r.endPos with
  | none => exact le
  | some e => exact Nat.le_refl e

theorem live_state (live : x.live = true) : x.state = .pending ∨ x.state = .active := by
  unfold Section.live at live
  cases state : x.state with
  | pending => exact .inl rfl
  | active => exact .inr rfl
  | off | done | abandoned =>
    rw [state] at live
    cases live

/-- A live section's accounts, in the four facts that hold of it. -/
theorem of_live (live : x.live = true) (open_or_closed : r.state ≠ .final)
    (confirmed : x.confirmed = r.start + x.delivered + x.gapTotal) (reach : x.formation ≤ r.endPos.getD p)
    (apart : x.formation = x.confirmed + n) (clean : x.abandoned = 0 ∧ x.owing = false) : SectionAccounted p r x n := by
  have states := live_state live
  refine ⟨fun _ => confirmed, fun _ => reach, fun _ => ⟨apart, clean⟩, fun done => ?_, fun abandoned => ?_,
    fun abandoned => ?_, fun settled => ?_, fun final => absurd final open_or_closed⟩
  · rw [done] at states
    exact states.elim nofun nofun
  · rw [abandoned] at states
    exact states.elim nofun nofun
  · rw [abandoned] at states
    exact states.elim nofun nofun
  · rcases settled with done | abandoned
    · rw [done] at states
      exact states.elim nofun nofun
    · rw [abandoned] at states
      exact states.elim nofun nofun

theorem live_on (live : x.live = true) : x.state ≠ .off := by
  intro off
  rw [Section.live, off] at live
  cases live

theorem not_final (h : SectionAccounted p r x n) (live : x.live = true) : r.state ≠ .final := fun final =>
  Bool.false_ne_true ((h.final final).1.symm.trans live)

/-- The five facts of a live section. -/
theorem facts (h : SectionAccounted p r x n) (live : x.live = true) :
    x.confirmed = r.start + x.delivered + x.gapTotal ∧ x.formation ≤ r.endPos.getD p ∧ x.formation = x.confirmed + n
    ∧ x.abandoned = 0 ∧ x.owing = false :=
  ⟨h.confirmed (live_on live), h.reach (live_on live), h.live live⟩

/-- Moving on to a take changes its section's state from PENDING to ACTIVE alone. -/
theorem activated (h : SectionAccounted p r x n) :
    SectionAccounted p r (if x.state = .pending then { x with state := .active } else x) n := by
  split
  · rename_i pending
    have live : x.live = true := by rw [Section.live, pending]
    obtain ⟨confirmed, reach, apart, clean⟩ := h.facts live
    exact of_live rfl (h.not_final live) confirmed reach apart clean
  · exact h

theorem recordGap_counts (x : Section) (offset length : Nat) :
    (x.recordGap offset length).delivered = x.delivered ∧ (x.recordGap offset length).abandoned = x.abandoned
    ∧ (x.recordGap offset length).owing = x.owing := by
  unfold Section.recordGap
  split
  · split
    · exact ⟨rfl, rfl, rfl⟩
    · split
      · exact ⟨rfl, rfl, rfl⟩
      · split <;> exact ⟨rfl, rfl, rfl⟩
  · exact ⟨rfl, rfl, rfl⟩

theorem recordGap_live (x : Section) (offset length : Nat) : (x.recordGap offset length).live = x.live :=
  live_congr (recordGap_state ..)

/-- A push moves both cursors, and the gap total by as much (R126). -/
theorem pushed (h : SectionAccounted p r x n) (live : x.live = true) {offset lost : Nat}
    (reach : x.formation + lost ≤ r.endPos.getD p) : SectionAccounted p r (x.pushedBy offset lost) n := by
  obtain ⟨confirmed, -, apart, clean, paid⟩ := h.facts live
  obtain ⟨delivered, abandoned, owing⟩ := recordGap_counts x offset lost
  rw [pushedBy_eq]
  refine of_live ?_ (h.not_final live) ?_ reach ?_ ⟨abandoned.trans clean, owing.trans paid⟩
  · exact (recordGap_live x offset lost).trans live
  · dsimp only
    rw [delivered]
    omega
  · dsimp only
    omega

/-- A live section of a closed take that has formed everything is DONE (R117). -/
theorem ended (h : SectionAccounted p r x 0) (live : x.live = true) (closed : r.state ≠ .opened)
    (reached : r.endPos = some x.formation) : SectionAccounted p r { x with state := .done } 0 := by
  obtain ⟨confirmed, reach, apart, clean, paid⟩ := h.facts live
  refine ⟨fun _ => confirmed, fun _ => reach, nofun, fun _ => ⟨closed, clean, rfl⟩, nofun, nofun, fun _ e ends => ?_,
    fun final => absurd final (h.not_final live)⟩
  obtain rfl := Option.some.inj (reached.symm.trans ends)
  dsimp only
  omega

/-- A completion moves the confirmed cursor up to the formation cursor and counts the block (R121). -/
theorem completed (h : SectionAccounted p r x n) (final : r.state ≠ .final)
    (own : x.live = true ∨ x.state = .abandoned) : SectionAccounted p r (x.complete n) 0 := by
  rcases own with live | abandoned
  · obtain ⟨confirmed, reach, apart, clean⟩ := h.facts live
    exact of_live (x := x.complete n) live final (by simp only [Section.complete]; omega) reach rfl clean
  · have on : x.state ≠ .off := by rw [abandoned]; nofun
    have dead : x.live = false := by rw [Section.live, abandoned]
    have confirmed := h.confirmed on
    have apart := h.abandoned abandoned final
    refine ⟨fun _ => by simp only [Section.complete]; omega, h.reach, fun live => ?_, fun done => ?_, fun _ _ => rfl,
      fun _ opened => ?_, fun settled e ends => ?_, fun now => absurd now final⟩
    · exact absurd (dead.symm.trans live) Bool.false_ne_true
    · exact absurd (abandoned.symm.trans done) nofun
    · obtain ⟨owing, clean, -⟩ := h.owing abandoned opened
      exact ⟨owing, clean, rfl⟩
    · have := h.whole settled e ends
      simp only [Section.complete]
      omega

/-- Taking a block back leaves nothing in flight: the cursors meet, and an abandoned section counts the block (R115, R122). -/
theorem abandonedBlock (h : SectionAccounted p r x n) (final : r.state ≠ .final) (abandoned : x.state = .abandoned) {seq : Nat} :
    SectionAccounted p r { x with formation := x.confirmed, abandoned := x.abandoned + n, nextSeq := seq } 0 := by
  have on : x.state ≠ .off := by rw [abandoned]; nofun
  have dead : x.live = false := by rw [Section.live, abandoned]
  have apart := h.abandoned abandoned final
  have reach := h.reach on
  refine ⟨h.confirmed, fun _ => by dsimp only; omega, fun live => absurd (dead.symm.trans live) Bool.false_ne_true,
    fun done => absurd (abandoned.symm.trans done) nofun, fun _ _ => rfl, fun _ opened => ?_, fun settled e ends => ?_,
    fun now => absurd now final⟩
  · obtain ⟨owing, clean, idle⟩ := h.owing abandoned opened
    exact ⟨owing, by dsimp only; omega, rfl⟩
  · have := h.whole settled e ends
    dsimp only
    omega

theorem takenBack (h : SectionAccounted p r x n) (final : r.state ≠ .final) (own : x.live = true ∨ x.state = .abandoned)
    {b : Block} (count : b.header.count = n) : SectionAccounted p r (x.takenBack b) 0 := by
  rcases own with live | abandoned
  · obtain ⟨confirmed, reach, apart, clean⟩ := h.facts live
    rw [takenBack_live b live]
    exact of_live (x := { x with formation := x.confirmed, nextSeq := b.header.seq }) live final confirmed
      (by dsimp only; omega) rfl clean
  · rw [takenBack_abandoned b abandoned, count]
    exact h.abandonedBlock final abandoned

/-- The abort of a block at a link-down: what has left the ring is lost, and the cursors return to the rest (R122). -/
theorem aborted (h : SectionAccounted p r x n) (final : r.state ≠ .final) (own : x.live = true ∨ x.state = .abandoned)
    {b : Block} (unsettled : b.settled = false) (count : b.header.count = n) {o : Nat}
    (block : x.live = true → b.first + b.header.count ≤ x.formation
      ∧ (b.first + b.header.count = x.formation ∨ x.formation ≤ o)) :
    SectionAccounted p r (x.abortedBy b o r.start) 0 := by
  rcases own with live | abandoned
  · obtain ⟨confirmed, reach, apart, clean, paid⟩ := h.facts live
    obtain ⟨within, place⟩ := block live
    rw [abortedBy_live unsettled live]
    by_cases lost : 0 < min (b.first + b.header.count) o - b.first
    · obtain ⟨delivered, abandoned, owing⟩ :=
        recordGap_counts x (b.first - r.start) (min (b.first + b.header.count) o - b.first)
      rw [abortLive_lost lost]
      refine of_live ((recordGap_live ..).trans live) final ?_ (by dsimp only; omega) rfl
        ⟨abandoned.trans clean, owing.trans paid⟩
      dsimp only
      rw [delivered]
      omega
    · rw [abortLive_whole (Nat.eq_zero_of_not_pos lost)]
      exact of_live live final (by dsimp only; omega) (by dsimp only; omega) rfl ⟨clean, paid⟩
  · rw [abortedBy_abandoned unsettled abandoned, count]
    exact h.abandonedBlock final abandoned

/-- A live section is given up when its drain is disabled, with no block in flight (R115). -/
theorem abandonedFor (h : SectionAccounted p r x 0) (closed : r.state = .opened → r.endPos = none) :
    SectionAccounted p r (x.abandonFor r.endPos) 0 := by
  cases live : x.live with
  | false =>
    rw [abandonFor_dead live]
    exact h
  | true =>
    obtain ⟨confirmed, reach, apart, clean, paid⟩ := h.facts live
    have final := h.not_final live
    rw [abandonFor_live live]
    refine ⟨fun _ => confirmed, fun _ => reach, nofun, nofun, fun _ _ => apart, fun _ now => ?_, fun _ e ends => ?_,
      fun now => absurd now final⟩
    · rw [closed now]
      exact ⟨Bool.or_true _, clean, rfl⟩
    · rw [ends] at reach ⊢
      simp only [Option.getD_some] at reach ⊢
      omega

/-- A live section of a closed take is given up by truncation, its block staying in flight (R129). -/
theorem truncated (h : SectionAccounted p r x n) (closed : r.state ≠ .opened) {e : Nat} (ends : r.endPos = some e) :
    SectionAccounted p r (x.truncateAt e) n := by
  unfold Section.truncateAt
  split
  · rename_i live
    obtain ⟨confirmed, reach, apart, clean, paid⟩ := h.facts live
    have final := h.not_final live
    refine ⟨fun _ => confirmed, fun _ => reach, nofun, nofun, fun _ _ => apart, fun _ now => absurd now closed,
      fun _ e' ends' => ?_, fun now => absurd now final⟩
    obtain rfl := Option.some.inj (ends.symm.trans ends')
    rw [ends] at reach
    simp only [Option.getD_some] at reach
    dsimp only
    omega
  · exact h

/-- A block formed moves the formation cursor past it (R118). -/
theorem sent (h : SectionAccounted p r x 0) (live : x.live = true) (reach : x.formation + n ≤ r.endPos.getD p) :
    SectionAccounted p r (x.sent n) n := by
  obtain ⟨confirmed, -, apart, clean⟩ := h.facts live
  exact of_live (x := x.sent n) live (h.not_final live) confirmed reach (by simp only [Section.sent]; omega) clean

/-- The take gets its end: an abandonment left open is counted (R87, R117). -/
theorem closed (h : SectionAccounted p r x n) (opened : r.state = .opened) {e : Nat} (reach : x.state ≠ .off → x.formation ≤ e)
    (state : q.state = .closed) (start : q.start = r.start) (ends : q.endPos = some e) :
    SectionAccounted p q (x.settleOwing e) n := by
  have kept : (x.settleOwing e).state = x.state ∧ (x.settleOwing e).formation = x.formation
      ∧ (x.settleOwing e).confirmed = x.confirmed ∧ (x.settleOwing e).delivered = x.delivered
      ∧ (x.settleOwing e).gapTotal = x.gapTotal := by
    unfold Section.settleOwing
    split <;> exact ⟨rfl, rfl, rfl, rfl, rfl⟩
  obtain ⟨same, formation, confirmed, delivered, gapTotal⟩ := kept
  have lives : (x.settleOwing e).live = x.live := live_congr same
  refine ⟨?_, ?_, fun live => ?_, fun done => ?_, fun abandoned _ => ?_, fun _ now => ?_, fun settled e' ends' => ?_,
    fun now => ?_⟩
  · rw [same, confirmed, delivered, gapTotal, start]
    exact h.confirmed
  · rw [same, formation, ends]
    exact reach
  · rw [lives] at live
    obtain ⟨apart, clean, paid⟩ := h.live live
    rw [Section.settleOwing, if_neg (by rw [paid]; nofun)]
    exact ⟨apart, clean, paid⟩
  · rw [same] at done
    exact absurd opened (h.done done).1
  · rw [same] at abandoned
    rw [formation, confirmed]
    exact h.abandoned abandoned (by rw [opened]; nofun)
  · rw [state] at now
    cases now
  · rw [same] at settled
    obtain rfl := Option.some.inj (ends.symm.trans ends')
    rcases settled with done | abandoned
    · exact absurd opened (h.done done).1
    · have on : x.state ≠ .off := by rw [abandoned]; nofun
      obtain ⟨owing, clean, idle⟩ := h.owing abandoned opened
      have apart := h.abandoned abandoned (by rw [opened]; nofun)
      have paid := h.confirmed on
      have within := reach on
      rw [Section.settleOwing, if_pos owing, start]
      dsimp only
      omega
  · rw [state] at now
    cases now

/-- A take becomes FINAL: what its block in flight holds is abandoned (R130). -/
theorem finalized (h : SectionAccounted p r x n) (dead : x.live = false) (state : q.state = .final)
    (start : q.start = r.start) (ends : q.endPos = r.endPos) :
    SectionAccounted p q { x with abandoned := x.abandoned + n } 0 := by
  refine ⟨?_, ?_, fun live => absurd (dead.symm.trans live) Bool.false_ne_true, fun done => ?_, fun _ now => absurd state now,
    fun _ now => ?_, fun settled e ends' => ?_, fun _ => ⟨dead, rfl⟩⟩
  · rw [start]
    exact h.confirmed
  · rw [ends]
    exact h.reach
  · obtain ⟨-, clean, idle⟩ := h.done done
    exact ⟨by rw [state]; nofun, by dsimp only; omega, rfl⟩
  · rw [state] at now
    cases now
  · have := h.whole settled e (ends ▸ ends')
    rw [start]
    dsimp only
    omega

/-- A new take's section stands at its start (R110). -/
theorem fresh (pending : Bool) (start : r.start ≤ r.endPos.getD p) (opened : r.state = .opened) :
    SectionAccounted p r (newSection pending r.start) 0 := by
  cases pending with
  | true => exact of_live rfl (by rw [opened]; nofun) rfl start rfl ⟨rfl, rfl⟩
  | false =>
    refine ⟨fun on => absurd rfl on, fun on => absurd rfl on, nofun, nofun, nofun, nofun, ?_, fun final => ?_⟩
    · rintro (done | abandoned)
      · cases done
      · cases abandoned
    · rw [opened] at final
      cases final

end SectionAccounted

/-! ## The block in flight -/

/-- An unsettled block belongs to a section of a record that is not FINAL (R126, R129, R130). -/
structure BlockOn (o : Nat) (r : TakeRecord) (x : Section) (b : Block) : Prop where
  own : r.state ≠ .final
  on : x.live = true ∨ x.state = .abandoned
  place : x.live = true → b.first + b.header.count ≤ x.formation
    ∧ (b.first + b.header.count = x.formation ∨ x.formation ≤ o)

theorem blockAccounted_iff {s : State} {d : Drain} : BlockAccounted s d ↔ ∀ b, (s.drain d).inFlight = some b →
    (s.drain d).settings.enabled = true
    ∧ (b.settled = false → ∃ r, s.record? b.header.takeId = some r ∧ BlockOn s.oldest r (r.sections.get d) b) := by
  refine forall_congr' fun b => imp_congr_right fun _ => and_congr_right fun _ => imp_congr_right fun _ =>
    exists_congr fun r => and_congr_right fun _ => ?_
  exact ⟨fun ⟨own, on, place⟩ => ⟨own, on, place⟩, fun ⟨own, on, place⟩ => ⟨own, on, place⟩⟩

theorem PositionsInOrder.congr {p : Nat} {r q : TakeRecord} (h : PositionsInOrder p r)
    (positions : (q.start, q.roll, q.cut, q.cutCause, q.endTarget, q.endPos, q.windowEnd) =
      (r.start, r.roll, r.cut, r.cutCause, r.endTarget, r.endPos, r.windowEnd))
    (state : q.state = r.state ∨ (r.state ≠ .opened ∧ q.state ≠ .opened)) : PositionsInOrder p q := by
  obtain ⟨start, roll, cut, cause, target, opened, closed⟩ := h
  simp only [Prod.mk.injEq] at positions
  obtain ⟨h1, h2, h3, h4, h5, h6, h7⟩ := positions
  have opens : q.state = .opened → r.state = .opened := fun now =>
    state.elim (fun same => same ▸ now) fun ⟨_, closed⟩ => absurd now closed
  have closes : q.state ≠ .opened → r.state ≠ .opened := fun now =>
    state.elim (fun same => same ▸ now) fun ⟨closed, _⟩ => closed
  exact ⟨by rwa [h1, h2], by rwa [h2], by rwa [h2, h3], by rwa [h3, h4], by rwa [h3, h5],
    fun now => by rw [h6]; exact opened (opens now),
    fun now => by rw [h3, h5, h6, h7]; exact closed (closes now)⟩

/-! ## The machine's accounts under a change of one record -/

/-- A change of one record and of the drains' blocks of its take. -/
theorem TakesAccounted.change {s u : State} (h : TakesAccounted s) {id : Nat} {f : TakeRecord → TakeRecord}
    (takes : u.takes = (s.updRecord id f).takes) (list : u.delivery.list = s.delivery.list) (ring : u.ring.p = s.ring.p)
    (triggers : u.triggers = s.triggers)
    (flights : ∀ d j, j ≠ id → (u.drain d).flightOf j = (s.drain d).flightOf j)
    (ids : ∀ r, (f r).id = r.id)
    (positions : ∀ r ∈ s.takes.table, r.id = id → PositionsInOrder s.ring.p (f r))
    (sections : ∀ r ∈ s.takes.table, r.id = id → ∀ d,
      SectionAccounted s.ring.p (f r) ((f r).sections.get d) ((u.drain d).flightOf id))
    (lives : ∀ r ∈ s.takes.table, r.id = id → (f r).live = true → r.live = true)
    (final : ∀ r ∈ s.takes.table, r.id = id → (f r).state = .final → r.state = .final ∨ id ∉ s.delivery.list)
    (opened : ∀ r ∈ s.takes.table, r.id = id → (f r).state = .opened →
      r.state = .opened ∧ (r.cut.isSome = true → (f r).cut.isSome = true))
    (blocks : ∀ d, BlockAccounted u d) : TakesAccounted u := by
  have table : u.takes.table = s.takes.table.map fun r => if r.id = id then f r else r := by rw [takes]; rfl
  have each {P : TakeRecord → Prop} (here : ∀ r ∈ s.takes.table, r.id = id → P (f r))
      (other : ∀ r ∈ s.takes.table, r.id ≠ id → P r) : ∀ q ∈ u.takes.table, P q := by
    intro q held
    rw [table] at held
    obtain ⟨r, before, rfl⟩ := List.mem_map.1 held
    split
    · exact here r before ‹_›
    · exact other r before ‹_›
  refine ⟨each ?_ ?_, each ?_ ?_, blocks, each ?_ ?_, each ?_ ?_, fun tail => each ?_ ?_, ?_, ?_, ?_⟩
  · rw [ring]
    exact positions
  · rw [ring]
    exact fun r held _ => h.positions r held
  · intro r held same d
    rw [ring, ids, same]
    exact sections r held same d
  · intro r held other d
    rw [ring, flights d r.id other]
    exact h.sections r held d
  · intro r held same live
    rw [list, ids]
    exact h.listed r held (lives r held same live)
  · intro r held _
    rw [list]
    exact h.listed r held
  · intro r held same now
    rw [list, ids]
    exact (final r held same now).elim (h.left r held) fun unlisted => same ▸ unlisted
  · intro r held _
    rw [list]
    exact h.left r held
  · intro r held same now
    obtain ⟨before, cut⟩ := opened r held same now
    rw [takes] at tail
    exact cut (h.tail tail r held before)
  · intro r held _
    rw [takes] at tail
    exact h.tail tail r held
  · rw [takes]
    exact h.preRoll
  · rw [takes, ring]
    exact h.markDue
  · rw [triggers, ring]
    exact h.edges

/-- A change of one section and of its drain. -/
theorem TakesAccounted.changeSection {s : State} (h : TakesAccounted s) (nodup : (s.takes.table.map fun r => r.id).Nodup)
    {id : Nat} {d : Drain} {r : TakeRecord} {g : Section → Section} {F : DrainState → DrainState}
    (found : s.record? id = some r)
    (flights : ∀ j, j ≠ id → (F (s.drain d)).flightOf j = (s.drain d).flightOf j)
    (cell : SectionAccounted s.ring.p r (g (r.sections.get d)) ((F (s.drain d)).flightOf id))
    (lives : (g (r.sections.get d)).live = true → (r.sections.get d).live = true)
    (block : ∀ b, (F (s.drain d)).inFlight = some b → (F (s.drain d)).settings.enabled = true
      ∧ (b.settled = false → ∃ q, s.record? b.header.takeId = some q
        ∧ BlockOn s.oldest q (if q.id = id then g (q.sections.get d) else q.sections.get d) b)) :
    TakesAccounted ((s.updSection id d g).modDrain d F) := by
  have unique (q : TakeRecord) (held : q ∈ s.takes.table) (same : q.id = id) : q = r :=
    Option.some.inj ((record?_of_mem nodup held).symm.trans (same ▸ found))
  have drain (e : Drain) : ((s.updSection id d g).modDrain d F).drain e = if e = d then F (s.drain d) else s.drain e := by
    split
    · rename_i same
      rw [same]
      exact State.drain_modDrain_same ..
    · rename_i other
      exact State.drain_modDrain_other (h := other) ..
  have other_cell (q : TakeRecord) {e : Drain} (other : e ≠ d) : (q.sections.modify d g).get e = q.sections.get e :=
    PerDrain.get_modify_other _ _ _ _ other
  refine h.change (id := id) (f := fun r => { r with sections := r.sections.modify d g }) rfl rfl rfl rfl
    (fun e j ne => ?_) (fun _ => rfl) (fun q held _ => (h.positions q held).congr rfl (.inl rfl)) (fun q held same e => ?_)
    (fun q held same live => ?_) (fun _ _ _ now => .inl now) (fun _ _ _ now => ⟨now, fun cut => cut⟩) fun e => ?_
  · rw [drain]
    split
    · rename_i here
      rw [here]
      exact flights j ne
    · rfl
  · rw [drain]
    by_cases here : e = d
    · subst here
      obtain rfl := unique q held same
      rw [if_pos rfl, PerDrain.get_modify_same]
      exact cell.congr rfl rfl rfl
    · rw [if_neg here, other_cell q here, ← same]
      exact (h.sections q held e).congr rfl rfl rfl
  · obtain ⟨e, live⟩ := (live_iff _).1 live
    refine (live_iff q).2 ⟨e, ?_⟩
    by_cases here : e = d
    · subst here
      obtain rfl := unique q held same
      exact lives (by rwa [PerDrain.get_modify_same] at live)
    · rwa [other_cell q here] at live
  · rw [blockAccounted_iff]
    intro b flight
    rw [drain] at flight ⊢
    have record (j : Nat) : ((s.updSection id d g).modDrain d F).record? j = (s.record? j).map fun q =>
        if q.id = id then { q with sections := q.sections.modify d g } else q := record?_updSection s id j d g
    by_cases here : e = d
    · subst here
      rw [if_pos rfl] at flight ⊢
      obtain ⟨enabled, own⟩ := block b flight
      refine ⟨enabled, fun unsettled => ?_⟩
      obtain ⟨q, held, on⟩ := own unsettled
      rw [record, held]
      refine ⟨_, rfl, ?_⟩
      dsimp only
      split at on
      · rename_i same
        rw [if_pos same, PerDrain.get_modify_same]
        exact ⟨on.own, on.on, on.place⟩
      · rename_i apart
        rw [if_neg apart]
        exact on
    · rw [if_neg here] at flight ⊢
      obtain ⟨enabled, own⟩ := blockAccounted_iff.1 (h.blocks e) b flight
      refine ⟨enabled, fun unsettled => ?_⟩
      obtain ⟨q, held, on⟩ := own unsettled
      rw [record, held]
      refine ⟨_, rfl, ?_⟩
      dsimp only
      split
      · rw [other_cell q here]
        exact ⟨on.own, on.on, on.place⟩
      · exact on

/-- A change of one section that leaves its drain. -/
theorem TakesAccounted.changeCell {s : State} (h : TakesAccounted s) (nodup : (s.takes.table.map fun r => r.id).Nodup)
    {id : Nat} {d : Drain} {r : TakeRecord} {g : Section → Section} (found : s.record? id = some r)
    (cell : SectionAccounted s.ring.p r (g (r.sections.get d)) ((s.drain d).flightOf id))
    (lives : (g (r.sections.get d)).live = true → (r.sections.get d).live = true)
    (on : ∀ b, (s.drain d).inFlight = some b → b.header.takeId = id → BlockOn s.oldest r (r.sections.get d) b →
      BlockOn s.oldest r (g (r.sections.get d)) b) : TakesAccounted (s.updSection id d g) := by
  have same : (s.updSection id d g).modDrain d (fun x => x) = s.updSection id d g := modDrain_left rfl
  rw [← same]
  refine h.changeSection nodup found (fun _ _ => rfl) cell lives fun b flight => ?_
  obtain ⟨enabled, own⟩ := blockAccounted_iff.1 (h.blocks d) b flight
  refine ⟨enabled, fun unsettled => ?_⟩
  obtain ⟨q, held, block⟩ := own unsettled
  refine ⟨q, held, ?_⟩
  split
  · rename_i here
    have apart : b.header.takeId = id := (record?_id held).symm.trans here
    obtain rfl : q = r := Option.some.inj (held.symm.trans (apart ▸ found))
    exact on b flight apart block
  · exact block

end Sys2Proof.Machine
end

section
/-! What the delivery engine's shared steps keep: events and notes, FINAL, the drains moving on, the sweep of the list, DONE,
gaps and pushes (R73, R88, R91, R109, R111, R117, R126 to R130). -/

namespace Sys2Proof.Machine

theorem oldest_le (s : State) : s.oldest ≤ s.ring.p := Nat.sub_le ..

/-! ## One record moved on -/

/-- The record `r` of `s` may become `q`: `q` is accounted for, delivers nothing that `r` did not, opens nothing, keeps a cut,
and has the blocks of `r` in flight. -/
structure MovesTo (s : State) (r q : TakeRecord) : Prop where
  positions : PositionsInOrder s.ring.p q
  sections : ∀ d, SectionAccounted s.ring.p q (q.sections.get d) ((s.drain d).flightOf r.id)
  live : q.live = true → r.live = true
  final : q.state = .final → r.state = .final
  opened : q.state = .opened → r.state = .opened
  cut : r.cut.isSome = true → q.cut.isSome = true
  blocks : ∀ d b, BlockOn s.oldest r (r.sections.get d) b → BlockOn s.oldest q (q.sections.get d) b

theorem TakesAccounted.moves {s : State} (h : TakesAccounted s) (nodup : (s.takes.table.map fun r => r.id).Nodup) {id : Nat}
    {f : TakeRecord → TakeRecord} (ids : ∀ r, (f r).id = r.id) (moves : ∀ r, s.record? id = some r → MovesTo s r (f r)) :
    TakesAccounted (s.updRecord id f) := by
  have moved (r : TakeRecord) (held : r ∈ s.takes.table) (same : r.id = id) : MovesTo s r (f r) :=
    moves r (same ▸ record?_of_mem nodup held)
  refine h.change rfl rfl rfl rfl (fun _ _ _ => rfl) ids (fun r held same => (moved r held same).positions)
    (fun r held same => by rw [← same]; exact (moved r held same).sections) (fun r held same => (moved r held same).live)
    (fun r held same now => .inl ((moved r held same).final now))
    (fun r held same now => ⟨(moved r held same).opened now, (moved r held same).cut⟩) fun d => ?_
  rw [blockAccounted_iff]
  intro b flight
  obtain ⟨enabled, own⟩ := blockAccounted_iff.1 (h.blocks d) b flight
  refine ⟨enabled, fun unsettled => ?_⟩
  obtain ⟨q, held, on⟩ := own unsettled
  rw [record?_updRecord s id _ f ids, held]
  refine ⟨_, rfl, ?_⟩
  dsimp only
  split
  · rename_i here
    exact (moved q (record?_mem held) here).blocks d b on
  · exact on

/-- The parts of a record that its accounts look at. -/
def TakeRecord.accounted (r : TakeRecord) :
    Nat × RecState × PerDrain Section × Nat × Nat × Option Nat × Option Cause × Option Nat × Option Nat × Option Nat :=
  (r.id, r.state, r.sections, r.start, r.roll, r.cut, r.cutCause, r.endTarget, r.endPos, r.windowEnd)

/-- A change outside the accounts. -/
theorem TakesAccounted.unmoved {s : State} (h : TakesAccounted s) {r q : TakeRecord} (held : r ∈ s.takes.table)
    (same : q.accounted = r.accounted) : MovesTo s r q := by
  simp only [TakeRecord.accounted, Prod.mk.injEq] at same
  obtain ⟨id, state, sections, start, roll, cut, cause, target, ends, window⟩ := same
  have live : q.live = r.live := by rw [TakeRecord.live, TakeRecord.live, sections]
  refine ⟨(h.positions r held).congr (by rw [start, roll, cut, cause, target, ends, window]) (.inl state), fun d => ?_,
    fun now => live ▸ now, fun now => state ▸ now, fun now => state ▸ now, fun now => cut ▸ now, fun d b on => ?_⟩
  · rw [sections]
    exact (h.sections r held d).congr start ends state
  · rw [sections]
    exact ⟨state ▸ on.own, on.on, on.place⟩

namespace Kept

variable {t a : Prop} {b : Bool} {k : Nat} {s u : State}

/-- The three layers of a change, the accounts' from the table's. -/
theorem change (h : Kept t a b k s) (core : CoreLegal b u) (table : TableKept k s → TableKept k u)
    (accounts : TableKept k s → TakesAccounted s → TakesAccounted u) : Kept t a b k u :=
  ⟨core, fun kept => table (h.table kept), fun kept counted => accounts (h.table kept) (h.accounts kept counted)⟩

theorem updRecord (h : Kept t a b k s) {id : Nat} {f : TakeRecord → TakeRecord} (ids : ∀ r, (f r).id = r.id)
    (capped : ∀ r, RecordCapped r → RecordCapped (f r)) (opened : ∀ r, (f r).state = .opened → r.state = .opened)
    (moves : TableKept k s → TakesAccounted s → ∀ r, s.record? id = some r → MovesTo s r (f r)) :
    Kept t a b k (s.updRecord id f) :=
  h.change (h.core.updRecord capped opened) (fun kept => kept.of_ids (ids_updRecord s id f ids) rfl (List.Sublist.refl _))
    fun kept counted => counted.moves kept.table.ids ids (moves kept counted)

/-- A change of a record outside its accounts. -/
theorem noted (h : Kept t a b k s) {id : Nat} {f : TakeRecord → TakeRecord}
    (capped : ∀ r, RecordCapped r → RecordCapped (f r)) (same : ∀ r, (f r).accounted = r.accounted) :
    Kept t a b k (s.updRecord id f) :=
  h.updRecord (fun r => congrArg (fun x => x.1) (same r)) capped
    (fun r now => (congrArg (fun x => x.2.1) (same r)).symm.trans now)
    fun _ counted _ found => counted.unmoved (record?_mem found) (same _)

/-- A change of one section, its drain staying. -/
theorem cell (h : Kept t a b k s) {id : Nat} {d : Drain} {r : TakeRecord} {g : Section → Section}
    (gaps : ∀ x, x.gaps.length ≤ 8 → (g x).gaps.length ≤ 8) (found : s.record? id = some r)
    (cell : TakesAccounted s → SectionAccounted s.ring.p r (g (r.sections.get d)) ((s.drain d).flightOf id))
    (lives : (g (r.sections.get d)).live = true → (r.sections.get d).live = true)
    (on : ∀ b, (s.drain d).inFlight = some b → b.header.takeId = id → BlockOn s.oldest r (r.sections.get d) b →
      BlockOn s.oldest r (g (r.sections.get d)) b) : Kept t a b k (s.updSection id d g) :=
  h.change (h.core.updSection gaps)
    (fun kept => kept.of_ids (ids_updRecord s id _ fun _ => rfl) rfl (List.Sublist.refl _)) fun kept counted =>
    counted.changeCell kept.table.ids found (cell counted) lives on

end Kept

/-! ## Events (R73, R88) -/

theorem RecordCapped.enter {r : TakeRecord} (h : RecordCapped r) (e : Event) : RecordCapped (r.enter e) := by
  unfold TakeRecord.enter
  split
  · rename_i room
    refine ⟨h.comments, ?_, h.gaps⟩
    have : r.events.length < 32 := room
    simp only [List.length_append, List.length_singleton]
    omega
  · exact ⟨h.comments, h.events, h.gaps⟩

theorem enter_accounted (e : Event) (r : TakeRecord) : (r.enter e).accounted = r.accounted := by
  unfold TakeRecord.enter
  split <;> rfl

theorem Kept.intake {t a : Prop} {b : Bool} {k : Nat} {s : State} (h : Kept t a b k s) (e : Event) :
    Kept t a b k (s.intake e) := by
  unfold State.intake
  split
  · exact h
  · exact Kept.ite (fun _ => h.noted (fun _ capped => capped.enter e) (enter_accounted e)) fun _ => h

/-! ## FINAL (R91, R130) -/

theorem settleOn_takes (s : State) (id : Nat) (d : Drain) : (s.settleOn id d).takes =
    (s.updRecord id (TakeRecord.abandonFlight d ((s.drain d).flightOf id))).takes := by
  have zero (r : TakeRecord) : r.abandonFlight d 0 = r := by cases d <;> rfl
  rw [flightOf_eq]
  unfold State.settleOn
  cases (s.drain d).unsettledOf id with
  | some c => rfl
  | none =>
    rw [Option.map_none, Option.getD_none, funext zero, updRecord_self]

/-- A take made FINAL has the sections with what was in flight abandoned. -/
theorem makeFinal_takes (s : State) (id : Nat) (early : Bool) : (s.makeFinal id early).takes =
    (s.updRecord id fun r => TakeRecord.madeFinal early ((r.abandonFlight .a ((s.drain .a).flightOf id)).abandonFlight .b
      ((s.drain .b).flightOf id))).takes := by
  have steps : (((s.settleOn id .a).settleOn id .b).updRecord id (TakeRecord.madeFinal early)).takes =
      (((s.updRecord id (TakeRecord.abandonFlight .a ((s.drain .a).flightOf id))).updRecord id
        (TakeRecord.abandonFlight .b ((s.drain .b).flightOf id))).updRecord id (TakeRecord.madeFinal early)).takes := by
    have second := settleOn_takes (s.settleOn id .a) id .b
    rw [settleOn_drain_other s id .a (o := .b) nofun] at second
    simp only [State.updRecord, State.modTakes] at second ⊢
    rw [second, settleOn_takes s id .a]
    rfl
  rw [updRecord_updRecord s id (TakeRecord.abandonFlight _ _) _ fun _ => rfl, updRecord_updRecord s id (fun r =>
    (r.abandonFlight .a ((s.drain .a).flightOf id)).abandonFlight .b ((s.drain .b).flightOf id)) _ fun _ => rfl] at steps
  rw [← steps]
  unfold State.makeFinal
  dsimp only
  split <;> rfl

theorem makeFinal_drain (s : State) (id : Nat) (early : Bool) (d : Drain) :
    (s.makeFinal id early).drain d = (s.drain d).settle id := by
  have drain : ((s.settleOn id .a).settleOn id .b).drain d = (s.drain d).settle id := by
    cases d with
    | a => rw [settleOn_drain_other _ id .b (o := .a) nofun, settleOn_drain]
    | b => rw [settleOn_drain, settleOn_drain_other s id .a (o := .b) nofun]
  rw [← drain]
  unfold State.makeFinal
  dsimp only
  split <;> rfl

theorem settle_enabled (x : DrainState) (id : Nat) : (x.settle id).settings = x.settings ∧ (x.settle id).stalled = x.stalled := by
  unfold DrainState.settle
  split <;> exact ⟨rfl, rfl⟩

/-- After settling a take's block none of its own is in flight; a block in flight that is unsettled was there before. -/
theorem settle_unsettled {x : DrainState} {id : Nat} {b : Block} (flight : (x.settle id).inFlight = some b)
    (unsettled : b.settled = false) : x.inFlight = some b ∧ b.header.takeId ≠ id := by
  unfold DrainState.settle at flight
  split at flight
  · cases flight
    cases unsettled
  · rename_i other
    refine ⟨flight, fun own => ?_⟩
    rw [unsettledOf_iff.2 ⟨flight, own, unsettled⟩] at other
    cases other

theorem settle_flightOf_same (x : DrainState) (id : Nat) : (x.settle id).flightOf id = 0 := by
  cases flight : (x.settle id).inFlight with
  | none => exact flightOf_idle flight id
  | some b => exact flightOf_foreign flight fun ⟨own, unsettled⟩ => (settle_unsettled flight unsettled).2 own

theorem settle_flightOf_other (x : DrainState) {id j : Nat} (ne : j ≠ id) : (x.settle id).flightOf j = x.flightOf j := by
  unfold DrainState.settle
  cases own : x.unsettledOf id with
  | none => rfl
  | some b =>
    obtain ⟨flight, takeId, unsettled⟩ := unsettledOf_iff.1 own
    rw [flightOf_foreign (b := b) flight fun h => ne (h.1.symm.trans takeId)]
    exact flightOf_foreign (b := { b with settled := true }) rfl nofun

theorem settle_flight (x : DrainState) (id : Nat) : (x.settle id).inFlight = none ↔ x.inFlight = none := by
  unfold DrainState.settle
  split
  · rename_i b own
    rw [(unsettledOf_iff.1 own).1]
    exact iff_of_false nofun nofun
  · rfl

theorem settleOn_frame (s : State) (id : Nat) (d : Drain) : (s.settleOn id d).delivery.list = s.delivery.list
    ∧ (s.settleOn id d).link = s.link ∧ (s.settleOn id d).binding = s.binding := by
  unfold State.settleOn
  split <;> exact ⟨rfl, rfl, rfl⟩

theorem makeFinal_binding (s : State) (id : Nat) (early : Bool) : (s.makeFinal id early).binding = s.binding := by
  have settled : ((s.settleOn id .a).settleOn id .b).binding = s.binding :=
    (settleOn_frame _ id .b).2.2.trans (settleOn_frame s id .a).2.2
  unfold State.makeFinal
  dsimp only
  split <;> exact settled

/-- Making a take FINAL queues a notice at most, and reaches no lasting condition. -/
theorem makeFinal_link (s : State) (id : Nat) (early : Bool) : (s.makeFinal id early).link = s.link
    ∨ ∃ n, (s.makeFinal id early).link = (s.notify n).link := by
  have settled : (((s.settleOn id .a).settleOn id .b).updRecord id (TakeRecord.madeFinal early)).link = s.link :=
    (settleOn_frame _ id .b).2.1.trans (settleOn_frame s id .a).2.1
  unfold State.makeFinal
  dsimp only
  split
  · exact .inr ⟨_, notify_link_congr _ settled⟩
  · exact .inl settled

theorem notify_conds (s : State) (n : Notice) : (s.notify n).link.conds.referenceLost = s.link.conds.referenceLost
    ∧ (s.notify n).link.conds.drainStalled = s.link.conds.drainStalled
    ∧ (s.notify n).link.conds.audioLost = s.link.conds.audioLost := by
  by_cases room : NoticeRoom s
  · rw [notify_room n room]
    exact ⟨rfl, rfl, rfl⟩
  · rw [notify_full n room]
    exact ⟨rfl, rfl, rfl⟩

theorem RecordCapped.abandonFlight {r : TakeRecord} (h : RecordCapped r) (d : Drain) (n : Nat) :
    RecordCapped (r.abandonFlight d n) := h.section fun _ gaps => gaps

theorem CoreLegal.makeFinal {b : Bool} {s : State} (h : CoreLegal b s) (id : Nat) (early : Bool) :
    CoreLegal b (s.makeFinal id early) := by
  have capped (r : TakeRecord) (before : RecordCapped r) : RecordCapped (TakeRecord.madeFinal early
      ((r.abandonFlight .a ((s.drain .a).flightOf id)).abandonFlight .b ((s.drain .b).flightOf id))) := by
    obtain ⟨comments, events, gaps⟩ := (before.abandonFlight .a ((s.drain .a).flightOf id)).abandonFlight .b
      ((s.drain .b).flightOf id)
    exact ⟨comments, events, gaps⟩
  have takes := h.updRecord (id := id) capped fun _ (now : RecState.final = .opened) => nomatch now
  have link : (s.makeFinal id early).link.conds.referenceLost = s.link.conds.referenceLost
      ∧ (s.makeFinal id early).link.conds.drainStalled = s.link.conds.drainStalled
      ∧ (s.makeFinal id early).link.notices.length ≤ 32 := by
    rcases makeFinal_link s id early with same | ⟨n, same⟩
    · rw [same]
      exact ⟨rfl, rfl, h.notices⟩
    · rw [same]
      exact ⟨(notify_conds s n).1, (notify_conds s n).2.1, notify_capacity n h.notices⟩
  have same := makeFinal_takes s id early
  refine takes.congr (link.1.trans h.reference) link.2.2 (by rw [same]; exact ⟨rfl, rfl, rfl⟩)
    (Nat.le_of_eq (congrArg List.length (makeFinal_frame s id early).1))
    (by rw [makeFinal_binding]; exact h.comments) ?_
  rw [link.2.1, makeFinal_drain, makeFinal_drain, (settle_enabled _ _).2, (settle_enabled _ _).2]
  exact h.stalled

/-- A closed take that delivers nothing more and has left the list becomes FINAL. -/
theorem TakesAccounted.makeFinal {s : State} (h : TakesAccounted s) (nodup : (s.takes.table.map fun r => r.id).Nodup)
    {r : TakeRecord} (held : r ∈ s.takes.table) (closed : r.state = .closed) (unlisted : r.id ∉ s.delivery.list)
    (early : Bool) : TakesAccounted (s.makeFinal r.id early) := by
  have unique (q : TakeRecord) (there : q ∈ s.takes.table) (same : q.id = r.id) : q = r :=
    List.inj_on_of_nodup_map nodup there held same
  have dead : r.live = false := by
    rw [Bool.eq_false_iff]
    exact fun live => unlisted (h.listed r held live)
  have idle (d : Drain) : (r.sections.get d).live = false := by
    rw [Bool.eq_false_iff]
    exact fun live => Bool.false_ne_true (dead.symm.trans (live_of_section live))
  have confined := confined_makeFinal s r.id early
  have get (d : Drain) : ((TakeRecord.madeFinal early ((r.abandonFlight .a ((s.drain .a).flightOf r.id)).abandonFlight .b
      ((s.drain .b).flightOf r.id))).sections.get d) =
      { r.sections.get d with abandoned := (r.sections.get d).abandoned + (s.drain d).flightOf r.id } := by
    cases d <;> rfl
  refine h.change (makeFinal_takes s r.id early) (makeFinal_frame s r.id early).1 (by rw [confined.ring]) confined.triggers
    (fun d j ne => by rw [makeFinal_drain, settle_flightOf_other _ ne]) (fun _ => rfl) (fun q there same => ?_)
    (fun q there same d => ?_) (fun q there same live => ?_) (fun _ _ _ _ => .inr unlisted)
    (fun _ _ _ (now : RecState.final = .opened) => nomatch now) fun d => ?_
  · obtain rfl := unique q there same
    exact (h.positions q there).congr rfl (.inr ⟨by rw [closed]; nofun, nofun⟩)
  · obtain rfl := unique q there same
    rw [makeFinal_drain, settle_flightOf_same, get]
    exact (h.sections q there d).finalized (idle d) rfl rfl rfl
  · obtain rfl := unique q there same
    obtain ⟨d, live⟩ := (live_iff _).1 live
    rw [get] at live
    exact live_of_section (d := d) live
  · rw [blockAccounted_iff]
    intro b flight
    rw [makeFinal_drain] at flight ⊢
    rw [(settle_enabled _ _).1]
    have enabled : (s.drain d).settings.enabled = true := by
      cases before : (s.drain d).inFlight with
      | none => rw [(settle_flight (s.drain d) r.id).2 before] at flight; cases flight
      | some c => exact (h.blocks d c before).1
    refine ⟨enabled, fun unsettled => ?_⟩
    obtain ⟨before, other⟩ := settle_unsettled flight unsettled
    obtain ⟨q, found, on⟩ := (blockAccounted_iff.1 (h.blocks d) b before).2 unsettled
    rw [(makeFinal_frame s r.id early).2.2.2 _ other, State.oldest, confined.ring]
    exact ⟨q, found, on⟩

theorem TableKept.makeFinal {k : Nat} {s : State} (h : TableKept k s) (id : Nat) (early : Bool) :
    TableKept k (s.makeFinal id early) := by
  obtain ⟨list, ids, -, -⟩ := makeFinal_frame s id early
  refine h.of_ids ids ?_ (by rw [list])
  rw [makeFinal_takes]
  rfl

namespace Kept

variable {t a : Prop} {b : Bool} {k : Nat} {s u : State}

theorem makeFinal (h : Kept t a b k s) {r : TakeRecord} (found : s.record? r.id = some r) (closed : r.state = .closed)
    (unlisted : r.id ∉ s.delivery.list) (early : Bool) : Kept t a b k (s.makeFinal r.id early) :=
  h.change (h.core.makeFinal _ _) (fun kept => kept.makeFinal _ _) fun kept counted =>
    counted.makeFinal kept.table.ids (record?_mem found) closed unlisted early

theorem finalTest (h : Kept t a b k s) (id : Nat) : Kept t a b k (s.finalTest id) := by
  unfold State.finalTest
  split
  · rename_i r found
    refine Kept.ite (fun due => ?_) fun _ => h
    obtain ⟨closed, unlisted, -⟩ := (isDueFinal_iff s r).1 due
    obtain rfl := record?_id found
    exact h.makeFinal found closed unlisted false
  · exact h

/-! ## The delivery list (R109, R111, R117) -/

theorem activateOn (h : Kept t a b k s) (d : Drain) : Kept t a b k (s.activateOn d) := by
  unfold State.activateOn
  split
  · rename_i id current
    obtain ⟨-, live⟩ := currentTake_some current
    cases found : s.record? id with
    | none =>
      rw [State.liveOn, found] at live
      cases live
    | some r =>
      obtain rfl := record?_id found
      have same (x : Section) : (if x.state = .pending then { x with state := .active } else x).live = x.live := by
        split
        · rename_i pending
          rw [Section.live, Section.live, pending]
        · rfl
      refine h.cell (r := r) (fun x gaps => by split <;> exact gaps) found
        (fun counted => (counted.sections r (record?_mem found) d).activated) (fun now => same _ ▸ now) fun c _ _ on => ?_
      refine ⟨on.own, .inl ((same _).trans ?_), fun _ => ?_⟩
      · rwa [liveOn_found found] at live
      · rw [liveOn_found found] at live
        split
        · exact on.place live
        · exact on.place live
  · exact h

theorem activate (h : Kept t a b k s) : Kept t a b k s.activate := (h.activateOn .a).activateOn .b

/-- The takes with nothing live leave the list. -/
theorem sweepAway (h : Kept t a b k s) :
    Kept t a b k (s.modDelivery fun e => { e with list := e.list.filter fun id => s.stillDelivering id }) := by
  refine h.change (h.core.congr h.core.reference h.core.notices ⟨rfl, rfl, rfl⟩ (List.length_filter_le ..) h.core.comments
    h.core.stalled) (fun kept => kept.of_ids rfl rfl List.filter_sublist) fun kept counted => ?_
  obtain ⟨positions, sections, blocks, listed, left, tail, preRoll, due, edges⟩ := counted
  refine ⟨positions, sections, blocks, fun r held live => ?_, fun r held final => ?_, tail, preRoll, due, edges⟩
  · refine List.mem_filter.2 ⟨listed r held live, ?_⟩
    rwa [stillDelivering_found (kept.record? held)]
  · exact fun mem => left r held final (List.mem_of_mem_filter mem)

theorem sweepList (h : Kept t a b k s) : Kept t a b k s.sweepList :=
  (h.sweepAway.each fun id _ _ kept => kept.finalTest id).activate

theorem testDone (h : Kept t a b k s) (id : Nat) (d : Drain) : Kept t a b k (s.testDone id d) := by
  unfold State.testDone
  split
  · exact h
  · rename_i r found
    refine Kept.ite (fun test => ?_) fun _ => h
    obtain ⟨closed, live, reached, free⟩ := test
    have idle : (s.drain d).flightOf id = 0 := by
      cases flight : (s.drain d).inFlight with
      | none => exact flightOf_idle flight id
      | some c =>
        rw [flight] at free
        exact flightOf_foreign flight fun own => of_decide_eq_true free own.1
    refine h.cell (r := r) (fun _ gaps => gaps) found (fun counted => ?_) (fun _ => live) fun c flight own _ => ?_
    · have before := counted.sections r (record?_mem found) d
      rw [record?_id found, idle] at before
      rw [idle]
      exact before.ended live closed reached
    · rw [flight] at free
      exact absurd own (of_decide_eq_true free)

theorem settleDone (h : Kept t a b k s) (id : Nat) (d : Drain) : Kept t a b k (s.settleDone id d) :=
  (h.testDone id d).sweepList

/-! ## Gaps and pushes (R126 to R128) -/

theorem gapEpisodeTest (h : Kept t a b k s) (d : Drain) (takeId pos offset : Nat) (reason : DrneReason) :
    Kept t a b k (s.gapEpisodeTest d takeId pos offset reason) := by
  refine Kept.ite (fun _ => h) fun _ => Kept.notify ?_ _
  have flagged : Kept t a b k (s.modDrain d fun x => { x with gapEpisode := true }) := h.modFlags rfl rfl fun on _ => on
  exact flagged.blocks rfl rfl rfl rfl flagged.core.comments flagged.core.notices flagged.core.reference rfl

end Kept

theorem recordGap_capacity {x : Section} (h : x.gaps.length ≤ 8) (offset length : Nat) :
    (x.recordGap offset length).gaps.length ≤ 8 := by
  have last (g : Gap) : (x.gaps.dropLast ++ [g]).length ≤ 8 ∨ x.gaps = [] := by
    by_cases none_listed : x.gaps = []
    · exact .inr none_listed
    · refine .inl ?_
      have := List.length_pos_iff.2 none_listed
      simp only [List.length_append, List.length_dropLast, List.length_singleton]
      omega
  unfold Section.recordGap
  split
  · rename_i g ends
    have listed : x.gaps ≠ [] := by
      intro none_listed
      rw [none_listed] at ends
      cases ends
    split
    · exact (last _).resolve_right listed
    · split
      · exact (last _).resolve_right listed
      · split
        · rename_i room
          have : x.gaps.length < 8 := room
          simp only [List.length_append, List.length_singleton]
          omega
        · exact h
  · exact (by decide : 1 ≤ 8)

namespace Kept

variable {t a : Prop} {b : Bool} {k : Nat} {s u : State}

theorem push (h : Kept t a b k s) (id : Nat) (d : Drain) : Kept t a b k (s.push id d) := by
  cases found : s.record? id with
  | none => rwa [push_gone found]
  | some r =>
    rw [push_found found]
    refine Kept.ite (fun behind => ?_) fun _ => h
    obtain ⟨live, short⟩ := behind
    have within : pushTarget s.oldest r.endPos ≤ s.oldest ∧ pushTarget s.oldest r.endPos ≤ r.endPos.getD s.ring.p := by
      cases r.endPos with
      | none => exact ⟨Nat.le_refl _, oldest_le s⟩
      | some e => exact ⟨Nat.min_le_left .., Nat.min_le_right ..⟩
    refine (Kept.gapEpisodeTest ?_ ..).settleDone ..
    refine h.cell (r := r) (fun x gaps => recordGap_capacity gaps ..) found (fun counted => ?_) (fun _ => live)
      fun c _ _ on => ⟨on.own, .inl ((live_congr (pushedBy_state ..)).trans live), fun _ => ?_⟩
    · have before := counted.sections r (record?_mem found) d
      rw [record?_id found] at before
      exact before.pushed live (by omega)
    · obtain ⟨reach, -⟩ := on.place live
      rw [pushedBy_formation]
      omega

theorem overrun (h : Kept t a b k s) : Kept t a b k s.overrun := h.each fun id _ _ kept => (kept.push id .a).push id .b

end Kept

end Sys2Proof.Machine
end

section
/-! What a roll keeps (R75 to R78, R109, R110, R129): the truncation that makes room in the list, the eviction that makes room in
the table, and the new take. -/

namespace Sys2Proof.Machine

/-! ## No take is open -/

/-- No record of the table is open. -/
def NoneOpen (s : State) : Prop := ∀ r ∈ s.takes.table, r.state ≠ .opened

namespace NoneOpen

variable {s u : State}

theorem updRecord (h : NoneOpen s) {id : Nat} {f : TakeRecord → TakeRecord}
    (opened : ∀ r, (f r).state = .opened → r.state = .opened) : NoneOpen (s.updRecord id f) := by
  intro q held
  obtain ⟨r, before, rfl⟩ := List.mem_map.1 held
  split
  · exact fun now => h r before (opened r now)
  · exact h r before

theorem makeFinal (h : NoneOpen s) (id : Nat) (early : Bool) : NoneOpen (s.makeFinal id early) := by
  unfold NoneOpen
  rw [makeFinal_takes]
  exact h.updRecord fun _ (now : RecState.final = .opened) => nomatch now

theorem finalTest (h : NoneOpen s) (id : Nat) : NoneOpen (s.finalTest id) := by
  unfold State.finalTest
  split
  · split
    · exact h.makeFinal _ _
    · exact h
  · exact h

theorem activateOn (h : NoneOpen s) (d : Drain) : NoneOpen (s.activateOn d) := by
  unfold State.activateOn
  split
  · exact h.updRecord fun _ now => now
  · exact h

theorem finalTests (h : NoneOpen s) (l : List Nat) : NoneOpen (runAll (fun id s => s.finalTest id) l s) := by
  induction l generalizing s with
  | nil => exact h
  | cons id l ih => exact ih (h.finalTest id)

theorem sweepList (h : NoneOpen s) : NoneOpen s.sweepList :=
  ((NoneOpen.finalTests (by exact h) _).activateOn .a).activateOn .b

theorem truncateOldest (h : NoneOpen s) : NoneOpen s.truncateOldest := by
  unfold State.truncateOldest
  split
  · exact h
  · exact NoneOpen.sweepList (h.updRecord fun _ now => now)

theorem listed (h : NoneOpen s) : NoneOpen s.listed := by
  unfold State.listed State.enterList
  split
  · split
    · exact h
    · exact NoneOpen.truncateOldest (s := s.modTakes fun t => { t with nextId := followingId t.nextId }) h
  · exact h

theorem evict (h : NoneOpen s) : NoneOpen s.evict := by
  unfold State.evict
  split
  · exact h
  · split
    · exact h
    · rename_i x _
      have before : NoneOpen (if x.state = .closed then s.makeFinal x.id true else s) := by
        split
        · exact h.makeFinal _ _
        · exact h
      exact fun r held => before r (List.mem_of_mem_eraseP held)

end NoneOpen

/-! ## Truncation (R129) -/

theorem RecordCapped.truncate {r : TakeRecord} (h : RecordCapped r) : RecordCapped r.truncate := by
  have gaps (x : Section) (e : Nat) : (x.truncateAt e).gaps = x.gaps := by
    unfold Section.truncateAt
    split <;> rfl
  refine ⟨h.comments, h.events, fun d => ?_⟩
  have get : r.truncate.sections.get d = (r.sections.get d).truncateAt (r.endPos.getD 0) := by cases d <;> rfl
  rw [get, gaps]
  exact h.gaps d

/-- A closed take may be truncated: what is left of its live sections is given up, their blocks staying in flight. -/
theorem TakesAccounted.truncates {s : State} (h : TakesAccounted s) {r : TakeRecord} (held : r ∈ s.takes.table)
    (closed : r.state ≠ .opened) : MovesTo s r r.truncate := by
  obtain ⟨-, c, e, w, -, ends, -⟩ := (h.positions r held).closed closed
  refine ⟨(h.positions r held).congr rfl (.inl rfl), fun d => ?_, fun live => ?_, id, id, id, fun d b on => ?_⟩
  · rw [truncate_section r ends]
    exact ((h.sections r held d).truncated closed ends).congr rfl rfl rfl
  · rw [truncate_live] at live
    cases live
  · rw [truncate_section r ends]
    by_cases live : (r.sections.get d).live = true
    · refine ⟨on.own, .inr ?_, fun now => ?_⟩
      · rw [Section.truncateAt, if_pos live]
      · rw [truncateAt_live] at now
        cases now
    · rw [Section.truncateAt, if_neg live]
      exact ⟨on.own, on.on, on.place⟩

/-- Truncation takes the oldest take off the list. -/
theorem truncateOldest_shorter {s : State} (some_listed : s.delivery.list ≠ []) :
    s.truncateOldest.delivery.list.length < s.delivery.list.length := by
  unfold State.truncateOldest
  split
  · rename_i none_listed
    exact absurd none_listed some_listed
  · rename_i id rest list
    have gone : (s.updRecord id TakeRecord.truncate).stillDelivering id = false := by
      unfold State.stillDelivering
      cases found : s.record? id with
      | none => rw [record?_updRecord s id id TakeRecord.truncate fun _ => rfl, found]; rfl
      | some r =>
        rw [record?_updRecord_same (f := TakeRecord.truncate) (fun _ => rfl) found]
        exact truncate_live r
    have swept := sweepList_list (s.updRecord id TakeRecord.truncate)
    rw [updRecord_delivery, list, List.filter_cons_of_neg (by rw [gone]; nofun)] at swept
    refine (congrArg List.length swept).trans_lt ?_
    rw [list]
    exact Nat.lt_succ_of_le (List.length_filter_le ..)

theorem CoreLegal.sweepList {b : Bool} {s : State} (h : CoreLegal b s) : CoreLegal b s.sweepList :=
  (Kept.sweepList (t := False) (a := False) (k := 0) ⟨h, nofun, nofun⟩).core

theorem CoreLegal.truncateOldest {b : Bool} {s : State} (h : CoreLegal b s) : CoreLegal b s.truncateOldest := by
  unfold State.truncateOldest
  split
  · exact h
  · exact CoreLegal.sweepList (h.updRecord (f := TakeRecord.truncate) (fun _ capped => capped.truncate) fun _ now => now)

theorem Kept.truncateOldest {t a : Prop} {b : Bool} {k : Nat} {s : State} (h : Kept t a b k s) (closed : NoneOpen s) :
    Kept t a b k s.truncateOldest := by
  unfold State.truncateOldest
  split
  · exact h
  · exact Kept.sweepList (h.updRecord (f := TakeRecord.truncate) (fun _ => rfl) (fun _ capped => capped.truncate)
      (fun _ now => now) fun _ counted r found => counted.truncates (record?_mem found) (closed r (record?_mem found)))

/-! ## Take ids (R75) -/

theorem followingId_inRange (id : Nat) : 1 ≤ followingId id ∧ followingId id ≤ 65535 := by
  unfold followingId
  omega

/-- An id comes round after 65,535 takes. -/
theorem followingId_iterate {n : Nat} (range : 1 ≤ n ∧ n ≤ 65535) (i : Nat) :
    followingId^[i] n = (n - 1 + i) % 65535 + 1 := by
  induction i with
  | zero =>
    rw [Function.iterate_zero_apply]
    omega
  | succ i ih =>
    rw [Function.iterate_succ_apply', ih, followingId]
    omega

/-- The machine in which the next id is used. -/
def State.idUsed (s : State) : State := s.modTakes fun t => { t with nextId := followingId t.nextId }

theorem CoreLegal.idUsed {b : Bool} {s : State} (h : CoreLegal b s) : CoreLegal b s.idUsed :=
  ⟨h.reference, h.notices, h.list, h.comments, h.records, ⟨h.takes.atMostOne, h.takes.stopped⟩, followingId_inRange _,
    h.stalled⟩

theorem Kept.idUsed {t a : Prop} {b : Bool} {k : Nat} {s : State} (h : Kept t a b (k + 1) s) : Kept t a b k s.idUsed := by
  refine ⟨h.core.idUsed, fun kept => ?_, fun kept counted => ?_⟩
  · obtain ⟨⟨capacity, ids, list, listed⟩, fresh⟩ := h.table kept
    exact ⟨⟨capacity, ids, list, listed⟩, fun i below => fresh (i + 1) (Nat.succ_lt_succ below)⟩
  · have before := h.accounts kept counted
    exact before.congr rfl rfl rfl before.preRoll before.markDue rfl (fun _ => ⟨rfl, fun on _ => on⟩) before.edges

/-! ## Room in the list and in the table (R76 to R78) -/

/-- Steps 3 and 4 of a roll up to the truncation: the id is used, and a full list makes room if a drain is enabled. -/
def State.listRoom (s : State) : State :=
  if s.anyDrainEnabled = true ∧ ¬s.delivery.list.length < 4 then s.idUsed.truncateOldest else s.idUsed

/-- A take joins the list at its end. -/
def State.joinList (s : State) (id : Nat) : State := s.modDelivery fun e => { e with list := e.list ++ [id] }

section
variable {s : State}

theorem listed_eq (s : State) : s.listed =
    if s.anyDrainEnabled = true then s.listRoom.joinList s.takes.nextId else s.listRoom := by
  unfold State.listed State.listRoom State.joinList State.enterList
  split
  · by_cases room : s.delivery.list.length < 4
    · rw [if_pos (show (s.modTakes _).delivery.list.length < Config.maxDelivering from room), if_neg fun h => h.2 room]
      rfl
    · rw [if_neg (show ¬(s.modTakes _).delivery.list.length < Config.maxDelivering from room), if_pos ⟨‹_›, room⟩]
      rfl
  · rw [if_neg fun h => absurd h.1 ‹_›]
    rfl

theorem listRoom_room (h : s.anyDrainEnabled = true) (capacity : s.delivery.list.length ≤ 4) :
    s.listRoom.delivery.list.length < 4 := by
  unfold State.listRoom
  split
  · rename_i full
    have some_listed : s.idUsed.delivery.list ≠ [] := fun none_listed => full.2 (by
      rw [show s.delivery.list = [] from none_listed]
      decide)
    exact (truncateOldest_shorter some_listed).trans_le capacity
  · rename_i room
    exact Nat.lt_of_not_le fun full => room ⟨h, Nat.not_lt.2 full⟩

theorem listRoom_ids : (s.listRoom.takes.table.map fun r => r.id) = s.takes.table.map fun r => r.id := by
  unfold State.listRoom
  split
  · exact (truncateOldest_frame s.idUsed).2.1
  · rfl

theorem NoneOpen.listRoom (h : NoneOpen s) : NoneOpen s.listRoom := by
  unfold State.listRoom
  split
  · exact NoneOpen.truncateOldest (s := s.idUsed) h
  · exact h

theorem settleOn_joinList (n id : Nat) (d : Drain) : (s.joinList n).settleOn id d = (s.settleOn id d).joinList n := by
  unfold State.settleOn
  rw [show (s.joinList n).drain d = s.drain d from rfl]
  cases (s.drain d).unsettledOf id <;> rfl

theorem makeFinal_joinList (n id : Nat) (early : Bool) :
    (s.joinList n).makeFinal id early = (s.makeFinal id early).joinList n := by
  have record (u : State) : (u.joinList n).record? id = u.record? id := rfl
  unfold State.makeFinal
  dsimp only
  rw [settleOn_joinList, settleOn_joinList]
  generalize (s.settleOn id .a).settleOn id .b = u
  have commutes : (u.joinList n).updRecord id (TakeRecord.madeFinal early) =
    (u.updRecord id (TakeRecord.madeFinal early)).joinList n := rfl
  change (match ((u.joinList n).updRecord id (TakeRecord.madeFinal early)).record? id with
    | some r => ((u.joinList n).updRecord id (TakeRecord.madeFinal early)).notify (.finl id r.header)
    | none => (u.joinList n).updRecord id (TakeRecord.madeFinal early)) =
    State.joinList (match (u.updRecord id (TakeRecord.madeFinal early)).record? id with
    | some r => (u.updRecord id (TakeRecord.madeFinal early)).notify (.finl id r.header)
    | none => u.updRecord id (TakeRecord.madeFinal early)) n
  rw [commutes, record]
  split <;> rfl

/-- Eviction looks at the ids of the table alone: a new id on the list changes nothing for it. -/
theorem evict_joinList {n : Nat} (fresh : ∀ r ∈ s.takes.table, r.id ≠ n) : (s.joinList n).evict = s.evict.joinList n := by
  have chosen : (s.joinList n).evictee = s.evictee := by
    unfold State.evictee
    refine List.find?_congr fun r held => ?_
    have apart := fresh r held
    change (!(s.delivery.list ++ [n]).contains r.id) = _
    rw [List.contains_append]
    simp [apart]
  unfold State.evict
  rw [chosen]
  change (if s.takes.table.length < Config.maxTakes then s.joinList n else _) = _
  split
  · rfl
  · cases s.evictee with
    | none => rfl
    | some r =>
      dsimp only
      rw [makeFinal_joinList]
      split <;> rfl

end

/-! ## Eviction (R77) -/

theorem CoreLegal.evict {b : Bool} {s : State} (h : CoreLegal b s) : CoreLegal b s.evict := by
  unfold State.evict
  split
  · exact h
  · split
    · exact h
    · rename_i x _
      have before : CoreLegal b (if x.state = .closed then s.makeFinal x.id true else s) := by
        split
        · exact h.makeFinal ..
        · exact h
      generalize (if x.state = .closed then s.makeFinal x.id true else s) = u at before ⊢
      refine ⟨before.reference, before.notices, before.list, before.comments,
        fun r held => before.records r (List.mem_of_mem_eraseP held), ⟨?_, fun stopped r held =>
          before.takes.stopped stopped r (List.mem_of_mem_eraseP held)⟩, before.nextId, before.stalled⟩
      exact ((List.eraseP_sublist.filter _).length_le).trans before.takes.atMostOne

/-- The record of an unlisted FINAL take may leave the table. -/
theorem TakesAccounted.erase {s : State} (h : TakesAccounted s) {x : TakeRecord}
    (unique : ∀ q ∈ s.takes.table, q.id = x.id → q = x) (final : x.state = .final) :
    TakesAccounted (s.modTakes fun t => { t with table := t.table.eraseP fun q => q.id == x.id }) := by
  have before {P : TakeRecord → Prop} (all : ∀ r ∈ s.takes.table, P r) :
      ∀ r ∈ s.takes.table.eraseP fun q => q.id == x.id, P r := fun r left => all r (List.mem_of_mem_eraseP left)
  refine ⟨before h.positions, before h.sections, fun d => ?_, before h.listed, before h.left,
    fun tail => before (h.tail tail), h.preRoll, h.markDue, h.edges⟩
  rw [blockAccounted_iff]
  intro b flight
  obtain ⟨enabled, own⟩ := blockAccounted_iff.1 (h.blocks d) b flight
  refine ⟨enabled, fun unsettled => ?_⟩
  obtain ⟨q, found, on⟩ := own unsettled
  refine ⟨q, ?_, on⟩
  refine (find?_eraseP_of_not (fun r hit => ?_) s.takes.table).trans found
  rw [beq_iff_eq] at hit
  rw [beq_eq_false_iff_ne, hit]
  intro same
  exact on.own (unique q (record?_mem found) ((record?_id found).trans same.symm) ▸ final)

theorem Kept.evict {t a : Prop} {b : Bool} {k : Nat} {s : State} (h : Kept t a b k s) (closed : NoneOpen s) :
    Kept t a b k s.evict := by
  have core := h.core.evict
  unfold State.evict at core ⊢
  split
  · exact h
  · rename_i full
    rw [if_neg full] at core
    split
    · exact h
    · rename_i x chosen
      rw [chosen] at core
      dsimp only at core
      have held : x ∈ s.takes.table := List.mem_of_find?_eq_some chosen
      have unlisted := evictee_unlisted chosen
      refine h.change core (fun kept => ?_) fun kept counted => ?_
      · have before : TableKept k (if x.state = .closed then s.makeFinal x.id true else s)
            ∧ (if x.state = .closed then s.makeFinal x.id true else s).delivery.list = s.delivery.list := by
          split
          · exact ⟨kept.makeFinal .., (makeFinal_frame ..).1⟩
          · exact ⟨kept, rfl⟩
        generalize (if x.state = .closed then s.makeFinal x.id true else s) = u at before ⊢
        obtain ⟨⟨⟨capacity, ids, single, listed⟩, fresh⟩, list⟩ := before
        refine ⟨⟨List.eraseP_sublist.length_le.trans capacity, ids.sublist (List.eraseP_sublist.map _), single,
          fun id among => ?_⟩, fun i below r left => fresh i below r (List.mem_of_mem_eraseP left)⟩
        obtain ⟨r, there, same⟩ := List.mem_map.1 (listed id among)
        refine List.mem_map.2 ⟨r, (List.mem_eraseP_of_neg ?_).2 there, same⟩
        rw [beq_iff_eq]
        intro own
        rw [same] at own
        exact unlisted (list ▸ own ▸ among)
      · have unique (q : TakeRecord) (there : q ∈ s.takes.table) (same : q.id = x.id) : q = x :=
          List.inj_on_of_nodup_map kept.table.ids there held same
        split
        · rename_i now
          have final := counted.makeFinal kept.table.ids held now unlisted true
          have found := (makeFinal_found true (kept.record? held)).1
          refine final.erase (x := x.finalIn s true) (fun q there same => ?_) rfl
          exact List.inj_on_of_nodup_map (kept.makeFinal x.id true).table.ids there (record?_mem found) same
        · rename_i other
          refine counted.erase unique ?_
          have not_open := closed x held
          cases state : x.state with
          | opened => exact absurd state not_open
          | closed => exact absurd state other
          | final => rfl

/-- After the eviction the table has room: 16 records stand in no list of four. -/
theorem evict_room_after {k : Nat} {s : State} (kept : TableKept k s) (list : s.delivery.list.length ≤ 4) :
    s.evict.takes.table.length < 16 := by
  have whole := kept.table.capacity
  by_cases room : s.takes.table.length < 16
  · rwa [evict_room room]
  · unfold State.evict
    rw [if_neg (show ¬s.takes.table.length < Config.maxTakes from room)]
    split
    · rename_i none_chosen
      have all (id : Nat) (held : id ∈ s.takes.table.map fun r => r.id) : id ∈ s.delivery.list := by
        obtain ⟨r, there, rfl⟩ := List.mem_map.1 held
        have := List.find?_eq_none.1 none_chosen r there
        simpa using this
      have few := (kept.table.ids.subperm all).length_le
      rw [List.length_map] at few
      omega
    · rename_i x chosen
      have held : x ∈ s.takes.table := List.mem_of_find?_eq_some chosen
      have before : ((if x.state = .closed then s.makeFinal x.id true else s).takes.table.map fun r => r.id) =
          s.takes.table.map fun r => r.id := by
        split
        · exact (makeFinal_frame ..).2.1
        · rfl
      generalize (if x.state = .closed then s.makeFinal x.id true else s) = u at before ⊢
      obtain ⟨r, there, same⟩ := List.mem_map.1 (before ▸ List.mem_map.2 ⟨x, held, rfl⟩)
      have shorter := List.length_eraseP_of_mem (p := fun q : TakeRecord => q.id == x.id) there (beq_iff_eq.2 same)
      have length := congrArg List.length before
      rw [List.length_map, List.length_map] at length
      have positive := List.length_pos_of_mem there
      change (u.takes.table.eraseP fun q => q.id == x.id).length < 16
      omega

end Sys2Proof.Machine
end

section
/-! What a roll keeps: the new take's record, and the roll as a whole (R70, R75 to R78, R109 to R111). -/

namespace Sys2Proof.Machine

/-! ## The new take's record (R70, R110) -/

/-- A take that joins the table has nothing in flight: a block belongs to a record. -/
theorem TakesAccounted.flightOf_new {s : State} (h : TakesAccounted s) {id : Nat} (fresh : ∀ r ∈ s.takes.table, r.id ≠ id)
    (d : Drain) : (s.drain d).flightOf id = 0 := by
  cases flight : (s.drain d).inFlight with
  | none => exact flightOf_idle flight id
  | some b =>
    refine flightOf_foreign flight fun ⟨own, unsettled⟩ => ?_
    obtain ⟨r, found, -⟩ := (h.blocks d b flight).2 unsettled
    exact fresh r (record?_mem found) ((record?_id found).trans own)

/-- A record joins the table, its take the list if a drain delivers it. -/
theorem TakesAccounted.joined {s u : State} (h : TakesAccounted s) {q : TakeRecord} {listed : Prop}
    (table : u.takes.table = s.takes.table ++ [q])
    (list : ∀ id, id ∈ u.delivery.list ↔ id ∈ s.delivery.list ∨ (listed ∧ id = q.id))
    (ring : u.ring = s.ring) (triggers : u.triggers = s.triggers) (drains : ∀ d, u.drain d = s.drain d)
    (rolling : u.takes.state = .rolling) (caps : u.takes.caps = s.takes.caps) (due : u.takes.markDue = s.takes.markDue)
    (fresh : ∀ r ∈ s.takes.table, r.id ≠ q.id) (position : PositionsInOrder s.ring.p q)
    (sections : ∀ d, SectionAccounted s.ring.p q (q.sections.get d) 0) (lives : q.live = true → listed)
    (opened : q.state = .opened) : TakesAccounted u := by
  have each {P : TakeRecord → Prop} (old : ∀ r ∈ s.takes.table, P r) (new : P q) : ∀ r ∈ u.takes.table, P r := by
    intro r held
    rw [table] at held
    rcases List.mem_append.1 held with before | added
    · exact old r before
    · exact List.mem_singleton.1 added ▸ new
  refine ⟨each ?_ ?_, each ?_ ?_, fun d => ?_, each ?_ ?_, each ?_ ?_, fun tail => ?_, ?_, ?_, ?_⟩
  · rw [ring]
    exact h.positions
  · rw [ring]
    exact position
  · intro r held d
    rw [ring, drains]
    exact h.sections r held d
  · intro d
    rw [ring, drains, h.flightOf_new fresh]
    exact sections d
  · rw [blockAccounted_iff, drains]
    intro b flight
    obtain ⟨enabled, own⟩ := blockAccounted_iff.1 (h.blocks d) b flight
    refine ⟨enabled, fun unsettled => ?_⟩
    obtain ⟨r, found, on⟩ := own unsettled
    refine ⟨r, ?_, ?_⟩
    · rw [State.record?] at found ⊢
      rw [table, List.find?_append, found]
      rfl
    · rw [State.oldest, ring]
      exact on
  · exact fun r held live => (list r.id).2 (.inl (h.listed r held live))
  · exact fun live => (list q.id).2 (.inr ⟨lives live, rfl⟩)
  · intro r held final among
    rcases (list r.id).1 among with before | ⟨-, same⟩
    · exact h.left r held final before
    · exact fresh r held same
  · intro final
    rw [opened] at final
    cases final
  · rw [rolling] at tail
    cases tail
  · rw [caps]
    exact h.preRoll
  · rw [due, ring]
    exact h.markDue
  · rw [triggers, ring]
    exact h.edges

theorem TableKept.joined {k : Nat} {s u : State} (h : TableKept k s) {q : TakeRecord}
    (table : u.takes.table = s.takes.table ++ [q]) (next : u.takes.nextId = s.takes.nextId)
    (list : u.delivery.list = s.delivery.list ∨ u.delivery.list = s.delivery.list ++ [q.id])
    (room : s.takes.table.length < 16) (fresh : ∀ r ∈ s.takes.table, r.id ≠ q.id)
    (later : ∀ i < k, q.id ≠ followingId^[i] s.takes.nextId) : TableKept k u := by
  obtain ⟨⟨-, ids, single, listed⟩, free⟩ := h
  have all : u.takes.table.map (fun r => r.id) = s.takes.table.map (fun r => r.id) ++ [q.id] := by
    rw [table, List.map_append]
    rfl
  have apart : q.id ∉ s.takes.table.map fun r => r.id := fun mem => by
    obtain ⟨r, held, same⟩ := List.mem_map.1 mem
    exact fresh r held same
  have unlisted : q.id ∉ s.delivery.list := fun mem => apart (listed _ mem)
  refine ⟨⟨?_, ?_, ?_, fun id among => ?_⟩, fun i below r held => ?_⟩
  · rw [table, List.length_append, List.length_singleton]
    exact room
  · rw [all]
    exact List.Nodup.append ids (List.nodup_singleton _) (by simpa using apart)
  · rcases list with same | joined
    · rwa [same]
    · rw [joined]
      exact List.Nodup.append single (List.nodup_singleton _) (by simpa using unlisted)
  · rw [all]
    rcases list with same | joined
    · rw [same] at among
      exact List.mem_append_left _ (listed id among)
    · rw [joined] at among
      rcases List.mem_append.1 among with before | added
      · exact List.mem_append_left _ (listed id before)
      · exact List.mem_append_right _ added
  · rw [next]
    rw [table] at held
    rcases List.mem_append.1 held with before | added
    · exact free i below r before
    · rw [List.mem_singleton.1 added]
      exact later i below

section
variable {s : State} (cause : Cause) {r : Nat}

theorem newRecord_capped (comments : s.binding.comments.length ≤ 8) : RecordCapped (s.newRecord cause r) :=
  ⟨comments, Nat.zero_le _, fun d => by cases d <;> exact Nat.zero_le _⟩

theorem newRecord_positions (preRoll : s.takes.caps.preRoll ≤ 480000) (retained : s.oldest ≤ r) (here : r ≤ s.ring.p) :
    PositionsInOrder s.ring.p (s.newRecord cause r) := by
  have start : s.rollStart r = max (r - s.takes.caps.preRoll) s.oldest := rfl
  refine ⟨?_, here, nofun, rfl, nofun, fun _ => rfl, fun closed => absurd rfl closed⟩
  change s.rollStart r ≤ r ∧ r ≤ s.rollStart r + 480000
  omega

theorem newRecord_sections (here : r ≤ s.ring.p) (d : Drain) :
    SectionAccounted s.ring.p (s.newRecord cause r) ((s.newRecord cause r).sections.get d) 0 := by
  rw [newRecord_section]
  refine SectionAccounted.fresh (r := s.newRecord cause r) _ ?_ rfl
  have := oldest_le s
  change max (r - s.takes.caps.preRoll) s.oldest ≤ s.ring.p
  omega

theorem newRecord_live (live : (s.newRecord cause r).live = true) : s.anyDrainEnabled = true := by
  obtain ⟨d, live⟩ := (live_iff _).1 live
  rw [newRecord_section, newSection_live] at live
  exact anyDrainEnabled_of live

end

/-! ## The take enters (R78) -/

theorem CoreLegal.listRoom {b : Bool} {s : State} (h : CoreLegal b s) : CoreLegal b s.listRoom := by
  unfold State.listRoom
  split
  · exact h.idUsed.truncateOldest
  · exact h.idUsed

theorem CoreLegal.listed {b : Bool} {s : State} (h : CoreLegal b s) : CoreLegal b s.listed := by
  have room := h.listRoom
  rw [listed_eq]
  split
  · rename_i enabled
    refine ⟨room.reference, room.notices, ?_, room.comments, room.records, room.takes, room.nextId, room.stalled⟩
    have := listRoom_room enabled h.list
    change (s.listRoom.delivery.list ++ [s.takes.nextId]).length ≤ 4
    rw [List.length_append, List.length_singleton]
    omega
  · exact room

theorem CoreLegal.takeEntered {b : Bool} {s : State} (h : CoreLegal b s) (closed : NoneOpen s) (cause : Cause) (r : Nat) :
    CoreLegal b (s.takeEntered cause r) := by
  have room : CoreLegal b s.rollMakesRoom := h.listed.evict
  have shut : NoneOpen s.rollMakesRoom := closed.listed.evict
  refine ⟨room.reference, room.notices, room.list, Nat.zero_le _, fun q held => ?_, ⟨?_, nofun⟩, room.nextId, room.stalled⟩
  · rcases List.mem_append.1 held with before | added
    · exact room.records q before
    · exact List.mem_singleton.1 added ▸ newRecord_capped cause h.comments
  · change ((s.rollMakesRoom.takes.table ++ [s.newRecord cause r]).filter fun r => r.state == .opened).length ≤ 1
    have none_there : (s.rollMakesRoom.takes.table.filter fun r => r.state == .opened) = [] :=
      List.filter_eq_nil_iff.2 fun q held => by simpa using shut q held
    rw [List.filter_append, none_there]
    exact List.length_filter_le ..

theorem listRoom_frame (s : State) : s.listRoom.takes.nextId = followingId s.takes.nextId
    ∧ s.listRoom.takes.caps = s.takes.caps ∧ s.listRoom.takes.markDue = s.takes.markDue ∧ Confined s s.listRoom := by
  unfold State.listRoom
  split
  · have same := sameController_truncateOldest s.idUsed
    exact ⟨same.nextId, same.caps, same.markDue, (confined_modTakes ..).trans (confined_truncateOldest _)⟩
  · exact ⟨rfl, rfl, rfl, confined_modTakes ..⟩

theorem Kept.listRoom {t a : Prop} {b : Bool} {k : Nat} {s : State} (h : Kept t a b (k + 1) s) (closed : NoneOpen s) :
    Kept t a b k s.listRoom := by
  unfold State.listRoom
  exact Kept.ite (fun _ => h.idUsed.truncateOldest closed) fun _ => h.idUsed

/-- What is left of the controller, the ids and the blocks when room has been made, before the take joins. -/
theorem roomMade_frame (s : State) : s.listRoom.evict.takes.nextId = followingId s.takes.nextId
    ∧ s.listRoom.evict.takes.caps = s.takes.caps ∧ s.listRoom.evict.takes.markDue = s.takes.markDue
    ∧ Confined s s.listRoom.evict
    ∧ (s.listRoom.evict.takes.table.map fun r => r.id).Sublist (s.takes.table.map fun r => r.id) := by
  obtain ⟨nextId, caps, due, confined⟩ := listRoom_frame s
  have same := sameController_evict s.listRoom
  have ids := (evict_frame s.listRoom).2.1
  rw [listRoom_ids] at ids
  exact ⟨same.nextId.trans nextId, same.caps.trans caps, same.markDue.trans due, confined.trans (confined_evict _), ids⟩

theorem rollMakesRoom_joins {s : State} (fresh : ∀ r ∈ s.takes.table, r.id ≠ s.takes.nextId) : s.rollMakesRoom =
    if s.anyDrainEnabled = true then s.listRoom.evict.joinList s.takes.nextId else s.listRoom.evict := by
  rw [rollMakesRoom_eq, listed_eq]
  split
  · refine evict_joinList fun r held same => ?_
    obtain ⟨q, there, own⟩ := List.mem_map.1 (listRoom_ids ▸ List.mem_map.2 ⟨r, held, rfl⟩ :
      r.id ∈ s.takes.table.map fun r => r.id)
    exact fresh q there (own.trans same)
  · rfl

/-- The new take enters: its id is the one that was next. -/
theorem Kept.takeEntered {t a : Prop} {b : Bool} {k : Nat} {s : State} (h : Kept t a b (k + 1) s) (closed : NoneOpen s)
    (few : k ≤ 2) (cause : Cause) {r : Nat} (here : t → a → s.oldest ≤ r ∧ r ≤ s.ring.p) :
    Kept t a b k (s.takeEntered cause r) := by
  have room : Kept t a b k s.listRoom.evict := (h.listRoom closed).evict closed.listRoom
  obtain ⟨nextId, caps, due, confined, ids⟩ := roomMade_frame s
  have unused (kept : TableKept (k + 1) s) : ∀ q ∈ s.takes.table, q.id ≠ s.takes.nextId :=
    fun q held => kept.fresh 0 (Nat.succ_pos k) q held
  have unused_still (kept : TableKept (k + 1) s) : ∀ q ∈ s.listRoom.evict.takes.table, q.id ≠ s.takes.nextId := by
    intro q held
    obtain ⟨p, there, same⟩ := List.mem_map.1 (ids.subset (List.mem_map_of_mem (f := fun r => r.id) held))
    exact same ▸ unused kept p there
  have table (kept : TableKept (k + 1) s) :
      (s.takeEntered cause r).takes.table = s.listRoom.evict.takes.table ++ [s.newRecord cause r] := by
    change s.rollMakesRoom.takes.table ++ _ = _
    rw [rollMakesRoom_joins (unused kept)]
    split <;> rfl
  have list (kept : TableKept (k + 1) s) : (s.takeEntered cause r).delivery = if s.anyDrainEnabled = true then
      { s.listRoom.evict.delivery with list := s.listRoom.evict.delivery.list ++ [s.takes.nextId] }
      else s.listRoom.evict.delivery := by
    change s.rollMakesRoom.delivery = _
    rw [rollMakesRoom_joins (unused kept)]
    split <;> rfl
  have same : SameController s.idUsed s.rollMakesRoom := rollMakesRoom_controller s
  have all : Confined s s.rollMakesRoom := confined_rollMakesRoom s
  refine ⟨h.core.takeEntered closed cause r, fun legal => ?_, fun legal counts => ?_⟩
  · have kept := h.table legal
    refine (room.table legal).joined (table kept) ?_ ?_ (evict_room_after ((h.listRoom closed).table legal)
      (h.listRoom closed).core.list) (unused_still kept) fun i below => ?_
    · rw [nextId]
      exact same.nextId
    · rw [list kept]
      split
      · exact .inr rfl
      · exact .inl rfl
    · change s.takes.nextId ≠ _
      have range := h.core.nextId
      rw [nextId, ← Function.iterate_succ_apply, followingId_iterate range]
      unfold NextIdInRange at range
      omega
  · have kept := h.table legal
    have before := h.accounts legal counts
    have after := room.accounts legal counts
    obtain ⟨retained, past⟩ := here legal counts
    refine after.joined (q := s.newRecord cause r) (listed := s.anyDrainEnabled = true) (table kept) (fun id => ?_) ?_ ?_
      (fun d => ?_) rfl ?_ ?_ (unused_still kept) ?_ ?_ (newRecord_live cause) rfl
    · rw [list kept]
      split
      · rename_i enabled
        change id ∈ s.listRoom.evict.delivery.list ++ [s.takes.nextId] ↔ _ ∨ (_ ∧ id = s.takes.nextId)
        simp [enabled]
      · rename_i off
        simp [off]
    · rw [confined.ring]
      exact all.ring
    · rw [confined.triggers]
      exact all.triggers
    · rw [State.drain, State.drain, list kept]
      split <;> rfl
    · rw [caps]
      exact same.caps
    · rw [due]
      exact same.markDue
    · rw [confined.ring]
      exact newRecord_positions cause before.preRoll retained past
    · rw [confined.ring]
      exact newRecord_sections cause past

theorem Kept.rollOpens {t a : Prop} {b : Bool} {k : Nat} {s : State} (h : Kept t a b (k + 1) s) (closed : NoneOpen s)
    (few : k ≤ 2) (cause : Cause) {r : Nat} (here : t → a → s.oldest ≤ r ∧ r ≤ s.ring.p) :
    Kept t a b k (s.rollOpens cause r) := by
  rw [rollOpens_eq]
  exact ((h.takeEntered closed few cause here).activate).notify _

end Sys2Proof.Machine
end

section
/-! What closing, cutting and rolling keep (R69, R78 to R87, R91). -/

namespace Sys2Proof.Machine

/-! ## The open take (R66) -/

theorem OneOpenTake.unique {c : TakeCtl} (h : OneOpenTake c) {r q : TakeRecord} (held : r ∈ c.table) (opened : r.state = .opened)
    (there : q ∈ c.table) (open_too : q.state = .opened) : q = r := by
  have first : r ∈ c.table.filter fun r => r.state == .opened := List.mem_filter.2 ⟨held, beq_iff_eq.2 opened⟩
  have second : q ∈ c.table.filter fun r => r.state == .opened := List.mem_filter.2 ⟨there, beq_iff_eq.2 open_too⟩
  have one := h.atMostOne
  match list : c.table.filter fun r => r.state == .opened with
  | [] =>
    rw [list] at first
    cases first
  | [x] =>
    rw [list] at first second
    exact (List.mem_singleton.1 second).trans (List.mem_singleton.1 first).symm
  | x :: y :: l =>
    rw [list, List.length_cons, List.length_cons] at one
    omega

theorem noneOpen_of_openRecord? {s : State} (h : s.openRecord? = none) : NoneOpen s := by
  intro r held opened
  have := List.find?_eq_none.1 h r held
  rw [opened] at this
  exact this rfl

theorem CoreLegal.notify {b : Bool} {s : State} (h : CoreLegal b s) (n : Notice) : CoreLegal b (s.notify n) :=
  (Kept.notify (t := False) (a := False) (k := 0) ⟨h, nofun, nofun⟩ n).core

/-! ## The close (R87) -/

theorem closeOpen_state {s : State} {r : TakeRecord} (e : Nat) (opened : s.openRecord? = some r) :
    (s.closeOpen e).takes.state = .stopped := by
  unfold State.closeOpen
  rw [opened]
  exact ((sweeps_finalTest _ r.id).sameController.state).trans (sameController_handEnd _ r.id _).state

theorem closeOpen_none {s : State} (e : Nat) (h : s.openRecord? = none) : s.closeOpen e = s := by
  rw [State.closeOpen, h]

section
variable {s : State} {r : TakeRecord}

/-- The machine whose open take has closed at an end, before its sections are tested for DONE (R87 steps 1 to 5). -/
def State.closedAt (s : State) (r : TakeRecord) (e : Nat) : State :=
  (((s.updRecord r.id (TakeRecord.close e s.takes.caps.window)).modTakes fun t => { t with state := .stopped }).notify
    (r.closNotice e s.takes.caps.window)).updRecord r.id (TakeRecord.settleOwing e)

theorem closeOpen_closedAt (e : Nat) (opened : s.openRecord? = some r) : s.closeOpen e =
    ((((s.closedAt r (r.closingEnd e)).testDone r.id .a).testDone r.id .b).sweepList).finalTest r.id := closeOpen_eq e opened

theorem closedAt_takes (e : Nat) : (s.closedAt r e).takes =
    { (s.updRecord r.id fun q => (q.close e s.takes.caps.window).settleOwing e).takes with state := .stopped } :=
  congrArg (fun u : State => { u.takes with state := .stopped })
    (updRecord_updRecord s r.id (TakeRecord.close e s.takes.caps.window) (TakeRecord.settleOwing e) fun _ => rfl)

theorem RecordCapped.settleOwing {q : TakeRecord} (h : RecordCapped q) (e : Nat) : RecordCapped (q.settleOwing e) := by
  have gaps (x : Section) : (x.settleOwing e).gaps = x.gaps := by
    unfold Section.settleOwing
    split <;> rfl
  have get (d : Drain) : (q.settleOwing e).sections.get d = (q.sections.get d).settleOwing e := by cases d <;> rfl
  refine ⟨h.comments, h.events, fun d => ?_⟩
  rw [get, gaps]
  exact h.gaps d

theorem CoreLegal.closedAt {b : Bool} (h : CoreLegal b s) (opened : s.openRecord? = some r) (e : Nat) :
    CoreLegal b (s.closedAt r e) := by
  obtain ⟨state, held⟩ := openRecord?_spec opened
  have closed : CoreLegal b (s.updRecord r.id (TakeRecord.close e s.takes.caps.window)) :=
    h.updRecord (fun _ capped => ⟨capped.comments, capped.events, capped.gaps⟩) fun _ (now : RecState.closed = .opened) =>
      nomatch now
  have stopped : CoreLegal b ((s.updRecord r.id (TakeRecord.close e s.takes.caps.window)).modTakes
      fun t => { t with state := .stopped }) := by
    refine ⟨closed.reference, closed.notices, closed.list, closed.comments, closed.records,
      ⟨closed.takes.atMostOne, fun _ q there => ?_⟩, closed.nextId, closed.stalled⟩
    obtain ⟨p, before, rfl⟩ := List.mem_map.1 there
    split
    · nofun
    · rename_i other
      exact fun now => other (congrArg _ (h.takes.unique held state before now))
  exact (stopped.notify _).updRecord (fun _ capped => capped.settleOwing e) fun _ now => now

/-- The accounts of a take state other than TAIL. -/
theorem TakesAccounted.stops {u : State} (h : TakesAccounted s) (takes : u.takes = { s.takes with state := .stopped })
    (delivery : u.delivery = s.delivery) (ring : u.ring = s.ring) (triggers : u.triggers = s.triggers) :
    TakesAccounted u := by
  have drain (d : Drain) : u.drain d = s.drain d := by rw [State.drain, State.drain, delivery]
  have record (id : Nat) : u.record? id = s.record? id := by rw [State.record?, State.record?, takes]
  refine ⟨by rw [takes, ring]; exact h.positions, ?_, fun d => ?_, by rw [takes, delivery]; exact h.listed,
    by rw [takes, delivery]; exact h.left, fun tail => ?_, by rw [takes]; exact h.preRoll,
    by rw [takes, ring]; exact h.markDue, by rw [ring, triggers]; exact h.edges⟩
  · rw [takes, ring]
    intro q held d
    rw [drain]
    exact h.sections q held d
  · have := h.blocks d
    unfold BlockAccounted at this ⊢
    simpa only [drain, record, State.oldest, ring] using this
  · rw [takes] at tail
    cases tail

/-- An open take with a cut may close at an end that its close asks for, raised over what has been formed. -/
theorem TakesAccounted.closes (h : TakesAccounted s) (held : r ∈ s.takes.table) (opened : r.state = .opened) {e c : Nat}
    (cut : r.cut = some c) (after : c ≤ e) (past : e ≤ s.ring.p) (window : Nat) :
    MovesTo s r ((r.close (r.closingEnd e) window).settleOwing (r.closingEnd e)) := by
  have order := h.positions r held
  have unended := order.opened opened
  have reach (d : Drain) (on : (r.sections.get d).state ≠ .off) : (r.sections.get d).formation ≤ s.ring.p := by
    have := (h.sections r held d).reach on
    rwa [unended] at this
  have raise (x : Section) (e : Nat) : e ≤ x.raiseEnd e ∧ (x.state ≠ .off → x.formation ≤ x.raiseEnd e)
      ∧ (∀ p, e ≤ p → (x.state ≠ .off → x.formation ≤ p) → x.raiseEnd e ≤ p) := by
    unfold Section.raiseEnd
    split
    · exact ⟨Nat.le_refl e, fun on => absurd ‹_› on, fun _ le _ => le⟩
    · exact ⟨Nat.le_max_left .., fun _ => Nat.le_max_right .., fun p le on => max_le le (on ‹_›)⟩
  obtain ⟨le_a, on_a, top_a⟩ := raise r.sections.a e
  obtain ⟨le_b, on_b, top_b⟩ := raise r.sections.b (r.sections.a.raiseEnd e)
  have asked : e ≤ r.closingEnd e := le_a.trans le_b
  have top : r.closingEnd e ≤ s.ring.p := top_b _ (top_a _ past (reach .a)) (reach .b)
  have formed (d : Drain) (on : (r.sections.get d).state ≠ .off) : (r.sections.get d).formation ≤ r.closingEnd e := by
    cases d with
    | a => exact (on_a on).trans le_b
    | b => exact on_b on
  generalize r.closingEnd e = E at *
  have get (d : Drain) : ((r.close E window).settleOwing E).sections.get d = (r.sections.get d).settleOwing E := by
    cases d <;> rfl
  have kept (x : Section) : (x.settleOwing E).state = x.state ∧ (x.settleOwing E).formation = x.formation := by
    unfold Section.settleOwing
    split <;> exact ⟨rfl, rfl⟩
  refine ⟨⟨order.start, order.roll, order.cut, order.cause, nofun, nofun, fun _ =>
    ⟨rfl, c, E, E + window, cut, rfl, rfl, after.trans asked, top, Nat.le_add_right ..⟩⟩, fun d => ?_, fun live => ?_, nofun,
    nofun, id, fun d b on => ?_⟩
  · rw [get]
    exact (h.sections r held d).closed opened (formed d) rfl rfl rfl
  · obtain ⟨d, live⟩ := (live_iff _).1 live
    rw [get, live_congr (kept _).1] at live
    exact live_of_section live
  · rw [get]
    refine ⟨nofun, ?_, fun live => ?_⟩
    · rw [live_congr (kept _).1, (kept _).1]
      exact on.on
    · rw [live_congr (kept _).1] at live
      rw [(kept _).2]
      exact on.place live

namespace Kept

variable {t a : Prop} {b : Bool} {k : Nat}

theorem closedAt (h : Kept t a b k s) (opened : s.openRecord? = some r) {e : Nat}
    (asked : t → a → ∃ c, r.cut = some c ∧ c ≤ e ∧ e ≤ s.ring.p) : Kept t a b k (s.closedAt r (r.closingEnd e)) := by
  obtain ⟨state, held⟩ := openRecord?_spec opened
  refine ⟨h.core.closedAt opened _, fun legal => ?_, fun legal counts => ?_⟩
  · refine (h.table legal).of_ids ?_ ?_ (List.Sublist.refl _)
    · rw [closedAt_takes]
      exact ids_updRecord s r.id _ fun _ => rfl
    · rw [closedAt_takes]
      rfl
  · obtain ⟨c, cut, after, past⟩ := asked legal counts
    have kept := h.table legal
    have counted := h.accounts legal counts
    refine (counted.moves (id := r.id) (f := fun q => (q.close (r.closingEnd e) s.takes.caps.window).settleOwing (r.closingEnd e))
      kept.table.ids (fun _ => rfl) fun q found => ?_).stops (closedAt_takes _) rfl rfl rfl
    obtain rfl := kept.unique found held rfl
    exact counted.closes held state cut after past _

theorem closeOpen (h : Kept t a b k s) {e : Nat}
    (asked : t → a → ∀ r, s.openRecord? = some r → ∃ c, r.cut = some c ∧ c ≤ e ∧ e ≤ s.ring.p) :
    Kept t a b k (s.closeOpen e) := by
  cases opened : s.openRecord? with
  | none => rwa [closeOpen_none e opened]
  | some r =>
    rw [closeOpen_closedAt e opened]
    exact (((h.closedAt opened fun legal counts => asked legal counts r opened).testDone _ _).testDone _ _).sweepList.finalTest _

/-- After a close no take is open. -/
theorem closeOpen_noneOpen (h : Kept t a b k (s.closeOpen e)) : NoneOpen (s.closeOpen e) := by
  cases opened : s.openRecord? with
  | none =>
    rw [closeOpen_none e opened]
    exact noneOpen_of_openRecord? opened
  | some r => exact h.core.takes.stopped (closeOpen_state e opened)

/-- The tailing take closes at the roll position, or at its cut if that is later (R80). -/
theorem closeTail (h : Kept t a b k s) (tail : s.takes.state = .tail) {p : Nat} (here : p ≤ s.ring.p) :
    Kept t a b k (s.closeTail p) := by
  unfold State.closeTail
  split
  · exact h
  · rename_i q opened
    obtain ⟨state, held⟩ := openRecord?_spec opened
    have shortened : Kept t a b k (s.updRecord q.id TakeRecord.shortened) :=
      h.noted (fun _ capped => ⟨capped.comments, capped.events, capped.gaps⟩) fun _ => rfl
    refine shortened.closeOpen fun legal counts r now => ?_
    obtain rfl := Option.some.inj ((shortened_open opened).symm.trans now)
    have before := h.accounts legal counts
    obtain ⟨c, cut⟩ := Option.isSome_iff_exists.1 (before.tail tail q held state)
    obtain ⟨-, past⟩ := (before.positions q held).cut c cut
    refine ⟨c, cut, ?_, ?_⟩
    · rw [cut]
      exact Nat.le_max_right ..
    · rw [cut]
      exact max_le here past

theorem closeTail_noneOpen {p : Nat} (h : Kept t a b k (s.closeTail p)) : NoneOpen (s.closeTail p) := by
  cases opened : s.openRecord? with
  | none =>
    unfold State.closeTail
    rw [opened]
    exact noneOpen_of_openRecord? opened
  | some q =>
    rw [closeTail_eq p opened] at h ⊢
    exact h.closeOpen_noneOpen

end Kept

end

/-! ## The cut (R83 to R85) -/

/-- A record with an end target (R83). -/
def TakeRecord.aimedAt (e : Option Nat) (q : TakeRecord) : TakeRecord := { q with endTarget := e }

section
variable {s : State} {q : TakeRecord}

/-- A close leaves no end target, whatever it was (R87). -/
theorem closeOpen_target (opened : s.openRecord? = some q) (cause : Cause) (c e : Nat) :
    (s.updRecord q.id (TakeRecord.cutAt cause c)).closeOpen e =
      (s.updRecord q.id fun r => (r.cutAt cause c).aimedAt none).closeOpen e := by
  have first := openRecord?_updRecord (f := TakeRecord.cutAt cause c) (fun _ => rfl) opened
  have second := openRecord?_updRecord (f := fun r => (r.cutAt cause c).aimedAt none) (fun _ => rfl) opened
  rw [State.closeOpen, State.closeOpen, first, second]
  have same (E w : Nat) : (s.updRecord q.id (TakeRecord.cutAt cause c)).updRecord q.id (TakeRecord.close E w) =
      (s.updRecord q.id fun r => (r.cutAt cause c).aimedAt none).updRecord q.id (TakeRecord.close E w) := by
    rw [updRecord_updRecord s q.id (TakeRecord.cutAt cause c) _ fun _ => rfl,
      updRecord_updRecord s q.id (fun r => (r.cutAt cause c).aimedAt none) _ fun _ => rfl]
    rfl
  exact congrArg (fun u : State => (((u.modTakes fun t => { t with state := .stopped }).notify
    ((q.cutAt cause c).closNotice ((q.cutAt cause c).closingEnd e) s.takes.caps.window)).handEnd q.id
      ((q.cutAt cause c).closingEnd e)).finalTest q.id) (same _ _)

theorem cutOpen_aimed (opened : s.openRecord? = some q) (cause : Cause) (c : Nat) : s.cutOpen q cause c =
    if s.ring.p < c + s.takes.caps.postRoll then
      (s.updRecord q.id fun r => (r.cutAt cause c).aimedAt (some (c + s.takes.caps.postRoll))).modTakes
        fun t => { t with state := .tail }
    else (s.updRecord q.id fun r => (r.cutAt cause c).aimedAt none).closeOpen (c + s.takes.caps.postRoll) := by
  rw [← closeOpen_target opened, cutOpen_eq]
  split
  · rw [← updRecord_updRecord s q.id (TakeRecord.cutAt cause c) (TakeRecord.aimedAt _) fun _ => rfl]
    rfl
  · rfl

/-- An open take may be cut at a position from its roll to P, with an end target no earlier. -/
theorem TakesAccounted.cuts (h : TakesAccounted s) (held : q ∈ s.takes.table) (opened : q.state = .opened) (cause : Cause) {c : Nat}
    (after : q.roll ≤ c) (past : c ≤ s.ring.p) {target : Option Nat} (aim : ∀ e, target = some e → c ≤ e) :
    MovesTo s q ((q.cutAt cause c).aimedAt target) := by
  have order := h.positions q held
  refine ⟨⟨order.start, order.roll, fun c' same => ?_, rfl, fun e ends => ⟨c, rfl, aim e ends⟩, order.opened, fun closed =>
    absurd opened closed⟩, fun d => (h.sections q held d).congr rfl rfl rfl, id, id, id, fun _ => rfl, fun d b on =>
    ⟨on.own, on.on, on.place⟩⟩
  obtain rfl : c = c' := Option.some.inj same
  exact ⟨after, past⟩

namespace Kept

variable {t a : Prop} {b : Bool} {k : Nat}

theorem cutAimed (h : Kept t a b k s) (opened : s.openRecord? = some q) (cause : Cause) {c : Nat}
    (place : t → a → q.roll ≤ c ∧ c ≤ s.ring.p) {target : Option Nat} (aim : ∀ e, target = some e → c ≤ e) :
    Kept t a b k (s.updRecord q.id fun r => (r.cutAt cause c).aimedAt target) := by
  obtain ⟨state, held⟩ := openRecord?_spec opened
  refine ⟨h.core.updRecord (fun _ capped => ⟨capped.comments, capped.events, capped.gaps⟩) fun _ now => now,
    fun legal => (h.table legal).of_ids (ids_updRecord s q.id _ fun _ => rfl) rfl (List.Sublist.refl _),
    fun legal counts => ?_⟩
  obtain ⟨after, past⟩ := place legal counts
  have counted := h.accounts legal counts
  refine counted.moves (h.table legal).table.ids (fun _ => rfl) fun r found => ?_
  obtain rfl := (h.table legal).unique found held rfl
  exact counted.cuts held state cause after past aim

/-- TAIL begins, the open take having its cut (R83). -/
theorem tails (h : Kept t a b k s) (cut : t → a → ∀ r ∈ s.takes.table, r.state = .opened → r.cut.isSome = true) :
    Kept t a b k (s.modTakes fun t => { t with state := .tail }) := by
  refine ⟨⟨h.core.reference, h.core.notices, h.core.list, h.core.comments, h.core.records, ⟨h.core.takes.atMostOne, nofun⟩,
    h.core.nextId, h.core.stalled⟩, fun legal => (h.table legal).of_ids rfl rfl (List.Sublist.refl _), fun legal counts => ?_⟩
  have counted := h.accounts legal counts
  exact ⟨counted.positions, counted.sections, counted.blocks, counted.listed, counted.left, fun _ => cut legal counts,
    counted.preRoll, counted.markDue, counted.edges⟩

theorem cutOpen (h : Kept t a b k s) (opened : s.openRecord? = some q) (cause : Cause) {c : Nat}
    (place : t → a → q.roll ≤ c ∧ c ≤ s.ring.p) : Kept t a b k (s.cutOpen q cause c) := by
  obtain ⟨state, held⟩ := openRecord?_spec opened
  rw [cutOpen_aimed opened]
  refine Kept.ite (fun _ => ?_) fun reached => ?_
  · refine (h.cutAimed opened cause place fun e ends => ?_).tails fun _ _ r there now => ?_
    · obtain rfl := Option.some.inj ends
      exact Nat.le_add_right ..
    · obtain ⟨p, before, rfl⟩ := List.mem_map.1 there
      split at now
      · rename_i same
        rw [if_pos same]
        rfl
      · rename_i other
        exact absurd (congrArg _ (h.core.takes.unique held state before now)) other
  · refine (h.cutAimed opened cause place (target := none) fun _ (none_aimed : none = some _) =>
      nomatch none_aimed).closeOpen fun legal counts r now => ?_
    obtain rfl := Option.some.inj ((openRecord?_updRecord (f := fun r => (r.cutAt cause c).aimedAt none) (fun _ => rfl)
      opened).symm.trans now)
    exact ⟨c, rfl, Nat.le_add_right .., Nat.not_lt.1 reached⟩

theorem cutReq (h : Kept t a b k s) (cause : Cause) (pos : Nat) (level : Option Line) :
    Kept t a b k (s.cutReq cause pos level).1 := by
  unfold State.cutReq
  split
  · rename_i q _ opened
    obtain ⟨-, held⟩ := openRecord?_spec opened
    split
    · exact h
    · refine h.cutOpen opened cause fun legal counts => ⟨Nat.le_max_right .., ?_⟩
      exact max_le (Nat.min_le_right ..) ((h.accounts legal counts).positions q held).roll
  · exact h
  · exact h
  · exact h

/-! ## The roll (R78 to R81) -/

theorem refuseRoll (h : Kept t a b k s) (cause : Cause) (r : Nat) : Kept t a b k (s.refuseRoll cause r) := by
  cases cause with
  | command => exact h
  | mark => exact h.notify _
  | trigger1 => exact h.notify _
  | trigger2 => exact h.notify _
  | limit => exact h

/-- A roll uses up one of the ids that are known to be free, if it opens a take. -/
theorem rollReq (h : Kept t a b (k + 1) s) (few : k ≤ 2) (cause : Cause) {pos : Nat} (recent : t → a → s.oldest ≤ pos) :
    Kept t a b k (s.rollReq cause pos).1 := by
  have place (legal : t) (counts : a) : s.oldest ≤ min pos s.ring.p ∧ min pos s.ring.p ≤ s.ring.p :=
    ⟨le_min (recent legal counts) (oldest_le s), Nat.min_le_right ..⟩
  unfold State.rollReq
  split
  · exact h.fewer
  · rename_i stopped
    split
    · exact h.fewer.refuseRoll ..
    · exact h.rollOpens (h.core.takes.stopped stopped) few cause place
  · rename_i tail
    split
    · exact h.fewer.refuseRoll ..
    · have closed := h.closeTail tail (p := min pos s.ring.p) (Nat.min_le_right ..)
      refine closed.rollOpens closed.closeTail_noneOpen few cause ?_
      rw [State.oldest, (confined_closeTail s _).ring]
      exact place

/-! ## The work at an advance of P (R59) -/

theorem takeLimitCut (h : Kept t a b k s) : Kept t a b k s.takeLimitCut := by
  unfold State.takeLimitCut
  split
  · exact h.cutReq ..
  · exact h

theorem takeTailEnd (h : Kept t a b k s) : Kept t a b k s.takeTailEnd := by
  unfold State.takeTailEnd
  split
  · rename_i e due
    refine h.closeOpen fun legal counts r opened => ?_
    obtain ⟨state, held⟩ := openRecord?_spec opened
    unfold State.tailDue at due
    rw [opened] at due
    split at due
    · rename_i found
      cases found
      split at due
      · rename_i target
        split at due
        · rename_i reached
          obtain rfl := Option.some.inj due
          obtain ⟨c, cut, after⟩ := ((h.accounts legal counts).positions r held).target _ target
          exact ⟨c, cut, after, reached⟩
        · cases due
      · cases due
    · cases due
  · exact h

theorem takeWindowEnd (h : Kept t a b k s) : Kept t a b k s.takeWindowEnd := h.each fun id _ _ kept => kept.finalTest id

end Kept

end

end Sys2Proof.Machine
end

section
/-! What the marks, the trigger edges and the timeline unit keep (R20 to R34, R98 to R107), REFERENCE LOST going with the
reference state. -/

namespace Sys2Proof.Machine

namespace Kept

variable {t a : Prop} {b : Bool} {k n : Nat} {s u : State}

/-! ## Marks (R98 to R102) -/

/-- A change of the take controller outside its state, its table and its next id. -/
theorem controls (h : Kept t a b k s) {f : TakeCtl → TakeCtl} (table : (f s.takes).table = s.takes.table)
    (state : (f s.takes).state = s.takes.state) (nextId : (f s.takes).nextId = s.takes.nextId)
    (preRoll : t → a → (f s.takes).caps.preRoll ≤ 480000)
    (due : t → a → ∀ m, (f s.takes).markDue = some m → m.pos = s.ring.p) : Kept t a b k (s.modTakes f) :=
  ⟨h.core.congr h.core.reference h.core.notices ⟨table, state, nextId⟩ (Nat.le_refl _) h.core.comments h.core.stalled,
    fun legal => (h.table legal).of_ids (congrArg (List.map _) table) nextId (List.Sublist.refl _),
    fun legal counts => (h.accounts legal counts).congr rfl table state (preRoll legal counts) (due legal counts) rfl
      (fun _ => ⟨rfl, fun on _ => on⟩) (h.accounts legal counts).edges⟩

theorem disarm (h : Kept t a b k s) (m : MarkName) : Kept t a b k (s.disarm m) := by
  cases m with
  | start =>
    exact h.controls (f := fun c => { c with startMark := { c.startMark with armed := false } }) rfl rfl rfl
      (fun legal counts => (h.accounts legal counts).preRoll) fun legal counts => (h.accounts legal counts).markDue
  | stop =>
    exact h.controls (f := fun c => { c with stopMark := { c.stopMark with armed := false } }) rfl rfl rfl
      (fun legal counts => (h.accounts legal counts).preRoll) fun legal counts => (h.accounts legal counts).markDue

theorem fireMark {m : MarkName} (h : Kept t a b (k + m.rolls) s) (few : k ≤ 2) {pos : Nat} (recent : t → a → s.oldest ≤ pos)
    (c1 c2 : Nat) : Kept t a b k (s.fireMark m pos c1 c2) := by
  have disarmed := h.disarm m
  cases m with
  | start => exact (disarmed.rollReq few .mark recent).notify _
  | stop => exact (disarmed.cutReq ..).notify _

theorem moveMark {m : MarkName} (h : Kept t a b (k + m.rolls) s) (few : k ≤ 2) (c1 c2 : Nat) :
    Kept t a b k (s.moveMark c1 c2 m) :=
  Kept.ite (fun _ => h.fewer) fun _ => Kept.ite (fun _ => h.fireMark few (fun _ _ => oldest_le s) ..) fun _ =>
    Kept.ite (fun _ => (h.fewer.disarm m).notify _) fun _ => h.fewer

theorem markHandoff (h : Kept t a b (k + 1) s) (few : k ≤ 2) (c1 c2 : Nat) : Kept t a b k (s.markHandoff c1 c2) :=
  Kept.ite (fun _ => h.fewer) fun _ =>
    (Kept.moveMark (m := .start) h few c1 c2).moveMark (m := .stop) few c1 c2

theorem fireEntered {m : MarkName} (h : Kept t a b (k + m.rolls) s) (few : k ≤ 2) {due : MarkDue}
    (recent : t → a → s.oldest ≤ due.pos) (entered : Bool) : Kept t a b k (s.fireEntered due m entered) :=
  Kept.ite (fun _ => h.fireMark few recent ..) fun _ => h.fewer

theorem takeMarksFired (h : Kept t a b (k + 1) s) (few : k ≤ 2) : Kept t a b k s.takeMarksFired := by
  unfold State.takeMarksFired
  split
  · exact h.fewer
  · rename_i due latched
    have recent (legal : t) (counts : a) : s.oldest ≤ due.pos := by
      rw [(h.accounts legal counts).markDue due latched]
      exact oldest_le s
    have taken : Kept t a b (k + 1) (s.modTakes fun t => { t with markDue := none }) :=
      h.controls rfl rfl rfl (fun legal counts => (h.accounts legal counts).preRoll) nofun
    have started := Kept.fireEntered (m := .start) taken few recent due.start
    refine started.fireEntered (m := .stop) few ?_ due.stop
    rw [State.oldest, (confined_fireEntered _ due .start due.start).ring]
    exact recent

/-! ## Trigger edges (R104 to R107) -/

/-- A change of the trigger lines that keeps their edges recent. -/
theorem lines (h : Kept t a b k s) {f : Triggers → Triggers}
    (edges : t → a → ∀ n, EdgesRecent s.ring.p ((f s.triggers).get n)) : Kept t a b k (s.modTriggers f) :=
  ⟨h.core.congr h.core.reference h.core.notices ⟨rfl, rfl, rfl⟩ (Nat.le_refl _) h.core.comments h.core.stalled,
    fun legal => (h.table legal).of_ids rfl rfl (List.Sublist.refl _),
    fun legal counts => (h.accounts legal counts).congr rfl rfl rfl (h.accounts legal counts).preRoll
      (h.accounts legal counts).markDue rfl (fun _ => ⟨rfl, fun on _ => on⟩) (edges legal counts)⟩

theorem lineRequest (h : Kept t a b (k + 1) s) (few : k ≤ 2) (n : Line) (q : TrigRequest) {pos : Nat}
    (recent : t → a → s.oldest ≤ pos) : Kept t a b k (s.lineRequest n q pos).1 := by
  cases q with
  | roll => exact h.rollReq few _ recent
  | levelCut => exact h.fewer.cutReq ..
  | toggle =>
    unfold State.lineRequest
    dsimp only
    split
    · exact h.fewer.cutReq ..
    · exact h.rollReq few _ recent

end Kept

theorem EdgesRecent.outcome {p : Nat} {l : TrigLine} (h : EdgesRecent p l) (o : Option LineOutcome) :
    EdgesRecent p { l with lastOutcome := o } := ⟨h.filter, h.unset, h.pending, h.confirmed⟩

theorem EdgesRecent.settleEdge {p : Nat} {l : TrigLine} (h : EdgesRecent p l) : EdgesRecent p l.settleEdge := by
  unfold TrigLine.settleEdge
  split
  · exact h
  · exact ⟨h.filter, nofun, nofun, nofun⟩

theorem Triggers.get_modify (l : Triggers) (n m : Line) (f : TrigLine → TrigLine) :
    (l.modify n f).get m = if m = n then f (l.get m) else l.get m := by
  cases n <;> cases m <;> rfl

namespace Kept

variable {t a : Prop} {b : Bool} {k n : Nat} {s u : State}

theorem handEdge (h : Kept t a b (k + 1) s) (few : k ≤ 2) (n : Line) {c : Option ConfirmedEdge}
    (recent : ∀ e, c = some e → t → a → s.oldest ≤ e.first) : Kept t a b k (s.handEdge n c) := by
  unfold State.handEdge
  split
  · exact h.fewer
  · rename_i e
    split
    · exact h.fewer
    · have requested := h.lineRequest few n ‹_› (recent e rfl)
      refine requested.lines fun legal counts m => ?_
      have before := (requested.accounts legal counts).edges m
      rw [Triggers.get_modify]
      split
      · exact before.outcome _
      · exact before

theorem takeEdges (h : Kept t a b (k + 2) s) (few : k ≤ 1) : Kept t a b k s.takeEdges := by
  have recent (l : Line) (e : ConfirmedEdge) (confirmed : (s.triggers.get l).confirmed = some e) (legal : t) (counts : a) :
      s.oldest ≤ e.first := by
    obtain ⟨-, close⟩ := ((h.accounts legal counts).edges l).confirmed e confirmed
    unfold State.oldest oldestRetained
    have : Config.ringSlots = 2097152 := rfl
    omega
  have settled : Kept t a b (k + 2) (s.modTriggers fun l => { line1 := l.line1.settleEdge, line2 := l.line2.settleEdge }) :=
    h.lines fun legal counts m => by
      have before := (h.accounts legal counts).edges m
      cases m <;> exact before.settleEdge
  have first : Kept t a b (k + 1) ((s.modTriggers fun l =>
      { line1 := l.line1.settleEdge, line2 := l.line2.settleEdge }).handEdge .one s.triggers.line1.confirmed) :=
    settled.handEdge (k := k + 1) (by omega) .one fun e => recent .one e
  refine first.handEdge (by omega) .two fun e confirmed legal counts => ?_
  obtain ⟨u, f, confined, run⟩ := handEdge_spec (s.modTriggers fun l =>
    { line1 := l.line1.settleEdge, line2 := l.line2.settleEdge }) .one s.triggers.line1.confirmed
  rw [run, State.oldest, State.modTriggers_ring, confined.ring]
  exact recent .two e confirmed legal counts

end Kept

/-! ## The timeline (R20 to R34) -/

/-- The reference counts as lost: in HOLDOVER, and in VERIFYING with regain pending (R34). -/
def Timeline.lost (t : Timeline) : Bool := decide (t.ref = .holdover) || (decide (t.ref = .verifying) && t.regain)

theorem lost_iff (t : Timeline) : t.lost = true ↔ t.ref = .holdover ∨ (t.ref = .verifying ∧ t.regain = true) := by
  simp [Timeline.lost]

theorem lost_of_ref {t : Timeline} (holdover : t.ref ≠ .holdover) (verifying : t.ref ≠ .verifying) : t.lost = false := by
  simp [Timeline.lost, holdover, verifying]

namespace Kept

variable {t a : Prop} {b : Bool} {k n : Nat} {s u : State}

theorem modTimeline (h : Kept t a b k s) (f : Timeline → Timeline) : Kept t a b k (s.modTimeline f) :=
  h.blocks rfl rfl rfl rfl h.core.comments h.core.notices h.core.reference rfl

theorem lowered (h : Kept t a b k s) : Kept t a false k (s.lower .referenceLost) :=
  ⟨(h.core.congr h.core.reference h.core.notices ⟨rfl, rfl, rfl⟩ (Nat.le_refl _) h.core.comments h.core.stalled |> fun core =>
      ⟨rfl, core.notices, core.list, core.comments, core.records, core.takes, core.nextId, core.stalled⟩),
    fun legal => (h.table legal).of_ids rfl rfl (List.Sublist.refl _),
    fun legal counts => (h.accounts legal counts).congr rfl rfl rfl (h.accounts legal counts).preRoll
      (h.accounts legal counts).markDue rfl (fun _ => ⟨rfl, fun on _ => on⟩) (h.accounts legal counts).edges⟩

theorem raised (h : Kept t a b k s) : Kept t a true k (s.raise .referenceLost) :=
  ⟨⟨rfl, h.core.notices, h.core.list, h.core.comments, h.core.records, h.core.takes, h.core.nextId, h.core.stalled⟩,
    fun legal => (h.table legal).of_ids rfl rfl (List.Sublist.refl _),
    fun legal counts => (h.accounts legal counts).congr rfl rfl rfl (h.accounts legal counts).preRoll
      (h.accounts legal counts).markDue rfl (fun _ => ⟨rfl, fun on _ => on⟩) (h.accounts legal counts).edges⟩

theorem report (h : Kept t a b k s) (kind : TrefKind) (pos : Nat) (e : Int) : Kept t a b k (s.report kind pos e) := by
  unfold State.report
  dsimp only
  split
  · exact (h.notify _).intake _
  · exact h.notify _

theorem regained (h : Kept t a b k s) (pos : Nat) : Kept t a false k (s.regained pos) := (h.report ..).lowered

/-- After a confined change, with the reference as it was. -/
theorem under {m : State} (h : Kept t a b k u) (confined : Confined m u) (lost : m.timeline.lost = b) :
    Kept t a u.timeline.lost k u := by
  rw [confined.timeline, lost]
  exact h

theorem takeRefLost (h : Kept t a s.timeline.lost k s) (regain : s.timeline.regain = true → s.timeline.ref = .verifying) :
    Kept t a s.takeRefLost.timeline.lost k s.takeRefLost := by
  unfold State.takeRefLost
  split
  · dsimp only
    have moved := h.modTimeline fun t => { t with candidate := none, ref := .holdover, regain := false }
    split
    · rename_i pending
      have lost : s.timeline.lost = true := (lost_iff _).2 (.inr ⟨regain pending, pending⟩)
      rw [lost] at moved
      exact moved
    · exact (moved.report ..).raised.under ((confined_report ..).trans (confined_raiseReference _)) rfl
  · exact h

theorem setTimecode (h : Kept t a s.timeline.lost (k + 1) s) (few : k ≤ 2) (c : Nat) :
    Kept t a (s.setTimecode c).timeline.lost k (s.setTimecode c) := by
  have moved : Kept t a s.timeline.lost (k + 1) (s.setAnchor { pos := s.ring.p, count := c }) := h.modTimeline _
  refine ((Kept.ite (fun _ => moved) fun _ => moved.report ..).markHandoff few ..).under
    (m := s.setAnchor { pos := s.ring.p, count := c }) ?_ rfl
  exact (confined_ite (Confined.refl _) (confined_report ..)).trans (confined_markHandoff ..)

/-! ### Frame arrivals (R21 to R27) -/

theorem frameSeeking (h : Kept t a false (k + 1) s) (few : k ≤ 2) (seeking : s.timeline.ref = .seeking) (c arrival : Nat) :
    Kept t a (s.frameSeeking c arrival).timeline.lost k (s.frameSeeking c arrival) := by
  have still (x : Option Anchor) : Kept t a (s.modTimeline fun t => { t with candidate := x }).timeline.lost k
      (s.modTimeline fun t => { t with candidate := x }) := by
    have lost : (s.modTimeline fun t => { t with candidate := x }).timeline.lost = false :=
      lost_of_ref (by change s.timeline.ref ≠ _; rw [seeking]; nofun) (by change s.timeline.ref ≠ _; rw [seeking]; nofun)
    rw [lost]
    exact h.fewer.modTimeline _
  unfold State.frameSeeking
  dsimp only
  split
  · exact still _
  · split
    · have moved := h.modTimeline fun t =>
        { t with anchor := { pos := arrival, count := c }, candidate := none
                 ref := if decide (s.timeline.mode ≠ .follow) then .freeRun else .locked }
      refine ((Kept.ite (fun _ => moved.report ..) fun _ => (moved.report ..).report ..).markHandoff few ..).under
        (m := s.modTimeline fun t =>
          { t with anchor := { pos := arrival, count := c }, candidate := none
                   ref := if decide (s.timeline.mode ≠ .follow) then .freeRun else .locked }) ?_ ?_
      · exact (confined_ite (confined_report ..) ((confined_report ..).trans (confined_report ..))).trans
          (confined_markHandoff ..)
      · refine lost_of_ref ?_ ?_
        · rw [State.modTimeline_timeline]
          dsimp only
          split <;> nofun
        · rw [State.modTimeline_timeline]
          dsimp only
          split <;> nofun
    · exact still _

theorem frameLocked (h : Kept t a false k s) (locked : s.timeline.ref = .locked) (c arrival : Nat) :
    Kept t a (s.frameLocked c arrival).timeline.lost k (s.frameLocked c arrival) := by
  unfold State.frameLocked
  split
  · rw [lost_of_ref (by rw [locked]; nofun) (by rw [locked]; nofun)]
    exact h
  · exact h.modTimeline _

/-- A frame that ends VERIFYING regains the reference where that was pending (R25). -/
theorem relocked {m : State} (h : Kept t a m.timeline.lost k m) (verifying : m.timeline.ref = .verifying)
    (x : Anchor) (arrival : Nat) :
    Kept t a false k (if m.timeline.regain then
      (m.modTimeline fun t => { t with anchor := x, candidate := none, ref := .locked, regain := false }).regained arrival
      else m.modTimeline fun t => { t with anchor := x, candidate := none, ref := .locked, regain := false }) := by
  have moved := h.modTimeline fun t => { t with anchor := x, candidate := none, ref := .locked, regain := false }
  refine Kept.ite (fun _ => moved.regained _) fun other => ?_
  have lost : m.timeline.lost = false := by simp [Timeline.lost, verifying, other]
  rw [lost] at moved
  exact moved

theorem frameVerifying (h : Kept t a s.timeline.lost (k + 1) s) (few : k ≤ 2) (verifying : s.timeline.ref = .verifying)
    (c arrival : Nat) : Kept t a (s.frameVerifying c arrival).timeline.lost k (s.frameVerifying c arrival) := by
  have confined (x : Anchor) : Confined
      (s.modTimeline fun t => { t with anchor := x, candidate := none, ref := .locked, regain := false })
      (if s.timeline.regain then
        (s.modTimeline fun t => { t with anchor := x, candidate := none, ref := .locked, regain := false }).regained arrival
        else s.modTimeline fun t => { t with anchor := x, candidate := none, ref := .locked, regain := false }) :=
    confined_ite (confined_regained ..) (Confined.refl _)
  unfold State.frameVerifying
  dsimp only
  split
  · exact (h.fewer.relocked verifying s.timeline.anchor arrival).under (confined s.timeline.anchor) rfl
  · split
    · refine (((h.relocked verifying { pos := arrival, count := c } arrival).report ..).markHandoff few ..).under
        (((confined { pos := arrival, count := c }).trans (confined_report ..)).trans (confined_markHandoff ..)) rfl
    · exact h.fewer.modTimeline _

theorem frameHoldover (h : Kept t a true k s) (c arrival : Nat) :
    Kept t a (s.frameHoldover c arrival).timeline.lost k (s.frameHoldover c arrival) := by
  unfold State.frameHoldover
  split
  · exact ((h.modTimeline _).regained _).under (confined_regained ..) rfl
  · exact h.modTimeline _

theorem validFrame (h : Kept t a s.timeline.lost (k + 1) s) (few : k ≤ 2) (c arrival : Nat) :
    Kept t a (s.validFrame c arrival).timeline.lost k (s.validFrame c arrival) := by
  have heard : Kept t a (s.modTimeline fun t => { t with loss := 0 }).timeline.lost (k + 1)
    (s.modTimeline fun t => { t with loss := 0 }) := h.modTimeline _
  unfold State.validFrame
  dsimp only
  split
  · exact heard.fewer
  · rename_i seeking
    rw [lost_of_ref (t := (s.modTimeline fun t => { t with loss := 0 }).timeline)
      (by change s.timeline.ref ≠ _; rw [seeking]; nofun) (by change s.timeline.ref ≠ _; rw [seeking]; nofun)] at heard
    exact heard.frameSeeking few seeking c arrival
  · rename_i locked
    rw [lost_of_ref (t := (s.modTimeline fun t => { t with loss := 0 }).timeline)
      (by change s.timeline.ref ≠ _; rw [locked]; nofun) (by change s.timeline.ref ≠ _; rw [locked]; nofun)] at heard
    exact heard.fewer.frameLocked locked c arrival
  · rename_i verifying
    exact heard.frameVerifying few verifying c arrival
  · rename_i holdover
    rw [(lost_iff (s.modTimeline fun t => { t with loss := 0 }).timeline).2 (.inl holdover)] at heard
    exact heard.fewer.frameHoldover c arrival

theorem takeFrame (h : Kept t a s.timeline.lost (k + 1) s) (few : k ≤ 2) (label : Label) (drop : Bool) (arrival : Nat) :
    Kept t a (s.takeFrame label drop arrival).timeline.lost k (s.takeFrame label drop arrival) := by
  unfold State.takeFrame
  split
  · exact h.fewer.modTimeline _
  · split
    · exact h.fewer.modTimeline _
    · exact h.validFrame few ..

/-! ### The requests of the timeline unit (R29 to R32) -/

/-- A mode or a jam enters no state in which the reference counts as lost. -/
theorem enter_lost (x : Timeline) (mode : TimeMode) : (x.enter mode.entered).lost = false := by
  cases mode <;> rfl

theorem not_lost_of_mode {x : Timeline} (legal : TimelineLegal x) (mode : x.mode ≠ .follow) : x.lost = false := by
  refine lost_of_ref (fun holdover => mode (legal.tracking (.inr (.inr holdover)))) fun verifying =>
    mode (legal.tracking (.inr (.inl verifying)))

theorem changeRate (h : Kept t a b k s) (rate : Rate) (mode : TimeMode) :
    Kept t a (s.changeRate rate mode).timeline.lost k (s.changeRate rate mode) := by
  refine (((h.modTimeline _).disarm .start).disarm .stop).lowered.under (m := s.modTimeline fun t =>
    { (t.enter mode.entered) with rate := rate, mode := mode, anchor := { pos := s.ring.p, count := 0 } }) ?_ ?_
  · exact ((confined_disarm ..).trans (confined_disarm ..)).trans (confined_lowerReference _)
  · exact enter_lost s.timeline mode

theorem changeMode (h : Kept t a s.timeline.lost k s) (legal : TimelineLegal s.timeline) (mode : TimeMode) :
    Kept t a (s.changeMode mode).timeline.lost k (s.changeMode mode) := by
  have moved := h.modTimeline fun t => { (t.enter mode.entered) with mode := mode }
  have after : (s.modTimeline fun t => { (t.enter mode.entered) with mode := mode }).timeline.lost = false :=
    enter_lost s.timeline mode
  unfold State.changeMode
  dsimp only
  split
  · exact moved.lowered.under (confined_lowerReference _) after
  · rename_i other
    rw [not_lost_of_mode legal other] at moved
    rw [after]
    exact moved

theorem startJam (h : Kept t a s.timeline.lost k s) (legal : TimelineLegal s.timeline) :
    Kept t a s.startJam.timeline.lost k s.startJam := by
  have moved := h.modTimeline fun t => t.enter .seeking
  unfold State.startJam
  dsimp only
  split
  · exact moved.lowered.under (confined_lowerReference _) rfl
  · rename_i other
    rw [not_lost_of_mode legal other] at moved
    exact moved

theorem takeTlmd (h : Kept t a s.timeline.lost k s) (legal : TimelineLegal s.timeline) (rate : Rate) (mode : TimeMode)
    {tolerance : Nat} (range : tolerance ≤ 480) :
    Kept t a (s.takeTlmd rate mode tolerance).timeline.lost k (s.takeTlmd rate mode tolerance) := by
  have stored : Kept t a (s.modTimeline fun t => { t with tolerance := tolerance }).timeline.lost k
    (s.modTimeline fun t => { t with tolerance := tolerance }) := h.modTimeline _
  have still : TimelineLegal (s.modTimeline fun t => { t with tolerance := tolerance }).timeline :=
    ⟨legal.free, legal.follow, legal.tracking, legal.candidate, legal.regain, legal.anchor, range⟩
  unfold State.takeTlmd State.applyTlmd
  split
  · exact stored.changeRate rate mode
  · split
    · exact stored.changeMode still mode
    · exact stored

end Kept

end Sys2Proof.Machine
end

section
/-! What the drains keep (R111 to R125, R133): blocks formed, completed and taken back, stalls, the link, and enabling and
disabling. -/

namespace Sys2Proof.Machine

/-! ## Drains whose blocks stay -/

namespace Kept

variable {t a : Prop} {b : Bool} {k : Nat} {s u : State} {d : Drain}

/-- A change of the drains, and of DRAIN STALLED, that leaves the blocks in flight. -/
theorem drains (h : Kept t a b k s) (takes : u.takes = s.takes) (list : u.delivery.list = s.delivery.list)
    (ring : u.ring = s.ring) (triggers : u.triggers = s.triggers) (comments : u.binding = s.binding)
    (notices : u.link.notices = s.link.notices) (reference : u.link.conds.referenceLost = s.link.conds.referenceLost)
    (stalled : u.link.conds.drainStalled = true ↔ (u.drain .a).stalled = true ∨ (u.drain .b).stalled = true)
    (blocks : ∀ d, (u.drain d).inFlight = (s.drain d).inFlight
      ∧ ((s.drain d).settings.enabled = true → (s.drain d).inFlight ≠ none → (u.drain d).settings.enabled = true)) :
    Kept t a b k u := by
  refine ⟨h.core.congr (reference.trans h.core.reference) (notices ▸ h.core.notices) (by rw [takes]; exact ⟨rfl, rfl, rfl⟩)
    (by rw [list]) (comments ▸ h.core.comments) stalled,
    fun legal => (h.table legal).of_ids (by rw [takes]) (by rw [takes]) (by rw [list]), fun legal counts => ?_⟩
  have counted := h.accounts legal counts
  exact counted.congr (by rw [ring]) (by rw [takes]) (by rw [takes]) (by rw [takes]; exact counted.preRoll)
    (by rw [takes, ring]; exact counted.markDue) list blocks (by rw [ring, triggers]; exact counted.edges)

end Kept

/-! ## Stalls (R118, R125) -/

/-- DRAIN STALLED agrees with the drains after it has been settled, if it was set while a drain was stalled. -/
theorem settleStallCondition_agrees {s : State}
    (set : (s.drain .a).stalled = true ∨ (s.drain .b).stalled = true → s.link.conds.drainStalled = true) :
    s.settleStallCondition.link.conds.drainStalled = true
      ↔ (s.settleStallCondition.drain .a).stalled = true ∨ (s.settleStallCondition.drain .b).stalled = true := by
  unfold State.settleStallCondition
  split
  · rename_i flowing
    simp only [State.noDrainStalled, Bool.and_eq_true, Bool.not_eq_true'] at flowing
    refine iff_of_false nofun ?_
    change ¬((s.drain .a).stalled = true ∨ (s.drain .b).stalled = true)
    rw [flowing.1, flowing.2]
    simp
  · rename_i stalled
    have some_stalled : (s.drain .a).stalled = true ∨ (s.drain .b).stalled = true := by
      by_contra none_stalled
      simp only [not_or, Bool.not_eq_true] at none_stalled
      exact stalled (by rw [State.noDrainStalled, none_stalled.1, none_stalled.2]; rfl)
    exact iff_of_true (set some_stalled) some_stalled

theorem settleStallCondition_keeps (s : State) : s.settleStallCondition.link.notices = s.link.notices
    ∧ s.settleStallCondition.link.conds.referenceLost = s.link.conds.referenceLost
    ∧ s.settleStallCondition.binding = s.binding := by
  unfold State.settleStallCondition
  split <;> exact ⟨rfl, rfl, rfl⟩

namespace Kept

variable {t a : Prop} {b : Bool} {k : Nat} {s u : State} {d : Drain}

/-- A drain changed, with its stall over or as it was, and DRAIN STALLED settled. -/
theorem unstalled (h : Kept t a b k s) {f : DrainState → DrainState} (flight : (f (s.drain d)).inFlight = (s.drain d).inFlight)
    (stalled : (f (s.drain d)).stalled = true → (s.drain d).stalled = true)
    (enabled : (s.drain d).settings.enabled = true → (s.drain d).inFlight ≠ none → (f (s.drain d)).settings.enabled = true) :
    Kept t a b k (s.modDrain d f).settleStallCondition := by
  have drain (e : Drain) : (s.modDrain d f).settleStallCondition.drain e = (s.modDrain d f).drain e := by
    rw [State.drain, settleStallCondition_delivery]
    rfl
  have confined := confined_settleStallCondition (s.modDrain d f)
  obtain ⟨notices, reference, binding⟩ := settleStallCondition_keeps (s.modDrain d f)
  refine h.drains (settleStallCondition_takes _) (by rw [settleStallCondition_delivery]; rfl) confined.ring confined.triggers
    binding notices reference (settleStallCondition_agrees fun some_stalled => h.core.stalled.2 ?_) fun e => ?_
  · have before (e : Drain) (now : ((s.modDrain d f).drain e).stalled = true) : (s.drain e).stalled = true := by
      by_cases same : e = d
      · rw [same, State.drain_modDrain_same] at now
        exact same ▸ stalled now
      · rwa [State.drain_modDrain_other (h := same)] at now
    exact some_stalled.imp (before .a) (before .b)
  · rw [drain]
    by_cases same : e = d
    · rw [same, State.drain_modDrain_same]
      exact ⟨flight, enabled⟩
    · rw [State.drain_modDrain_other (h := same)]
      exact ⟨rfl, fun on _ => on⟩

theorem endStall (h : Kept t a b k s) (d : Drain) : Kept t a b k (s.endStall d) :=
  Kept.ite (fun _ => h.unstalled rfl nofun fun on _ => on) fun _ => h

theorem reachStall (h : Kept t a b k s) (d : Drain) : Kept t a b k (s.reachStall d) := by
  have timed : Kept t a b k (s.modDrain d fun x => { x with timer := Timer.at x.timerLimit }) :=
    h.modFlags rfl rfl fun on _ => on
  refine Kept.ite (fun _ => timed) fun _ => Kept.notify ?_ _
  refine timed.drains (u := ((s.modDrain d fun x => { x with timer := Timer.at x.timerLimit }).modDrain d
    fun x => { x with stalled := true }).raise .drainStalled) rfl rfl rfl rfl rfl rfl rfl (iff_of_true rfl ?_) fun e => ?_
  · cases d with
    | a => exact .inl rfl
    | b => exact .inr rfl
  · by_cases same : e = d
    · subst same
      cases e <;> exact ⟨rfl, fun on _ => on⟩
    · rw [State.drain_raise, State.drain_modDrain_other (h := same)]
      exact ⟨rfl, fun on _ => on⟩

theorem takeStall (h : Kept t a b k s) (d : Drain) : Kept t a b k (s.takeStall d) :=
  Kept.ite (fun _ => h.reachStall d) fun _ => h

/-! ## Blocks taken off a drain (R115, R121, R122) -/

/-- A settled block leaves its drain, as does one whose record has left the table. -/
theorem free (h : Kept t a b k s) {c : Block} (flight : (s.drain d).inFlight = some c)
    (settled : c.settled = true ∨ s.record? c.header.takeId = none) {F : DrainState → DrainState}
    (free : (F (s.drain d)).inFlight = none) (stalled : (F (s.drain d)).stalled = (s.drain d).stalled) :
    Kept t a b k (s.modDrain d F) := by
  have drain (e : Drain) (ne : e ≠ d) : (s.modDrain d F).drain e = s.drain e := State.drain_modDrain_other (h := ne) ..
  have here : (s.modDrain d F).drain d = F (s.drain d) := State.drain_modDrain_same ..
  have stalls (e : Drain) : ((s.modDrain d F).drain e).stalled = (s.drain e).stalled := by
    by_cases same : e = d
    · rw [same, here, stalled]
    · rw [drain e same]
  refine ⟨h.core.congr h.core.reference h.core.notices ⟨rfl, rfl, rfl⟩ (Nat.le_refl _) h.core.comments
    (by rw [stalls, stalls]; exact h.core.stalled), fun legal => (h.table legal).of_ids rfl rfl (List.Sublist.refl _),
    fun legal counts => ?_⟩
  have counted := h.accounts legal counts
  have idle (r : TakeRecord) (held : r ∈ s.takes.table) : (s.drain d).flightOf r.id = 0 := by
    refine flightOf_foreign flight fun ⟨own, unsettled⟩ => ?_
    rcases settled with now | gone
    · exact Bool.false_ne_true (unsettled.symm.trans now)
    · have found := (h.table legal).record? held
      rw [← own, gone] at found
      cases found
  refine ⟨counted.positions, fun r held e => ?_, fun e => ?_, counted.listed, counted.left, counted.tail, counted.preRoll,
    counted.markDue, counted.edges⟩
  · have before := counted.sections r held e
    by_cases same : e = d
    · subst same
      rw [here, flightOf_idle free]
      rwa [idle r held] at before
    · rwa [drain e same]
  · by_cases same : e = d
    · subst same
      exact blockAccounted_of_none (here ▸ free)
    · have before := counted.blocks e
      unfold BlockAccounted at before ⊢
      rw [drain e same]
      exact before

/-- An unsettled block leaves its drain, counted in its section. -/
theorem freeSection (h : Kept t a b k s) {c : Block} (flight : (s.drain d).inFlight = some c) (unsettled : c.settled = false)
    {g : Section → Section} {F : DrainState → DrainState} (free : (F (s.drain d)).inFlight = none)
    (stalled : (F (s.drain d)).stalled = (s.drain d).stalled) (gaps : ∀ x, x.gaps.length ≤ 8 → (g x).gaps.length ≤ 8)
    (lives : ∀ x, (g x).live = x.live)
    (cell : ∀ r, s.record? c.header.takeId = some r → BlockOn s.oldest r (r.sections.get d) c →
      SectionAccounted s.ring.p r (r.sections.get d) c.header.count → SectionAccounted s.ring.p r (g (r.sections.get d)) 0) :
    Kept t a b k ((s.updSection c.header.takeId d g).modDrain d F) := by
  have changed := h.core.updSection (id := c.header.takeId) (d := d) gaps
  have stalls (e : Drain) :
      (((s.updSection c.header.takeId d g).modDrain d F).drain e).stalled = (s.drain e).stalled := by
    by_cases same : e = d
    · rw [same, State.drain_modDrain_same]
      exact stalled
    · rw [State.drain_modDrain_other (h := same)]
      rfl
  refine ⟨changed.congr changed.reference changed.notices ⟨rfl, rfl, rfl⟩ (Nat.le_refl _) changed.comments
    (by rw [stalls, stalls]; exact h.core.stalled),
    fun legal => (h.table legal).of_ids (ids_updRecord s _ _ fun _ => rfl) rfl (List.Sublist.refl _), fun legal counts => ?_⟩
  have counted := h.accounts legal counts
  obtain ⟨r, found, on⟩ := (blockAccounted_iff.1 (counted.blocks d) c flight).2 unsettled
  refine counted.changeSection (h.table legal).table.ids found (fun j ne => ?_) ?_ (fun now => lives _ ▸ now) fun x now => ?_
  · rw [flightOf_idle free, flightOf_foreign flight fun own => ne own.1.symm]
  · have before := counted.sections r (record?_mem found) d
    rw [record?_id found, flightOf_unsettled flight ⟨rfl, unsettled⟩] at before
    rw [flightOf_idle free]
    exact cell r found on before
  · rw [free] at now
    cases now

/-! ## Completions (R121) -/

theorem takeCompletion (h : Kept t a b k s) (d : Drain) : Kept t a b k (s.takeCompletion d) := by
  unfold State.takeCompletion
  split
  · exact h
  · rename_i c flight
    split
    · rename_i counts
      simp only [State.countsInSection, Bool.and_eq_true, Bool.not_eq_true'] at counts
      refine Kept.settleDone ?_ _ _
      exact h.freeSection flight counts.1 (g := fun x => x.complete c.header.count) rfl rfl (fun _ gaps => gaps) (fun _ => rfl)
        fun r _ on before => before.completed on.own on.on
    · rename_i late
      refine h.free flight ?_ (F := fun x => { x.completeLate c.header.count with inFlight := none }) rfl rfl
      simp only [State.countsInSection, Bool.and_eq_true, Bool.not_eq_true', not_and, Bool.not_eq_true] at late
      cases settled : c.settled with
      | true => exact .inl rfl
      | false => exact .inr (Option.not_isSome_iff_eq_none.1 (by rw [late settled]; nofun))

end Kept

/-! ## Blocks formed (R116 to R118) -/

/-- What a drain forms: a block of its current take, past the formation cursor and within the take and P. -/
structure FormsBlock (s : State) (d : Drain) (r : TakeRecord) (b : Block) : Prop where
  found : s.record? r.id = some r
  live : (r.sections.get d).live = true
  enabled : (s.drain d).settings.enabled = true
  idle : (s.drain d).inFlight = none
  own : b.header.takeId = r.id
  unsettled : b.settled = false
  first : b.first = (r.sections.get d).formation
  within : (r.sections.get d).formation + b.header.count ≤ r.endPos.getD s.ring.p

theorem formsBlock_of_nextBlock {s : State} {d : Drain} {rb : TakeRecord × Block} (next : s.nextBlock d = some rb) :
    FormsBlock s d rb.1 rb.2 := by
  cases may : (s.drain d).mayForm with
  | false => rw [nextBlock_shut may] at next; cases next
  | true =>
    obtain ⟨enabled, -, -, idle⟩ := (mayForm_iff _).1 may
    cases current : s.currentTake d with
    | none => rw [nextBlock_idle current] at next; cases next
    | some id =>
      obtain ⟨-, live⟩ := currentTake_some current
      cases found : s.record? id with
      | none =>
        rw [State.liveOn, found] at live
        cases live
      | some r =>
        rw [liveOn_found found] at live
        obtain rfl := record?_id found
        generalize count : blockCount s.ring.p (s.drain d).settings.blockLength r (r.sections.get d) = n
        rw [nextBlock_current may current found count] at next
        split at next
        · cases next
        · rename_i some_wanted
          split at next
          · cases next
          · cases next
            refine ⟨found, live, enabled, idle, rfl, rfl, rfl, ?_⟩
            change (r.sections.get d).formation + n ≤ _
            unfold blockCount at count
            split at count
            · rename_i e ends
              rw [ends, Option.getD_some]
              omega
            · rename_i unended
              rw [unended, Option.getD_none]
              split at count
              · omega
              · exact absurd count.symm some_wanted

namespace Kept

variable {t a : Prop} {b : Bool} {k : Nat} {s u : State} {d : Drain}

theorem blockSent (h : Kept t a b k s) {r : TakeRecord} {c : Block} (forms : FormsBlock s d r c) :
    Kept t a b k (s.blockSent d r.id c) := by
  obtain ⟨found, live, enabled, idle, own, unsettled, first, within⟩ := forms
  have changed := h.core.updSection (id := r.id) (d := d) (f := fun x => x.sent c.header.count) fun _ gaps => gaps
  have stalls (e : Drain) : ((s.blockSent d r.id c).drain e).stalled = (s.drain e).stalled := by
    unfold State.blockSent
    by_cases same : e = d
    · rw [same, State.drain_modDrain_same]
      rfl
    · rw [State.drain_modDrain_other (h := same)]
      rfl
  refine ⟨changed.congr changed.reference changed.notices ⟨rfl, rfl, rfl⟩ (Nat.le_refl _) changed.comments
    (by rw [stalls, stalls]; exact h.core.stalled),
    fun legal => (h.table legal).of_ids (ids_updRecord s _ _ fun _ => rfl) rfl (List.Sublist.refl _), fun legal counts => ?_⟩
  have counted := h.accounts legal counts
  have before := counted.sections r (record?_mem found) d
  rw [flightOf_idle idle] at before
  refine counted.changeSection (F := fun x => { x with gapEpisode := false, inFlight := some c }) (h.table legal).table.ids
    found (fun j ne => ?_) ?_ (fun _ => live) fun x now => ?_
  · rw [flightOf_idle idle, flightOf_foreign (b := c) rfl fun other => ne (other.1.symm.trans own)]
  · rw [flightOf_unsettled (b := c) rfl ⟨own, unsettled⟩]
    exact before.sent live within
  · obtain rfl : c = x := Option.some.inj now
    refine ⟨enabled, fun _ => ⟨r, own ▸ found, ?_⟩⟩
    rw [if_pos rfl]
    refine ⟨before.not_final live, .inl live, fun _ => ⟨?_, .inl ?_⟩⟩
    · exact Nat.le_of_eq (by rw [first]; rfl)
    · rw [first]
      rfl

theorem takeForm (h : Kept t a b k s) (d : Drain) : Kept t a b k (s.takeForm d) := by
  unfold State.takeForm
  split
  · rename_i rb next
    exact (h.blockSent (formsBlock_of_nextBlock next)).endStall d
  · refine Kept.ite (fun _ => ?_) fun _ => h
    unfold State.testExhausted
    split
    · exact h.settleDone ..
    · exact h

end Kept

/-! ## The link (R122 to R124) -/

theorem abortLink_capacity {x : Section} (h : x.gaps.length ≤ 8) (c : Block) (o start : Nat) :
    (x.abortLink c o start).gaps.length ≤ 8 := by
  have live : (x.abortLive c o start).gaps.length ≤ 8 := by
    unfold Section.abortLive
    split
    · exact recordGap_capacity h ..
    · exact h
  unfold Section.abortLink
  split
  · exact h
  · exact live
  · exact live
  · exact h
  · exact h

theorem abortLink_live (x : Section) (c : Block) (o start : Nat) : (x.abortLink c o start).live = x.live := by
  refine live_congr ?_
  unfold Section.abortLink
  split
  · rfl
  · exact abortLive_state ..
  · exact abortLive_state ..
  · rfl
  · rfl

namespace Kept

variable {t a : Prop} {b : Bool} {k : Nat} {s u : State} {d : Drain}

theorem abortForLink (h : Kept t a b k s) (d : Drain) : Kept t a b k (s.abortForLink d) := by
  unfold State.abortForLink
  split
  · exact h
  · rename_i c flight
    dsimp only
    split
    · rename_i gone
      exact h.free (F := fun x => { x with inFlight := none }) flight (.inr gone) rfl rfl
    · rename_i r found
      split
      · rename_i settled
        exact (h.free (F := fun x => { x with inFlight := none }) flight (.inl settled) rfl rfl).settleDone ..
      · rename_i unsettled
        rw [Bool.not_eq_true] at unsettled
        have aborted : Kept t a b k ((s.modDrain d fun x => { x with inFlight := none }).updSection r.id d
            fun x => x.abortLink c s.oldest r.start) := by
          rw [record?_id found]
          refine h.freeSection (F := fun x => { x with inFlight := none }) flight unsettled rfl rfl
            (fun x gaps => abortLink_capacity gaps c _ _) (fun x => abortLink_live x c _ _) fun q there on before => ?_
          obtain rfl := Option.some.inj (found.symm.trans there)
          have after := before.aborted on.own on.on unsettled rfl on.place
          rwa [Section.abortedBy, if_neg (by rw [unsettled]; nofun)] at after
        exact (Kept.ite (fun _ => aborted.gapEpisodeTest ..) fun _ => aborted).settleDone ..

theorem takeLinkDown (h : Kept t a b k s) (d : Drain) : Kept t a b k (s.takeLinkDown d) := by
  have down : Kept t a b k (s.modDrain d DrainState.dropLink) := h.modFlags rfl rfl fun on _ => on
  exact down.abortForLink d

/-- HOLD, GO and link-up change a drain's flags and timer alone. -/
theorem modPort (h : Kept t a b k s) (d : Drain) {f : DrainState → DrainState}
    (same : ∀ x, (f x).inFlight = x.inFlight ∧ (f x).stalled = x.stalled ∧ (f x).settings = x.settings) :
    Kept t a b k (s.modDrain d f) :=
  h.modFlags (same _).1 (same _).2.1 fun on _ => by rwa [(same _).2.2]

theorem takeHold (h : Kept t a b k s) (d : Drain) : Kept t a b k (s.modDrain d DrainState.takeHold) :=
  h.modPort d fun x => by unfold DrainState.takeHold; split <;> exact ⟨rfl, rfl, rfl⟩

theorem takeGo (h : Kept t a b k s) (d : Drain) : Kept t a b k (s.modDrain d DrainState.takeGo) :=
  h.modPort d fun x => by unfold DrainState.takeGo; split <;> exact ⟨rfl, rfl, rfl⟩

theorem takeLinkUp (h : Kept t a b k s) (d : Drain) : Kept t a b k (s.modDrain d DrainState.takeLinkUp) :=
  h.modPort d fun x => by unfold DrainState.takeLinkUp; split <;> exact ⟨rfl, rfl, rfl⟩

/-! ## Disabling (R115) -/

theorem abortForDisable (h : Kept t a b k s) (d : Drain) : Kept t a b k (s.abortForDisable d) := by
  unfold State.abortForDisable
  split
  · exact h
  · rename_i c flight
    dsimp only
    split
    · rename_i settled
      exact h.free (F := fun x => { x with inFlight := none }) flight (.inl settled) rfl rfl
    · rename_i unsettled
      rw [Bool.not_eq_true] at unsettled
      exact h.freeSection (g := fun x => x.takenBack c) (F := fun x => { x with inFlight := none }) flight unsettled rfl rfl
        (fun _ gaps => gaps) (fun _ => rfl) fun r _ on before => before.takenBack on.own on.on rfl

end Kept

theorem abortForDisable_idle (s : State) (d : Drain) : ((s.abortForDisable d).drain d).inFlight = none := by
  unfold State.abortForDisable
  split
  · assumption
  · dsimp only
    split
    · rw [State.drain_modDrain_same]
    · rw [updSection_drain, State.drain_modDrain_same]

theorem abandonFor_keeps (x : Section) (e : Option Nat) : (x.abandonFor e).gaps = x.gaps
    ∧ ((x.abandonFor e).live = true → x.live = true) := by
  unfold Section.abandonFor
  split
  · split <;> exact ⟨rfl, nofun⟩
  · exact ⟨rfl, id⟩

/-- On a drain without a block in flight a take's section may be given up (R115). -/
theorem TakesAccounted.abandons {s : State} (h : TakesAccounted s) {r : TakeRecord} (held : r ∈ s.takes.table) {d : Drain}
    (idle : (s.drain d).inFlight = none) :
    MovesTo s r { r with sections := r.sections.modify d fun x => x.abandonFor r.endPos } := by
  have order := h.positions r held
  refine ⟨order.congr rfl (.inl rfl), fun e => ?_, fun live => ?_, id, id, id, fun e c on => ?_⟩
  · by_cases same : e = d
    · subst same
      have before := h.sections r held e
      rw [flightOf_idle idle] at before ⊢
      rw [PerDrain.get_modify_same]
      exact (before.abandonedFor order.opened).congr rfl rfl rfl
    · rw [PerDrain.get_modify_other _ _ _ _ same]
      exact (h.sections r held e).congr rfl rfl rfl
  · obtain ⟨e, live⟩ := (live_iff _).1 live
    by_cases same : e = d
    · subst same
      rw [PerDrain.get_modify_same] at live
      exact live_of_section ((abandonFor_keeps _ _).2 live)
    · rw [PerDrain.get_modify_other _ _ _ _ same] at live
      exact live_of_section live
  · by_cases same : e = d
    · subst same
      rw [PerDrain.get_modify_same]
      by_cases live : (r.sections.get e).live = true
      · refine ⟨on.own, .inr ?_, fun now => ?_⟩
        · rw [abandonFor_live live]
        · rw [abandonFor_live live] at now
          cases now
      · rw [abandonFor_dead (Bool.eq_false_iff.2 live)]
        exact ⟨on.own, on.on, on.place⟩
    · rw [PerDrain.get_modify_other _ _ _ _ same]
      exact ⟨on.own, on.on, on.place⟩

namespace Kept

variable {t a : Prop} {b : Bool} {k : Nat} {s u : State} {d : Drain}

theorem abandonAll (h : Kept t a b k s) (idle : (s.drain d).inFlight = none) (l : List Nat) :
    Kept t a b k (runAll (fun id s => s.updRecord id fun r =>
      { r with sections := r.sections.modify d fun x => x.abandonFor r.endPos }) l s)
    ∧ ((runAll (fun id s => s.updRecord id fun r =>
      { r with sections := r.sections.modify d fun x => x.abandonFor r.endPos }) l s).drain d).inFlight = none := by
  induction l generalizing s with
  | nil => exact ⟨h, idle⟩
  | cons id l ih =>
    refine ih (s := s.updRecord id fun r => { r with sections := r.sections.modify d fun x => x.abandonFor r.endPos }) ?_ idle
    exact h.updRecord (fun _ => rfl) (fun r capped => capped.section fun x gaps => by rwa [(abandonFor_keeps x _).1])
      (fun _ now => now) fun _ counted r found => counted.abandons (record?_mem found) idle

theorem disableDrain (h : Kept t a b k s) (d : Drain) : Kept t a b k (s.disableDrain d) := by
  obtain ⟨abandoned, idle⟩ := (h.abortForDisable d).abandonAll (abortForDisable_idle s d) (s.abortForDisable d).delivery.list
  refine (Kept.unstalled abandoned (d := d) (f := fun x =>
    { x with settings := { x.settings with enabled := false }, hold := false, timer := Timer.zero, stalled := false
             gapEpisode := false }) rfl nofun fun _ flight => absurd idle flight).sweepList

/-! ## Settings (R113, R114, R133) -/

theorem changeEnable (h : Kept t a b k s) (d : Drain) (enabled : Bool) : Kept t a b k (s.changeEnable d enabled) :=
  Kept.ite (fun _ => h) fun _ => Kept.ite (fun _ => h.modFlags rfl rfl fun _ _ => rfl) fun _ => h.disableDrain d

theorem setDrain (h : Kept t a b k s) (d : Drain) (x : DrainSettings) : Kept t a b k (s.setDrain d x) := by
  have stored : Kept t a b k (s.modDrain d fun y => { y with settings := { x with enabled := y.settings.enabled } }) :=
    h.modFlags rfl rfl fun on _ => on
  have set := stored.changeEnable d x.enabled
  exact Kept.ite (fun _ => set.reachStall d) fun _ => set

theorem disableIfEnabled (h : Kept t a b k s) (d : Drain) : Kept t a b k (s.disableIfEnabled d) :=
  Kept.ite (fun _ => h.disableDrain d) fun _ => h

end Kept

end Sys2Proof.Machine
end

section
/-! The parts of a legal state outside takes and delivery: the routing (R52, R54), the inputs (R39, R42 to R44, R47), the
timeline (R5, R18, R19) and the note receiver (R135). -/

namespace Sys2Proof.Machine

theorem clamp_range {low high : Nat} (n : Nat) (h : low ≤ high) : low ≤ clamp low high n ∧ clamp low high n ≤ high := by
  rw [clamp_eq n h]
  omega

/-! ## Links and the armed mask (R52, R54) -/

/-- A mask closed over links that share no track holds both members of a link or neither. -/
theorem closeMask_closed {links : TrackSet} (mask : TrackSet)
    (oneLink : ∀ t : Fin 24, links.getLsbD t.val = true → links.getLsbD (t + 1).val = false) (t : Fin 24)
    (linked : links.getLsbD t.val = true) :
    (closeMask links mask).getLsbD t.val = (closeMask links mask).getLsbD (t + 1).val := by
  have next := oneLink t linked
  have before : links.getLsbD (t - 1).val = false := by
    rw [Bool.eq_false_iff]
    intro held
    have := oneLink (t - 1) held
    rw [sub_add_cancel, linked] at this
    cases this
  simp only [closeMask_getLsbD, add_sub_cancel_right, linked, next, before, Bool.and_false, Bool.false_and, Bool.true_and,
    Bool.and_true, Bool.or_false]
  exact Bool.or_comm _ _

namespace RoutingLegal

variable {r : Router}

theorem congr {q : Router} (h : RoutingLegal r) (links : q.links = r.links) (armed : q.armed = r.armed)
    (sources : q.sources = r.sources) : RoutingLegal q :=
  ⟨links ▸ h.oneLink, by rw [links, armed]; exact h.closed, sources ▸ h.sources⟩

theorem arm (h : RoutingLegal r) (mask : TrackSet) : RoutingLegal { r with armed := closeMask r.links mask } :=
  ⟨h.oneLink, closeMask_closed mask h.oneLink, h.sources⟩

theorem source (h : RoutingLegal r) (t : Fin 24) {source : Nat} (range : source ≤ 18) :
    RoutingLegal { r with sources := r.sources.set t source } := by
  refine ⟨h.oneLink, h.closed, fun j => ?_⟩
  have before := h.sources j
  simp only [Fin.getElem_fin, Vector.getElem_set]
  split
  · exact range
  · exact before

theorem makeLink (h : RoutingLegal r) {t : Fin 24} (own : isLinked r.links t = false)
    (next : isLinked r.links (nextTrack t) = false) :
    RoutingLegal (r.makeLink t) := by
  simp only [isLinked, prevTrack, nextTrack, Bool.or_eq_false_iff, add_sub_cancel_right] at own next
  obtain ⟨here, before⟩ := own
  obtain ⟨after, -⟩ := next
  have oneLink (j : Fin 24) (linked : (r.makeLink t).links.getLsbD j.val = true) :
      (r.makeLink t).links.getLsbD (j + 1).val = false := by
    simp only [Router.makeLink_links, Bool.or_eq_true, decide_eq_true_eq, Bool.or_eq_false_iff,
      decide_eq_false_iff_not] at linked ⊢
    rcases linked with rfl | linked
    · exact ⟨by simp, after⟩
    · refine ⟨?_, h.oneLink j linked⟩
      rintro rfl
      rw [add_sub_cancel_right, linked] at before
      cases before
  refine ⟨oneLink, fun j linked => ?_, h.sources⟩
  by_cases member : r.armed.getLsbD t.val = true ∨ r.armed.getLsbD (t + 1).val = true
  · rw [Router.makeLink_armed_of_armed member]
    exact closeMask_closed _ oneLink j linked
  · simp only [not_or, Bool.not_eq_true] at member
    rw [Router.makeLink_armed_of_unarmed member.1 member.2]
    rw [Router.makeLink_links, Bool.or_eq_true, decide_eq_true_eq] at linked
    rcases linked with rfl | linked
    · rw [member.1, member.2]
    · exact h.closed j linked

theorem breakLink (h : RoutingLegal r) (t : Fin 24) : RoutingLegal (r.breakLink t) := by
  have fewer (j : Fin 24) (linked : (r.breakLink t).links.getLsbD j.val = true) : r.links.getLsbD j.val = true := by
    rw [Router.breakLink_links, Bool.and_eq_true] at linked
    exact linked.1
  refine ⟨fun j linked => ?_, fun j linked => ?_, ?_⟩
  · rw [Router.breakLink_links, h.oneLink j (fewer j linked), Bool.false_and]
  · rw [Router.breakLink_eq]
    exact h.closed j (fewer j linked)
  · rw [Router.breakLink_eq]
    exact h.sources

end RoutingLegal

/-! ## Inputs (R39, R42 to R44, R47) -/

theorem magnitude_le (x : Sample) : magnitude x ≤ 8388608 := by
  have low := x.le_toInt
  have high := x.toInt_lt
  unfold magnitude
  norm_num at low high
  omega

namespace ChannelInRange

variable {c : Channel}

theorem holdStep (h : ChannelInRange c) (w : BitVec 32) : ChannelInRange (c.holdStep w) := by
  unfold Channel.holdStep
  split
  · exact { h with holdCount := Nat.zero_le _ }
  · exact { h with }
  · refine { h with holdCount := ?_ }
    have := h.hold
    have := h.holdCount
    dsimp only
    split <;> omega

theorem endClip (h : ChannelInRange c) : ChannelInRange c.endClip := by
  unfold Channel.endClip
  split
  · exact { h with quiet := Nat.zero_le _ }
  · exact h

theorem clipStep (h : ChannelInRange c) (x : Sample) : ChannelInRange (c.clipStep x) := by
  unfold Channel.clipStep Channel.endClip
  split
  · exact { h with quiet := Nat.zero_le _ }
  · split
    · split
      · exact { h with quiet := Nat.zero_le _ }
      · rename_i clip running
        refine { h with quiet := ?_ }
        have : ¬4800 ≤ c.quiet + 1 := fun reached => running ⟨clip, reached⟩
        dsimp only
        omega
    · exact h

theorem startSilent (h : ChannelInRange c) : ChannelInRange c.startSilent := by
  unfold Channel.startSilent
  split
  · exact { h with }
  · exact h

theorem silenceStep (h : ChannelInRange c) (x : Sample) : ChannelInRange (c.silenceStep x) := by
  unfold Channel.silenceStep
  split
  · split
    · exact startSilent { h with silence := Nat.min_le_right .. }
    · exact { h with silence := Nat.zero_le _ }
  · exact { h with silence := Nat.zero_le _ }

theorem takeSlot (h : ChannelInRange c) (w : BitVec 32) : ChannelInRange (c.takeSlot w) :=
  have stepped := ((h.holdStep w).clipStep (c.output w)).silenceStep (c.output w)
  { stepped with peak := max_le stepped.peak (magnitude_le _) }

theorem configure (h : ChannelInRange c) {x : ChannelSettings} (hold : x.hold ≤ 480) (high : 1 ≤ x.high ∧ x.high ≤ 8388608)
    (low : x.low ≤ 8388607) (dwell : x.dwell ≤ 480000) : ChannelInRange (c.configure x) := by
  refine ⟨hold, high, low, dwell, h.holdCount, h.quiet, ?_, h.peak⟩
  have := h.silence
  unfold Channel.configure
  dsimp only
  split <;> omega

theorem engineReset (h : ChannelInRange c) : ChannelInRange c.engineReset :=
  ⟨h.hold, h.high, h.low, h.dwell, Nat.zero_le _, Nat.zero_le _, Nat.zero_le _, Nat.zero_le _⟩

theorem configReset (h : ChannelInRange c) : ChannelInRange (c.configure ChannelSettings.initial) :=
  h.configure (by decide) (by decide) (by decide) (by decide)

end ChannelInRange

theorem channelSettingsOf_range {f : InputFields} {x : ChannelSettings} (h : channelSettingsOf f = some x) :
    x.hold ≤ 480 ∧ (1 ≤ x.high ∧ x.high ≤ 8388608) ∧ x.low ≤ 8388607 ∧ x.dwell ≤ 480000 := by
  unfold channelSettingsOf at h
  split at h
  · cases h
    have hold := clamp_range (low := 0) (high := 480) f.hold.toNat (by decide)
    have high := clamp_range (low := 1) (high := 8388608) f.high.toNat (by decide)
    have low := clamp_range (low := 0) (high := 8388607) f.low.toNat (by decide)
    have dwell := clamp_range (low := 0) (high := 480000) f.dwell.toNat (by decide)
    exact ⟨hold.2, high, low.2, dwell.2⟩
  · cases h

namespace InputsInRange

variable {i : Inputs}

theorem modChannel (h : InputsInRange i) (k : Fin 16) {f : Channel → Channel}
    (range : ∀ c, ChannelInRange c → ChannelInRange (f c)) : InputsInRange (i.modChannel k f) := by
  intro j
  have before := h j
  have own := range _ (h k)
  simp only [Inputs.modChannel, Fin.getElem_fin, Vector.getElem_set]
  split
  · exact own
  · exact before

theorem mapChannels (h : InputsInRange i) {f : Channel → Channel} (range : ∀ c, ChannelInRange c → ChannelInRange (f c)) :
    InputsInRange { i with channels := i.channels.map f } := by
  intro j
  have own := range _ (h j)
  simpa only [Fin.getElem_fin, Vector.getElem_map] using own

theorem takeSlots (h : InputsInRange i) (slots : Vector (BitVec 32) 16) : InputsInRange (i.takeSlots slots) := by
  intro j
  have own := (h j).takeSlot slots[j]
  simpa only [Inputs.takeSlots, Fin.getElem_fin, Vector.getElem_ofFn] using own

end InputsInRange

/-! ## The note receiver (R135) -/

/-- The accept list and the buffer of the note receiver hold at most their capacity (R135). -/
structure NotesCapped (x : NoteRx) : Prop where
  accept : x.accept.length ≤ 8
  buffer : x.buffer.length ≤ 64

namespace NotesCapped

variable {x : NoteRx}

theorem toIdle (h : NotesCapped x) : NotesCapped x.toIdle := ⟨h.accept, Nat.zero_le _⟩

theorem count (h : NotesCapped x) (f : NoteCounts → NoteCounts) : NotesCapped (x.count f) := ⟨h.accept, h.buffer⟩

theorem idleAddress (h : NotesCapped x) (v : BitVec 8) : NotesCapped (x.idleAddress v) := by
  unfold NoteRx.idleAddress
  split
  · split
    · exact ⟨h.accept, Nat.zero_le _⟩
    · exact h.count _
  · exact h.count _

theorem openData (h : NotesCapped x) (v : BitVec 8) : NotesCapped (x.openData v) := by
  unfold NoteRx.openData
  dsimp only
  split
  · split
    · rename_i room
      refine ⟨h.accept, ?_⟩
      have : x.buffer.length < 64 := room
      simp only [List.length_append, List.length_singleton]
      omega
    · exact ⟨h.accept, h.buffer⟩
  · exact ⟨h.accept, h.buffer⟩

theorem takeGood (h : NotesCapped x) (v : BitVec 8) (marked : Bool) (p : Nat) : NotesCapped (x.takeGood v marked p) := by
  unfold NoteRx.takeGood
  split
  · split
    · exact h.idleAddress v
    · exact h.count _
  · split
    · exact ((h.count _).toIdle).idleAddress v
    · split
      · exact ⟨h.accept, Nat.zero_le _⟩
      · exact h.openData v
  · exact h

theorem character (h : NotesCapped x) (bits : BitVec 11) (p : Nat) : NotesCapped (x.character bits p) := by
  unfold NoteRx.character
  split
  · exact h
  · split
    · exact ⟨h.accept, h.buffer⟩
    · split
      · exact takeGood (x := { x with receiving := false, lineHigh := true }) ⟨h.accept, h.buffer⟩ _ _ _
      · exact ⟨h.accept, h.buffer⟩

theorem startEdge (h : NotesCapped x) : NotesCapped x.startEdge := by
  unfold NoteRx.startEdge
  split
  · exact h
  · exact ⟨h.accept, h.buffer⟩

theorem timeout (h : NotesCapped x) : NotesCapped x.timeout := by
  unfold NoteRx.timeout
  split
  · exact ⟨h.accept, Nat.zero_le _⟩
  · exact h

theorem enterBreak (h : NotesCapped x) : NotesCapped x.enterBreak := by
  have accept : x.discardByBreak.accept = x.accept := by
    unfold NoteRx.discardByBreak
    split <;> rfl
  unfold NoteRx.enterBreak
  split
  · exact h
  · exact ⟨accept ▸ h.accept, Nat.zero_le _⟩

theorem goesHigh (h : NotesCapped x) : NotesCapped x.goesHigh := ⟨h.accept, h.buffer⟩

end NotesCapped

/-- The accept list of an NLIN set holds no more stations than the request names (R137). -/
theorem stationList_length (fields : List Nat) : (stationList fields).length ≤ fields.length := by
  induction fields using List.reverseRecOn with
  | nil => exact Nat.le_refl _
  | append_singleton fields n ih =>
    rw [stationList_concat, List.length_append, List.length_singleton]
    split
    · exact Nat.le_succ_of_le ih
    · rw [List.length_append, List.length_singleton]
      exact Nat.succ_le_succ ih

theorem namedStations_length (count : BitVec 8) (stations : Vector (BitVec 8) 8) : (namedStations count stations).length ≤ 8 := by
  rw [namedStations, List.length_map]
  exact (List.length_take_le' ..).trans (Nat.le_of_eq stations.size_toArray)

/-! ## The timeline (R5, R18, R19) -/

namespace TimelineLegal

variable {x : Timeline}

theorem enter (h : TimelineLegal x) (mode : TimeMode) : TimelineLegal { (x.enter mode.entered) with mode := mode } := by
  refine ⟨?_, ?_, ?_, nofun, nofun, h.anchor, h.tolerance⟩
  · rintro rfl
    rfl
  · rintro rfl
    nofun
  · cases mode <;> simp [TimeMode.entered, Timeline.enter]

end TimelineLegal

end Sys2Proof.Machine
end

section
/-! The whole of a legal state: what lies outside takes and delivery, and beside it the invariant of these. -/

namespace Sys2Proof.Machine

/-! ## The parts outside takes and delivery -/

/-- The parts of a legal state that takes and delivery leave as they are. -/
structure OuterLegal (s : State) : Prop where
  position : PositionInRange s
  ring : s.ring.wf = true
  routing : RoutingLegal s.router
  timeline : TimelineLegal s.timeline
  inputs : InputsInRange s.inputs
  replies : s.link.replies.length ≤ 8
  notes : NotesCapped s.notes
  audio : s.link.conds.audioLost = true ↔ s.inputs.sync = .lost

theorem OuterLegal.congr {s u : State} (h : OuterLegal s) (ring : u.ring = s.ring) (router : u.router = s.router)
    (timeline : u.timeline = s.timeline) (inputs : u.inputs = s.inputs) (replies : u.link.replies = s.link.replies)
    (notes : u.notes = s.notes) (audio : u.link.conds.audioLost = s.link.conds.audioLost) : OuterLegal u := by
  obtain ⟨p, r, routing, t, i, q, n, a⟩ := h
  rw [PositionInRange] at p
  rw [← ring] at p r
  rw [← router] at routing
  rw [← timeline] at t
  rw [← inputs] at i
  rw [← replies] at q
  rw [← notes] at n
  rw [← audio, ← inputs] at a
  exact ⟨p, r, routing, t, i, q, n, a⟩

theorem OuterLegal.confined {s u : State} (h : OuterLegal s) (c : Confined s u) : OuterLegal u :=
  h.congr c.ring c.router c.timeline c.inputs c.replies c.notes c.audioLost

/-- A legal state is one whose parts outside takes and delivery are legal, and with them the core of these. -/
theorem legal_iff {s : State} : Legal s ↔ OuterLegal s ∧ CoreLegal s.timeline.lost s := by
  constructor
  · rintro ⟨position, ring, routing, timeline, inputs, ⟨replies, notices, list, accept, buffer, pending, comments, events, gaps⟩,
      takes, nextId, ⟨audio, reference, stalled⟩⟩
    refine ⟨⟨position, ring, routing, timeline, inputs, replies, ⟨accept, buffer⟩, audio⟩,
      ⟨Bool.eq_iff_iff.2 (reference.trans (lost_iff _).symm), notices, list, pending, fun r held =>
        ⟨comments r held, events r held, fun d => ?_⟩, takes, nextId, stalled⟩⟩
    cases d with
    | a => exact (gaps r held).1
    | b => exact (gaps r held).2
  · rintro ⟨outer, core⟩
    refine ⟨outer.position, outer.ring, outer.routing, outer.timeline, outer.inputs,
      ⟨outer.replies, core.notices, core.list, outer.notes.accept, outer.notes.buffer, core.comments,
        fun r held => (core.records r held).comments, fun r held => (core.records r held).events,
        fun r held => ⟨(core.records r held).gaps .a, (core.records r held).gaps .b⟩⟩, core.takes, core.nextId,
      ⟨outer.audio, ?_, core.stalled⟩⟩
    rw [core.reference]
    exact lost_iff _

/-! ## The timeline's moves (R18 to R32) -/

namespace TimelineLegal

variable {x y : Timeline}

theorem congr (h : TimelineLegal x) (mode : y.mode = x.mode) (ref : y.ref = x.ref) (candidate : y.candidate = x.candidate)
    (regain : y.regain = x.regain) (anchor : y.anchor = x.anchor) (rate : y.rate = x.rate)
    (tolerance : y.tolerance = x.tolerance) : TimelineLegal y := by
  obtain ⟨free, follow, tracking, first, pending, day, range⟩ := h
  rw [← mode, ← ref] at free follow tracking
  rw [← candidate, ← ref] at first
  rw [← regain, ← ref] at pending
  rw [← anchor, ← rate] at day
  rw [← tolerance] at range
  exact ⟨free, follow, tracking, first, pending, day, range⟩

/-- In FOLLOW every reference state but FREE_RUN is legal. -/
theorem inFollow (follow : y.mode = .follow) (ref : y.ref ≠ .freeRun)
    (candidate : y.candidate.isSome = true → y.ref = .seeking ∨ y.ref = .verifying)
    (regain : y.regain = true → y.ref = .verifying) (anchor : y.anchor.count < y.rate.day) (tolerance : y.tolerance ≤ 480) :
    TimelineLegal y :=
  ⟨fun free => (nomatch follow.symm.trans free), fun _ => ref, fun _ => follow, candidate, regain, anchor, tolerance⟩

theorem seekingWith (h : TimelineLegal x) (seeking : x.ref = .seeking) (c : Option Anchor) :
    TimelineLegal { x with candidate := c } :=
  ⟨h.free, h.follow, h.tracking, fun _ => .inl seeking, h.regain, h.anchor, h.tolerance⟩

/-- The jam (R23): LOCKED in FOLLOW, FREE_RUN in JAM-ONCE. -/
theorem jammed (h : TimelineLegal x) (seeking : x.ref = .seeking) {a : Anchor} (day : a.count < x.rate.day) :
    TimelineLegal { x with anchor := a, candidate := none
                           ref := if decide (x.mode ≠ .follow) then .freeRun else .locked } := by
  have pending : x.regain = false := Bool.eq_false_iff.2 fun regain => nomatch seeking.symm.trans (h.regain regain)
  have never {p : Prop} (regain : x.regain = true) : p := Bool.noConfusion (pending.symm.trans regain)
  by_cases follow : x.mode = .follow
  · rw [if_neg (by simp [follow])]
    exact inFollow follow nofun nofun never day h.tolerance
  · rw [if_pos (by simp [follow])]
    exact ⟨fun _ => rfl, fun yes => absurd yes follow, nofun, nofun, never, day, h.tolerance⟩

/-- VERIFYING with a candidate, out of a state in FOLLOW (R24, R25, R27). -/
theorem verifying (h : TimelineLegal x) (follow : x.mode = .follow) (c : Option Anchor) (regain : Bool) :
    TimelineLegal { x with candidate := c, ref := .verifying, regain := regain } :=
  inFollow follow nofun (fun _ => .inr rfl) (fun _ => rfl) h.anchor h.tolerance

theorem relocked (h : TimelineLegal x) (follow : x.mode = .follow) {a : Anchor} (day : a.count < x.rate.day) :
    TimelineLegal { x with anchor := a, candidate := none, ref := .locked, regain := false } :=
  inFollow follow nofun nofun nofun day h.tolerance

theorem heldOver (h : TimelineLegal x) (follow : x.mode = .follow) :
    TimelineLegal { x with candidate := none, ref := .holdover, regain := false } :=
  inFollow follow nofun nofun nofun h.anchor h.tolerance

theorem anchored (h : TimelineLegal x) {a : Anchor} (day : a.count < x.rate.day) : TimelineLegal { x with anchor := a } :=
  ⟨h.free, h.follow, h.tracking, h.candidate, h.regain, day, h.tolerance⟩

theorem tolerate (h : TimelineLegal x) {n : Nat} (range : n ≤ 480) : TimelineLegal { x with tolerance := n } :=
  ⟨h.free, h.follow, h.tracking, h.candidate, h.regain, h.anchor, range⟩

theorem rated (h : TimelineLegal x) (rate : Rate) (mode : TimeMode) (p : Nat) :
    TimelineLegal { (x.enter mode.entered) with rate := rate, mode := mode, anchor := { pos := p, count := 0 } } := by
  have entered := h.enter mode
  exact ⟨entered.free, entered.follow, entered.tracking, entered.candidate, entered.regain,
    by exact_mod_cast rate.day_pos, h.tolerance⟩

theorem seek (h : TimelineLegal x) (mode : x.mode ≠ .free) : TimelineLegal (x.enter .seeking) :=
  ⟨fun free => absurd free mode, nofun, nofun, nofun, nofun, h.anchor, h.tolerance⟩

theorem countsLoss_follow (h : TimelineLegal x) (counts : x.countsLoss = true) : x.mode = .follow := by
  simp only [Timeline.countsLoss, Bool.or_eq_true, decide_eq_true_eq] at counts
  exact h.tracking (counts.imp_right .inl)

end TimelineLegal

/-- A legal timeline is put in, and beyond it the change is confined. -/
def Retimed (s u : State) : Prop := ∃ x, TimelineLegal x ∧ Confined (s.modTimeline fun _ => x) u

theorem Retimed.intro {s u : State} {f : Timeline → Timeline} (legal : TimelineLegal (f s.timeline))
    (c : Confined (s.modTimeline f) u) : Retimed s u := ⟨f s.timeline, legal, c⟩

theorem Retimed.only {s : State} {f : Timeline → Timeline} (legal : TimelineLegal (f s.timeline)) :
    Retimed s (s.modTimeline f) := ⟨f s.timeline, legal, Confined.refl _⟩

theorem Retimed.still {s : State} (legal : TimelineLegal s.timeline) : Retimed s s :=
  ⟨s.timeline, legal, Confined.refl _⟩

theorem Retimed.after {s u : State} {f : Timeline → Timeline} (h : Retimed (s.modTimeline f) u) : Retimed s u := by
  obtain ⟨x, legal, c⟩ := h
  exact ⟨x, legal, c⟩

theorem OuterLegal.retimed {s u : State} (h : OuterLegal s) (moved : Retimed s u) : OuterLegal u := by
  obtain ⟨x, legal, c⟩ := moved
  exact OuterLegal.confined (s := s.modTimeline fun _ => x) { h with timeline := legal } c

section Retimed

variable {s : State}

theorem retimed_takeRefLost (h : TimelineLegal s.timeline) : Retimed s s.takeRefLost := by
  unfold State.takeRefLost State.lossDue
  split
  · rename_i due
    rw [Bool.and_eq_true] at due
    refine Retimed.intro (f := fun t => { t with candidate := none, ref := .holdover, regain := false })
      (h.heldOver (h.countsLoss_follow due.1)) ?_
    exact confined_ite (Confined.refl _) ((confined_report ..).trans (confined_raiseReference _))
  · exact .still h

theorem retimed_setTimecode (h : TimelineLegal s.timeline) {c : Nat} (day : c < s.timeline.rate.day) :
    Retimed s (s.setTimecode c) :=
  Retimed.intro (f := fun t => { t with anchor := { pos := s.ring.p, count := c } })
    (h.anchored (a := { pos := s.ring.p, count := c }) day)
    ((confined_ite (Confined.refl _) (confined_report ..)).trans (confined_markHandoff ..))

theorem retimed_frameSeeking (h : TimelineLegal s.timeline) (seeking : s.timeline.ref = .seeking) {c : Nat}
    (day : c < s.timeline.rate.day) (arrival : Nat) : Retimed s (s.frameSeeking c arrival) := by
  unfold State.frameSeeking
  dsimp only
  split
  · exact .only (h.seekingWith seeking _)
  · split
    · refine Retimed.intro (f := fun t =>
        { t with anchor := { pos := arrival, count := c }, candidate := none
                 ref := if decide (s.timeline.mode ≠ .follow) then .freeRun else .locked })
        (h.jammed seeking (a := { pos := arrival, count := c }) day) ?_
      exact (confined_ite (confined_report ..) ((confined_report ..).trans (confined_report ..))).trans
        (confined_markHandoff ..)
    · exact .only (h.seekingWith seeking _)

theorem retimed_frameLocked (h : TimelineLegal s.timeline) (locked : s.timeline.ref = .locked) (c arrival : Nat) :
    Retimed s (s.frameLocked c arrival) := by
  unfold State.frameLocked
  split
  · exact .still h
  · exact .only (h.verifying (h.tracking (.inl locked)) _ _)

theorem retimed_frameVerifying (h : TimelineLegal s.timeline) (verifying : s.timeline.ref = .verifying) {c : Nat}
    (day : c < s.timeline.rate.day) (arrival : Nat) : Retimed s (s.frameVerifying c arrival) := by
  have follow := h.tracking (.inr (.inl verifying))
  unfold State.frameVerifying
  dsimp only
  split
  · exact .intro (h.relocked follow (a := s.timeline.anchor) h.anchor) (confined_ite (confined_regained ..) (Confined.refl _))
  · split
    · refine Retimed.intro (f := fun t =>
        { t with anchor := { pos := arrival, count := c }, candidate := none, ref := .locked, regain := false })
        (h.relocked follow (a := { pos := arrival, count := c }) day) ?_
      exact ((confined_ite (confined_regained ..) (Confined.refl _)).trans (confined_report ..)).trans
        (confined_markHandoff ..)
    · exact .only ⟨h.free, h.follow, h.tracking, fun _ => .inr verifying, h.regain, h.anchor, h.tolerance⟩

theorem retimed_frameHoldover (h : TimelineLegal s.timeline) (holdover : s.timeline.ref = .holdover) (c arrival : Nat) :
    Retimed s (s.frameHoldover c arrival) := by
  have follow := h.tracking (.inr (.inr holdover))
  unfold State.frameHoldover
  split
  · refine Retimed.intro (f := fun t => { t with candidate := none, ref := .locked }) ?_ (confined_regained ..)
    exact .inFollow follow nofun nofun (fun regain => nomatch holdover.symm.trans (h.regain regain)) h.anchor h.tolerance
  · exact .only (h.verifying follow _ _)

theorem retimed_takeFrame (h : TimelineLegal s.timeline) (label : Label) (drop : Bool) (arrival : Nat) :
    Retimed s (s.takeFrame label drop arrival) := by
  unfold State.takeFrame
  split
  · exact .only (h.congr rfl rfl rfl rfl rfl rfl rfl)
  · split
    · exact .only (h.congr rfl rfl rfl rfl rfl rfl rfl)
    · rename_i valid
      have day := labelCount_lt_day (Bool.not_eq_false _ ▸ valid)
      have heard : TimelineLegal (s.modTimeline fun t => { t with loss := 0 }).timeline := h.congr rfl rfl rfl rfl rfl rfl rfl
      unfold State.validFrame
      dsimp only
      split
      · exact .only heard
      · exact .after (retimed_frameSeeking heard ‹_› day arrival)
      · exact .after (retimed_frameLocked heard ‹_› ..)
      · exact .after (retimed_frameVerifying heard ‹_› day arrival)
      · exact .after (retimed_frameHoldover heard ‹_› ..)

theorem retimed_takeTlmd (h : TimelineLegal s.timeline) (rate : Rate) (mode : TimeMode) {tolerance : Nat}
    (range : tolerance ≤ 480) : Retimed s (s.takeTlmd rate mode tolerance) := by
  unfold State.takeTlmd State.applyTlmd
  have stored : TimelineLegal (s.modTimeline fun t => { t with tolerance := tolerance }).timeline := h.tolerate range
  split
  · exact .after (.intro (stored.rated rate mode s.ring.p)
      (((confined_disarm ..).trans (confined_disarm ..)).trans (confined_lowerReference _)))
  · split
    · exact .after (.intro (stored.enter mode) (confined_ite (confined_lowerReference _) (Confined.refl _)))
    · exact .only stored

theorem retimed_startJam (h : TimelineLegal s.timeline) (mode : s.timeline.mode ≠ .free) : Retimed s s.startJam :=
  .intro (h.seek mode) (confined_ite (confined_lowerReference _) (Confined.refl _))

end Retimed

/-! ## Both together -/

/-- What a step keeps: the parts outside takes and delivery, and the three layers of these with `k` take ids free. -/
structure Sound (t a : Prop) (k : Nat) (s : State) : Prop where
  kept : Kept t a s.timeline.lost k s
  outer : OuterLegal s

namespace Sound

variable {t a : Prop} {k n : Nat} {s u : State}

theorem fewer (h : Sound t a (k + n) s) : Sound t a k s := ⟨h.kept.fewer, h.outer⟩

theorem ite {p : Prop} [Decidable p] (yes : p → Sound t a k s) (no : ¬p → Sound t a k u) : Sound t a k (if p then s else u) := by
  split
  · exact yes ‹_›
  · exact no ‹_›

/-- A confined change that keeps the layers. -/
theorem confined (h : Sound t a n s) (c : Confined s u) (kept : Kept t a s.timeline.lost k u) : Sound t a k u :=
  ⟨by rw [c.timeline]; exact kept, h.outer.confined c⟩

/-- A change outside takes, delivery, ring, triggers and timeline. -/
theorem aside (h : Sound t a k s) (takes : u.takes = s.takes) (delivery : u.delivery = s.delivery) (ring : u.ring = s.ring)
    (triggers : u.triggers = s.triggers) (timeline : u.timeline = s.timeline) (binding : u.binding = s.binding)
    (notices : u.link.notices.length ≤ 32) (reference : u.link.conds.referenceLost = s.link.conds.referenceLost)
    (stalled : u.link.conds.drainStalled = s.link.conds.drainStalled) (outer : OuterLegal u) : Sound t a k u := by
  refine ⟨?_, outer⟩
  rw [timeline]
  exact h.kept.blocks takes delivery ring triggers (binding ▸ h.kept.core.comments) notices
    (reference.trans h.kept.core.reference) stalled

theorem takeRefLost (h : Sound t a k s) : Sound t a k s.takeRefLost :=
  ⟨h.kept.takeRefLost h.outer.timeline.regain, h.outer.retimed (retimed_takeRefLost h.outer.timeline)⟩

theorem takeFrame (h : Sound t a (k + 1) s) (few : k ≤ 2) (label : Label) (drop : Bool) (arrival : Nat) :
    Sound t a k (s.takeFrame label drop arrival) :=
  ⟨h.kept.takeFrame few .., h.outer.retimed (retimed_takeFrame h.outer.timeline ..)⟩

theorem setTimecode (h : Sound t a (k + 1) s) (few : k ≤ 2) {c : Nat} (day : c < s.timeline.rate.day) :
    Sound t a k (s.setTimecode c) :=
  ⟨h.kept.setTimecode few c, h.outer.retimed (retimed_setTimecode h.outer.timeline day)⟩

theorem takeTlmd (h : Sound t a k s) (rate : Rate) (mode : TimeMode) {tolerance : Nat} (range : tolerance ≤ 480) :
    Sound t a k (s.takeTlmd rate mode tolerance) :=
  ⟨h.kept.takeTlmd h.outer.timeline rate mode range, h.outer.retimed (retimed_takeTlmd h.outer.timeline rate mode range)⟩

theorem startJam (h : Sound t a k s) (mode : s.timeline.mode ≠ .free) : Sound t a k s.startJam :=
  ⟨h.kept.startJam h.outer.timeline, h.outer.retimed (retimed_startJam h.outer.timeline mode)⟩

theorem takeMarksFired (h : Sound t a (k + 1) s) (few : k ≤ 2) : Sound t a k s.takeMarksFired :=
  h.confined (confined_takeMarksFired s) (h.kept.takeMarksFired few)

theorem takeEdges (h : Sound t a (k + 2) s) (few : k ≤ 1) : Sound t a k s.takeEdges := by
  obtain ⟨-, inputs, router, timeline, ring, notes, -, audio, replies⟩ := takeEdges_frame s
  refine ⟨by rw [timeline]; exact h.kept.takeEdges few, h.outer.congr ring router timeline inputs replies notes audio⟩

theorem settleAdvance (h : Sound t a 3 s) : Sound t a 0 s.settleAdvance := by
  have tail : Sound t a 3 s.takeTailEnd := h.confined (confined_takeTailEnd s) h.kept.takeTailEnd
  have limit : Sound t a 3 s.takeTailEnd.takeLimitCut := tail.confined (confined_takeLimitCut _) tail.kept.takeLimitCut
  have windows : Sound t a 3 s.takeTailEnd.takeLimitCut.takeWindowEnd :=
    limit.confined (confined_takeWindowEnd _) limit.kept.takeWindowEnd
  exact takeEdges (k := 0) (takeMarksFired (k := 2) windows.takeRefLost (by decide)) (by decide)

end Sound

end Sys2Proof.Machine
end

section
/-! An audio frame keeps a legal state legal, and its takes accounted for at the new position (R58, R59, R70, R104, R126). -/

namespace Sys2Proof.Machine

/-! ## The trigger lines at a frame (R104, R105) -/

/-- No line holds a confirmed edge. -/
def Triggers.Settled (t : Triggers) : Prop := ∀ n, (t.get n).confirmed = none

theorem EdgesRecent.sample {p : Nat} {l : TrigLine} (h : EdgesRecent p l) (settled : l.confirmed = none) (level : Bool) :
    EdgesRecent (p + 1) (l.sample level p) := by
  have never {e : Prop} {c : ConfirmedEdge} (confirmed : l.confirmed = some c) : e := nomatch settled.symm.trans confirmed
  unfold TrigLine.sample
  split
  · rename_i unset
    exact ⟨h.filter, nofun, fun e pending => (nomatch (h.unset unset).symm.trans pending), fun c => never⟩
  · rename_i held set
    split
    · exact ⟨h.filter, fun _ => rfl, nofun, fun c => never⟩
    · have counted : (l.longer p).first + (l.longer p).counter = p + 1 ∧ 1 ≤ (l.longer p).counter
          ∧ (l.longer p).counter ≤ 4800 := by
        unfold TrigLine.longer
        split
        · exact ⟨rfl, Nat.le_refl 1, Nat.le_add_left 1 4799⟩
        · rename_i e pending
          obtain ⟨sum, -, below⟩ := h.pending e pending
          have := below settled
          dsimp only
          omega
      obtain ⟨sum, some_counted, most⟩ := counted
      unfold TrigLine.confirm
      split
      · refine ⟨h.filter, fun unset => (nomatch set.symm.trans unset), ?_, ?_⟩
        · rintro e ⟨⟩
          exact ⟨sum, most, nofun⟩
        · rintro c ⟨⟩
          dsimp only
          omega
      · rename_i short
        refine ⟨h.filter, fun unset => (nomatch set.symm.trans unset), ?_, fun c => never⟩
        rintro e ⟨⟩
        refine ⟨sum, most, fun _ => ?_⟩
        have := h.filter
        simp only [TrigLine.needed] at short
        omega

theorem settleEdge_confirmed (l : TrigLine) : l.settleEdge.confirmed = none := by
  unfold TrigLine.settleEdge
  split
  · assumption
  · rfl

theorem Triggers.Settled.outcome {t : Triggers} (h : t.Settled) (n : Line) (o : Option LineOutcome) :
    (t.modify n fun l => { l with lastOutcome := o }).Settled := by
  intro m
  rw [Triggers.get_modify]
  split
  · exact h m
  · exact h m

theorem handEdge_settled {s : State} (h : s.triggers.Settled) (n : Line) (c : Option ConfirmedEdge) :
    (s.handEdge n c).triggers.Settled := by
  unfold State.handEdge
  split
  · exact h
  · split
    · exact h
    · rename_i q _
      have same := (confined_lineRequest s n q (by assumption : ConfirmedEdge).first).triggers
      exact Triggers.Settled.outcome (same ▸ h) _ _

theorem takeEdges_settled (s : State) : s.takeEdges.triggers.Settled := by
  refine handEdge_settled (handEdge_settled (s := s.modTriggers fun l =>
    { line1 := l.line1.settleEdge, line2 := l.line2.settleEdge }) (fun n => ?_) _ _) _ _
  cases n <;> exact settleEdge_confirmed _

theorem settleAdvance_settled (s : State) : s.settleAdvance.triggers.Settled := takeEdges_settled _

/-! ## The push of an overrun, with the trigger lines and the mark latch put in

The ring's write has moved P, and the trigger lines and the mark latch follow only after the pushes of the overrun (R59). The
pushes see neither, so that they may be taken in the state where these stand at the new position already. -/

/-- The trigger lines and the mark latch put in. -/
def State.timed (s : State) (lines : Triggers) (due : Option MarkDue) : State :=
  { s with triggers := lines, takes := { s.takes with markDue := due } }

section Timed

variable (s : State) (lines : Triggers) (due : Option MarkDue)

theorem record?_timed (id : Nat) : (s.timed lines due).record? id = s.record? id := rfl

theorem drain_timed (d : Drain) : (s.timed lines due).drain d = s.drain d := rfl

theorem runAll_timed {α : Type} {f : α → State → State}
    (each : ∀ x u, f x (u.timed lines due) = (f x u).timed lines due) (l : List α) :
    runAll f l (s.timed lines due) = (runAll f l s).timed lines due := by
  induction l generalizing s with
  | nil => rfl
  | cons x l ih =>
    change runAll f l (f x (s.timed lines due)) = _
    rw [each]
    exact ih _

theorem settleOn_timed (id : Nat) (d : Drain) : (s.timed lines due).settleOn id d = (s.settleOn id d).timed lines due := by
  unfold State.settleOn
  rw [drain_timed]
  cases (s.drain d).unsettledOf id <;> rfl

theorem makeFinal_timed (id : Nat) (early : Bool) :
    (s.timed lines due).makeFinal id early = (s.makeFinal id early).timed lines due := by
  unfold State.makeFinal
  dsimp only
  rw [settleOn_timed, settleOn_timed]
  generalize (s.settleOn id .a).settleOn id .b = u
  change (match (u.updRecord id (TakeRecord.madeFinal early)).record? id with
    | some r => ((u.updRecord id (TakeRecord.madeFinal early)).timed lines due).notify (.finl id r.header)
    | none => (u.updRecord id (TakeRecord.madeFinal early)).timed lines due) =
    State.timed (match (u.updRecord id (TakeRecord.madeFinal early)).record? id with
    | some r => (u.updRecord id (TakeRecord.madeFinal early)).notify (.finl id r.header)
    | none => u.updRecord id (TakeRecord.madeFinal early)) lines due
  split <;> rfl

theorem finalTest_timed (id : Nat) : (s.timed lines due).finalTest id = (s.finalTest id).timed lines due := by
  unfold State.finalTest
  rw [record?_timed]
  split
  · rw [show (s.timed lines due).isDueFinal _ = s.isDueFinal _ from rfl, makeFinal_timed]
    split <;> rfl
  · rfl

theorem activateOn_timed (d : Drain) : (s.timed lines due).activateOn d = (s.activateOn d).timed lines due := by
  unfold State.activateOn
  rw [show (s.timed lines due).currentTake d = s.currentTake d from rfl]
  split <;> rfl

theorem sweepList_timed : (s.timed lines due).sweepList = s.sweepList.timed lines due := by
  have tested := runAll_timed (s.modDelivery fun e => { e with list := e.list.filter fun id => s.stillDelivering id })
    lines due (f := fun id u => u.finalTest id) (fun id u => finalTest_timed u lines due id)
    (s.delivery.list.filter fun id => !s.stillDelivering id)
  unfold State.sweepList State.activate
  rw [← activateOn_timed, ← activateOn_timed, ← tested]
  rfl

theorem testDone_timed (id : Nat) (d : Drain) : (s.timed lines due).testDone id d = (s.testDone id d).timed lines due := by
  unfold State.testDone
  rw [record?_timed, drain_timed]
  split
  · rfl
  · split <;> rfl

theorem gapEpisodeTest_timed (d : Drain) (takeId pos offset : Nat) (reason : DrneReason) :
    (s.timed lines due).gapEpisodeTest d takeId pos offset reason =
      (s.gapEpisodeTest d takeId pos offset reason).timed lines due := by
  unfold State.gapEpisodeTest
  rw [drain_timed]
  split <;> rfl

theorem push_timed (id : Nat) (d : Drain) : (s.timed lines due).push id d = (s.push id d).timed lines due := by
  have updated (f : Section → Section) : (s.timed lines due).updSection id d f = (s.updSection id d f).timed lines due := rfl
  unfold State.push
  rw [record?_timed, show (s.timed lines due).oldest = s.oldest from rfl]
  split
  · rfl
  · dsimp only
    rw [updated, gapEpisodeTest_timed, State.settleDone, testDone_timed, sweepList_timed]
    exact (apply_ite (fun u : State => u.timed lines due) ..).symm

theorem overrun_timed : (s.timed lines due).overrun = s.overrun.timed lines due :=
  runAll_timed s lines due (fun id u => by rw [push_timed, push_timed]) s.delivery.list

end Timed

/-! ## The new position -/

theorem PositionsInOrder.later {p q : Nat} {r : TakeRecord} (h : PositionsInOrder p r) (le : p ≤ q) : PositionsInOrder q r := by
  refine ⟨h.start, h.roll.trans le, fun c cut => ?_, h.cause, h.target, h.opened, fun closed => ?_⟩
  · obtain ⟨low, high⟩ := h.cut c cut
    exact ⟨low, high.trans le⟩
  · obtain ⟨target, c, e, w, cut, ends, window, cutEnd, high, last⟩ := h.closed closed
    exact ⟨target, c, e, w, cut, ends, window, cutEnd, high.trans le, last⟩

theorem writeRing_p {s : State} (x : Vector Sample 24) (room : s.ring.p + 1 < 281474976710656) :
    (s.writeRing x).ring.p = s.ring.p + 1 := if_pos room

/-- The accounts at the next position, with the trigger lines sampled and no mark due. -/
theorem TakesAccounted.written {s : State} (h : TakesAccounted s) (settled : s.triggers.Settled) (x : Vector Sample 24)
    (room : s.ring.p + 1 < 281474976710656) (level1 level2 : Bool) :
    TakesAccounted ((s.writeRing x).timed (s.triggers.sample level1 level2 s.ring.p) none) := by
  have next : ((s.writeRing x).timed (s.triggers.sample level1 level2 s.ring.p) none).ring.p = s.ring.p + 1 :=
    writeRing_p x room
  have older : s.oldest ≤ ((s.writeRing x).timed (s.triggers.sample level1 level2 s.ring.p) none).oldest := by
    unfold State.oldest
    rw [next]
    exact Nat.sub_le_sub_right (Nat.le_succ _) _
  refine ⟨fun r held => ?_, fun r held d => ?_, fun d b flight => ?_, h.listed, h.left, h.tail, h.preRoll, nofun, fun n => ?_⟩
  · rw [next]
    exact (h.positions r held).later (Nat.le_succ _)
  · rw [next]
    exact (h.sections r held d).later (Nat.le_succ _)
  · obtain ⟨enabled, own⟩ := h.blocks d b flight
    refine ⟨enabled, fun unsettled => ?_⟩
    obtain ⟨r, found, final, state, place⟩ := own unsettled
    refine ⟨r, found, final, state, fun live => ?_⟩
    obtain ⟨reach, which⟩ := place live
    exact ⟨reach, which.imp_right fun below => below.trans older⟩
  · rw [next]
    cases n with
    | one => exact (h.edges .one).sample (settled .one) level1
    | two => exact (h.edges .two).sample (settled .two) level2

theorem writeRing_position {s : State} (x : Vector Sample 24) : PositionInRange (s.writeRing x) := by
  have place : nextPosition s.freeCount s.ring.p < 281474976710656 := by
    unfold nextPosition
    split
    · assumption
    · exact BitVec.isLt _
  exact place

namespace Sound

variable {t a : Prop} {k : Nat} {s : State}

theorem takeSync (h : Sound t a k s) : Sound t a k s.takeSync := by
  have synced : s.takeSync.inputs.sync ≠ .lost := by
    rw [(takeSync_spec s).1]
    exact SyncState.noConfusion
  have audio : s.takeSync.link.conds.audioLost = true ↔ s.takeSync.inputs.sync = .lost := by
    refine iff_of_false ?_ synced
    unfold State.takeSync
    dsimp only
    split
    · exact Bool.false_ne_true
    · rename_i found
      exact fun lost => found (h.outer.audio.1 lost)
  unfold State.takeSync at audio ⊢
  dsimp only at audio ⊢
  split at audio
  · rw [if_pos ‹_›]
    exact h.aside rfl rfl rfl rfl rfl rfl h.kept.core.notices rfl rfl { h.outer with audio := audio }
  · rw [if_neg ‹_›]
    exact h.aside rfl rfl rfl rfl rfl rfl h.kept.core.notices rfl rfl { h.outer with audio := audio }

theorem modInputs (h : Sound t a k s) {f : Inputs → Inputs} (range : InputsInRange (f s.inputs))
    (sync : (f s.inputs).sync = s.inputs.sync) : Sound t a k (s.modInputs f) :=
  h.aside rfl rfl rfl rfl rfl rfl h.kept.core.notices rfl rfl
    { h.outer with inputs := range, audio := h.outer.audio.trans (iff_of_eq (congrArg (· = _) sync.symm)) }

theorem modRouter (h : Sound t a k s) {f : Router → Router} (routing : RoutingLegal (f s.router)) :
    Sound t a k (s.modRouter f) :=
  h.aside rfl rfl rfl rfl rfl rfl h.kept.core.notices rfl rfl { h.outer with routing := routing }

theorem intake (h : Sound t a k s) (e : Event) : Sound t a k (s.intake e) :=
  h.confined (confined_intake s e) (h.kept.intake e)

theorem conditionFrame (h : Sound t a k s) (slots : Vector (BitVec 32) 16) : Sound t a k (s.conditionFrame slots) := by
  have routing : RoutingLegal (s.routerAfter slots) := by
    refine h.outer.routing.congr ?_ ?_ ?_ <;> simp only [State.routerAfter]
  have taken := (h.modInputs (f := fun i => i.takeSlots slots) (h.outer.inputs.takeSlots slots) rfl).modRouter
    (f := fun _ => s.routerAfter slots) routing
  exact taken.confined (conditionFrame_frame s slots) (taken.kept.each fun e _ _ kept => kept.intake e)

theorem written (h : Sound t a k s) (settled : s.triggers.Settled) (x : Vector Sample 24)
    (room : t → a → s.ring.p + 1 < 281474976710656) (level1 level2 : Bool) :
    Sound t a k ((s.writeRing x).timed (s.triggers.sample level1 level2 s.ring.p) none) := by
  obtain ⟨core, table, accounts⟩ := h.kept
  refine ⟨⟨core.congr core.reference core.notices ⟨rfl, rfl, rfl⟩ (Nat.le_refl _) core.comments core.stalled,
    fun legal => (table legal).of_ids rfl rfl (List.Sublist.refl _), fun legal counts =>
      (accounts legal counts).written settled x (room legal counts) level1 level2⟩, ?_⟩
  exact { h.outer with position := writeRing_position (s := s) x, ring := wf_writeRing s x h.outer.ring }

theorem advanceLoss (h : Sound t a k s) : Sound t a k s.advanceLoss := by
  have lost : s.advanceLoss.timeline.lost = s.timeline.lost := by
    unfold State.advanceLoss
    rw [State.modTimeline_timeline]
    split <;> rfl
  have legal : TimelineLegal s.advanceLoss.timeline := by
    unfold State.advanceLoss
    rw [State.modTimeline_timeline]
    split
    · exact h.outer.timeline.congr rfl rfl rfl rfl rfl rfl rfl
    · exact h.outer.timeline
  exact ⟨by rw [lost]; exact h.kept.modTimeline _, h.outer.retimed (Retimed.only legal)⟩

/-- A change of the take controller outside its state, its table and its next id. -/
theorem controls (h : Sound t a k s) {f : TakeCtl → TakeCtl} (table : (f s.takes).table = s.takes.table)
    (state : (f s.takes).state = s.takes.state) (nextId : (f s.takes).nextId = s.takes.nextId)
    (preRoll : t → a → (f s.takes).caps.preRoll ≤ 480000)
    (due : t → a → ∀ m, (f s.takes).markDue = some m → m.pos = s.ring.p) : Sound t a k (s.modTakes f) :=
  h.confined (confined_modTakes s f) (h.kept.controls table state nextId preRoll due)

end Sound

theorem marksEntered_pos {s : State} {m : MarkDue} (entered : s.marksEntered = some m) : m.pos = s.ring.p := by
  unfold State.marksEntered at entered
  dsimp only at entered
  split at entered
  · cases entered
    rfl
  · cases entered

/-- The new position is taken with the trigger lines put in first (R59). -/
theorem takePosition_eq (s : State) (line1 line2 : Bool) (written : Nat) : s.takePosition line1 line2 written =
    ((s.timed (s.triggers.sample line1 line2 written) none).advanceLoss).modTakes fun t =>
      { t with markDue := (s.modTriggers fun t => t.sample line1 line2 written).advanceLoss.marksEntered } := rfl

/-- The pushes and the new position, where P is written and the lines stand as they will be sampled. -/
theorem Sound.takePosition {t a : Prop} {k : Nat} {w : State} {line1 line2 : Bool} {p : Nat}
    (h : Sound t a k (w.timed (w.triggers.sample line1 line2 p) none)) : Sound t a k (w.overrun.takePosition line1 line2 p) := by
  have pushed := h.confined (confined_overrun _) h.kept.overrun
  rw [overrun_timed, ← (confined_overrun w).triggers] at pushed
  rw [takePosition_eq]
  generalize w.overrun = v at pushed ⊢
  refine pushed.advanceLoss.controls (f := fun c => { c with markDue :=
    (v.modTriggers fun t => t.sample line1 line2 p).advanceLoss.marksEntered }) rfl rfl rfl
    (fun legal counts => (pushed.kept.accounts legal counts).preRoll) fun _ _ m entered => ?_
  exact marksEntered_pos entered

/-- An audio frame, in a state in which the last advance has been settled. -/
theorem Sound.takeAudio {t a : Prop} {k : Nat} {s : State} (h : Sound t a k s) (settled : s.triggers.Settled)
    (room : t → a → s.ring.p + 1 < 281474976710656) (slots : Vector (BitVec 32) 16) (line1 line2 : Bool) :
    Sound t a k (s.takeAudio slots line1 line2) := by
  obtain ⟨-, -, ring, -, -, lines, -⟩ := takeSync_spec s
  have frame := conditionFrame_frame s.takeSync slots
  have heard := h.takeSync.conditionFrame slots
  unfold State.takeAudio
  generalize s.takeSync.conditionFrame slots = u at frame heard ⊢
  have triggers : u.triggers = s.triggers := frame.triggers.trans lines
  have position : u.ring.p = s.ring.p := by rw [frame.ring, State.modRouter_ring, State.modInputs_ring, ring]
  have written := heard.written (by rw [triggers]; exact settled) (s.trackSamples slots) (by rw [position]; exact room)
    line1 line2
  rw [position] at written
  exact Sound.takePosition (w := u.writeRing (s.trackSamples slots)) written

end Sys2Proof.Machine
end

section
/-! The other events and the resets keep a legal state legal: the audio path by itself (R36, R42 to R46), the notes (R149 to
R156), the control line (R166, R167, R172), the ports and the three resets (R179 to R182). -/

namespace Sys2Proof.Machine

namespace Sound

variable {t a : Prop} {k n : Nat} {s u : State}

/-! ## Changes of one block -/

theorem modLink (h : Sound t a k s) {f : Link → Link} (replies : (f s.link).replies.length ≤ 8)
    (notices : (f s.link).notices.length ≤ 32) (reference : (f s.link).conds.referenceLost = s.link.conds.referenceLost)
    (stalled : (f s.link).conds.drainStalled = s.link.conds.drainStalled)
    (audio : (f s.link).conds.audioLost = s.link.conds.audioLost) : Sound t a k (s.modLink f) :=
  h.aside rfl rfl rfl rfl rfl rfl notices reference stalled
    { h.outer with replies := replies, audio := (iff_of_eq (congrArg (· = true) audio)).trans h.outer.audio }

theorem modNotes (h : Sound t a k s) {f : NoteRx → NoteRx} (capped : NotesCapped (f s.notes)) : Sound t a k (s.modNotes f) :=
  h.aside rfl rfl rfl rfl rfl rfl h.kept.core.notices rfl rfl { h.outer with notes := capped }

theorem notify (h : Sound t a k s) (x : Notice) : Sound t a k (s.notify x) :=
  h.confined (confined_notify s x) (h.kept.notify x)

theorem lines (h : Sound t a k s) {f : Triggers → Triggers}
    (edges : t → a → ∀ n, EdgesRecent s.ring.p ((f s.triggers).get n)) : Sound t a k (s.modTriggers f) :=
  ⟨h.kept.lines edges, { h.outer with }⟩

/-! ## The audio path (R36, R42 to R46, R49) -/

theorem takeClipEnd (h : Sound t a k s) (i : Fin 16) : Sound t a k (s.takeClipEnd i) :=
  h.modInputs (h.outer.inputs.modChannel i fun _ range => range.endClip) rfl

theorem takeBusClipEnd (h : Sound t a k s) (bus : Bus) : Sound t a k (s.takeBusClipEnd bus) := by
  cases bus with
  | l => exact h.modRouter (h.outer.routing.congr (q := s.router.modBus .l MixBus.endClip) rfl rfl rfl)
  | r => exact h.modRouter (h.outer.routing.congr (q := s.router.modBus .r MixBus.endClip) rfl rfl rfl)

theorem takeSilent (h : Sound t a k s) (i : Fin 16) : Sound t a k (s.takeSilent i) :=
  Sound.ite (fun _ => (h.modInputs (f := fun x => x.modChannel i Channel.startSilent)
    (h.outer.inputs.modChannel i fun _ range => range.startSilent) rfl).intake _) fun _ => h

theorem loseSync (h : Sound t a k s) : Sound t a k s.loseSync := by
  unfold State.loseSync
  split
  · have lost : Sound t a k ((s.modInputs fun i => { i with sync := .lost, syncTimer := Timer.at Config.syncLimit }).raise
        .audioLost) :=
      h.aside rfl rfl rfl rfl rfl rfl h.kept.core.notices rfl rfl
        { h.outer with audio := ⟨fun _ => rfl, fun _ => rfl⟩ }
    exact lost.intake _
  · exact h

theorem clearPeaks (h : Sound t a k s) : Sound t a k s.clearPeaks :=
  (h.modInputs (f := fun i => { i with channels := i.channels.map fun c => { c with peak := 0 } })
    (h.outer.inputs.mapChannels fun _ range => { range with peak := Nat.zero_le _ }) rfl).modRouter
    (f := fun r => { r with busL := { r.busL with peak := 0 }, busR := { r.busR with peak := 0 } })
    (RoutingLegal.congr (r := s.router) h.outer.routing rfl rfl rfl)

theorem reportLevels (h : Sound t a k s) : Sound t a k s.reportLevels := by
  unfold State.reportLevels
  split
  · exact h
  · have cleared := (h.notify (.lvls s.ring.p s.peaks)).clearPeaks
    exact cleared.modInputs (f := fun i => { i with reportTimer := Timer.zero }) cleared.outer.inputs rfl

end Sound

/-! ## Notes (R149 to R156) -/

theorem addComment_capped {x : Slate} (h : x.comments.length ≤ 8) (c : Comment) : (x.addComment c).comments.length ≤ 8 := by
  unfold Slate.addComment
  split
  · rename_i room
    have : x.comments.length < 8 := room
    simp only [List.length_append, List.length_singleton]
    omega
  · exact h

theorem slateApply_capped {x : Slate} (h : x.comments.length ≤ 8) (station pos : Nat) (b : NoteBody) :
    (x.apply station pos b).comments.length ≤ 8 := by
  cases b with
  | comment => exact addComment_capped h _
  | scene | takeNum | trackName | circle | noGood | falseTake | wild => exact h

theorem bindingApply_capped {x : Binding} (h : x.comments.length ≤ 8) (station pos : Nat) (reachedTake : Bool) (b : NoteBody) :
    (x.apply station pos reachedTake b).comments.length ≤ 8 := by
  cases b with
  | comment =>
    unfold Binding.apply
    dsimp only
    split
    · rename_i room
      have : x.comments.length < 8 := room
      simp only [List.length_append, List.length_singleton]
      omega
    · exact h
  | scene | takeNum | trackName | circle | noGood | falseTake | wild => exact h

namespace Kept

variable {t a : Prop} {b : Bool} {k : Nat} {s : State}

theorem writeTake (h : Kept t a b k s) (id station pos : Nat) (body : NoteBody) :
    Kept t a b k (s.writeTake id station pos body) := by
  have written : Kept t a b k (s.updRecord id fun r => { r with slate := r.slate.apply station pos body }) :=
    h.noted (fun _ capped => ⟨slateApply_capped capped.comments .., capped.events, capped.gaps⟩) fun _ => rfl
  unfold State.writeTake State.followLastSlate
  split
  · rename_i l r _ _
    exact Kept.ite (fun _ => written.controls (f := fun c =>
      { c with lastSlate := some { l with scene := r.slate.scene, number := r.slate.number } }) rfl rfl rfl
      (fun legal counts => (written.accounts legal counts).preRoll) fun legal counts =>
        (written.accounts legal counts).markDue) fun _ => written
  · exact written

theorem writePending (h : Kept t a b k s) (station pos : Nat) (reachedTake : Bool) (body : NoteBody) :
    Kept t a b k (s.writePending station pos reachedTake body) :=
  h.blocks rfl rfl rfl rfl (bindingApply_capped h.core.comments ..) h.core.notices h.core.reference rfl

theorem bindNote (h : Kept t a b k s) (note : CompletedNote) : Kept t a b k (s.bindNote note).1 := by
  unfold State.bindNote
  split
  · exact h
  · unfold State.bindParsed
    split
    · unfold State.bindTake
      split
      · exact h
      · exact Kept.ite (fun _ => (h.writeTake ..).writePending ..) fun _ => h.writeTake ..
    · exact h.writePending ..
    · exact h

end Kept

namespace Sound

variable {t a : Prop} {k n : Nat} {s u : State}

theorem bindNote (h : Sound t a k s) (note : CompletedNote) : Sound t a k (s.bindNote note).1 :=
  h.confined (confined_bindNote s note) (h.kept.bindNote note)

theorem takeNextNote (h : Sound t a k s) : Sound t a k s.takeNextNote := by
  unfold State.takeNextNote
  split
  · exact h
  · rename_i note rest _
    have taken := h.modNotes (f := fun x => { x with completed := rest }) ⟨h.outer.notes.accept, h.outer.notes.buffer⟩
    exact (taken.bindNote note).notify _

/-! ## The drain ports (R123, R124) -/

theorem port (h : Sound t a k s) {d : Drain} {f : DrainState → DrainState}
    (kept : Kept t a s.timeline.lost k (s.modDrain d f)) : Sound t a k (s.modDrain d f) :=
  h.confined (confined_modDrain s d f) kept

/-! ## The control line (R166, R167, R172) -/

theorem frameError (h : Sound t a k s) (e : FrameError) : Sound t a k (s.frameError e) := by
  unfold State.frameError
  dsimp only
  have hunting := h.modLink (f := fun l =>
    { l.hunt with consecutive := bump 255 s.link.consecutive, counts := l.counts.frameError e }) h.outer.replies
    h.kept.core.notices rfl rfl rfl
  exact Sound.ite (fun _ => (hunting.modLink (f := fun l => { l with conds := l.conds.put .linkFault true })
    hunting.outer.replies hunting.kept.core.notices rfl rfl rfl).notify _) fun _ => hunting

theorem byteError (h : Sound t a k s) : Sound t a k s.byteError :=
  Sound.ite (fun _ => h.modLink h.outer.replies h.kept.core.notices rfl rfl rfl) fun _ => h.frameError _

theorem rxTo (h : Sound t a k s) (r : RxState) : Sound t a k (s.rxTo r) :=
  h.modLink h.outer.replies h.kept.core.notices rfl rfl rfl

theorem silenceDiscard (h : Sound t a k s) : Sound t a k s.silenceDiscard :=
  Sound.ite (fun _ => h) fun _ => h.modLink h.outer.replies h.kept.core.notices rfl rfl rfl

theorem transmit (h : Sound t a k s) : Sound t a k (s.modLink Link.transmit) := by
  have replies := h.outer.replies
  have notices := h.kept.core.notices
  have conds : s.link.transmit.conds = s.link.conds ∧ s.link.transmit.replies.length ≤ s.link.replies.length
      ∧ s.link.transmit.notices.length ≤ s.link.notices.length := by
    unfold Link.transmit Link.pick
    split
    · exact ⟨rfl, Nat.le_refl _, Nat.le_refl _⟩
    · split
      · rename_i waiting
        exact ⟨rfl, by rw [waiting]; exact Nat.le_succ _, Nat.le_refl _⟩
      · rename_i waiting
        exact ⟨rfl, Nat.le_refl _, by rw [waiting]; exact Nat.le_succ _⟩
      · exact ⟨rfl, Nat.le_refl _, Nat.le_refl _⟩
  obtain ⟨same, fewerReplies, fewerNotices⟩ := conds
  exact h.modLink (fewerReplies.trans replies) (fewerNotices.trans notices) (by rw [same]) (by rw [same]) (by rw [same])

/-! ## The tick (log entry 3) -/

theorem tick (h : Sound t a k s) : Sound t a k s.tick := by
  have drain (d : Drain) : s.tick.drain d = (s.drain d).tick := by cases d <;> rfl
  have conds : s.tick.link.conds = s.link.conds ∧ s.tick.link.notices = s.link.notices ∧ s.tick.timeline = s.timeline :=
    ⟨rfl, rfl, rfl⟩
  refine ⟨h.kept.drains rfl rfl rfl rfl rfl rfl rfl ?_ fun d => ?_, { h.outer with
    notes := ⟨h.outer.notes.accept, h.outer.notes.buffer⟩ }⟩
  · rw [drain, drain]
    exact h.kept.core.stalled
  · rw [drain]
    exact ⟨rfl, fun on _ => on⟩

end Sound

/-! ## Resets (R179 to R182) -/

/-- A state with no take, no block in flight and no edge pending. -/
theorem Kept.cleared {t a : Prop} {b : Bool} {k : Nat} {s : State} (core : CoreLegal b s) (table : s.takes.table = [])
    (list : s.delivery.list = []) (flight : ∀ d, (s.drain d).inFlight = none)
    (preRoll : t → a → s.takes.caps.preRoll ≤ 480000) (due : s.takes.markDue = none)
    (edges : t → a → ∀ n, EdgesRecent s.ring.p (s.triggers.get n)) : Kept t a b k s := by
  have empty {p : TakeRecord → Prop} (r : TakeRecord) (held : r ∈ s.takes.table) : p r :=
    absurd held (table ▸ List.not_mem_nil)
  refine ⟨core, fun _ => ⟨⟨?_, ?_, ?_, ?_⟩, fun _ _ => empty⟩, fun legal counts => ⟨empty, empty,
    fun d => blockAccounted_of_none (flight d), empty, empty, fun _ => empty, preRoll legal counts, ?_, edges legal counts⟩⟩
  · rw [table]
    exact Nat.zero_le _
  · rw [table]
    exact List.nodup_nil
  · rw [list]
    exact List.nodup_nil
  · rw [list]
    exact fun _ held => absurd held List.not_mem_nil
  · rw [due]
    nofun

/-- With no drain stalled, DRAIN STALLED that is clear agrees with the drains. -/
theorem flowing_agrees {c x y : Bool} (clear : c = false) (first : x = false) (second : y = false) :
    c = true ↔ x = true ∨ y = true := by
  simp [clear, first, second]

namespace Sound

variable {t a : Prop} {k : Nat} {s : State}

theorem powerOn (h : Sound t a k s) : Sound t a k s.powerOn := by
  have legal := legal_reset
  have core := (legal_iff.1 legal).2
  refine ⟨Kept.cleared ⟨rfl, core.notices, core.list, core.comments, core.records, core.takes, core.nextId,
    flowing_agrees rfl rfl rfl⟩ rfl rfl (fun d => by cases d <;> rfl) (fun _ _ => takesAccounted_reset.preRoll) rfl
    fun _ _ n => by cases n <;> exact edgesRecent_initial _, ?_⟩
  exact { (legal_iff.1 legal).1 with ring := wf_ringReset _ h.outer.ring, notes := ⟨Nat.zero_le _, Nat.zero_le _⟩ }

theorem engineReset (h : Sound t a k s) : Sound t a k s.engineReset := by
  have timeline : TimelineLegal s.timeline.engineReset := by
    have entered := h.outer.timeline.enter s.timeline.mode
    exact ⟨entered.free, entered.follow, entered.tracking, entered.candidate, entered.regain,
      by exact_mod_cast s.timeline.rate.day_pos, entered.tolerance⟩
  have lost : s.engineReset.timeline.lost = false := Kept.enter_lost s.timeline s.timeline.mode
  have inputs : InputsInRange s.inputs.engineReset := h.outer.inputs.mapChannels fun _ range => range.engineReset
  refine ⟨Kept.cleared ⟨lost.symm, Nat.zero_le _, Nat.zero_le _, Nat.zero_le _, fun _ held => absurd held List.not_mem_nil,
      ⟨Nat.zero_le _, fun _ _ held => absurd held List.not_mem_nil⟩, h.kept.core.nextId, flowing_agrees rfl rfl rfl⟩ rfl rfl
    (fun d => by cases d <;> rfl) (fun legal counts => (h.kept.accounts legal counts).preRoll) rfl
    fun legal counts n => ?edges, ?outer⟩
  case edges =>
    have before := (h.kept.accounts legal counts).edges n
    cases n <;> exact edgesRecent_of_none _ before.filter rfl rfl
  case outer =>
    exact ⟨legal_reset.position, wf_ringReset _ h.outer.ring, h.outer.routing.congr rfl rfl rfl, timeline, inputs,
      h.outer.replies,
      ⟨h.outer.notes.accept, Nat.zero_le _⟩, ⟨nofun, nofun⟩⟩

end Sound

/-! ### RSET CONFIG (R181) -/

theorem disableIfEnabled_off (s : State) (d : Drain) : ((s.disableIfEnabled d).drain d).settings.enabled = false := by
  unfold State.disableIfEnabled
  split
  · rw [disableDrain_drain]
    rfl
  · rename_i off
    exact Bool.eq_false_iff.2 off

theorem Kept.idle_of_off {t a : Prop} {b : Bool} {k : Nat} {s : State} (h : Kept t a b k s) {d : Drain}
    (off : (s.drain d).settings.enabled = false) (legal : t) (counts : a) : (s.drain d).inFlight = none := by
  cases flight : (s.drain d).inFlight with
  | none => rfl
  | some x =>
    obtain ⟨on, -⟩ := (h.accounts legal counts).blocks d x flight
    rw [off] at on
    cases on

theorem Kept.configReset {t a : Prop} {b : Bool} {k : Nat} {s : State} (h : Kept t a b k s) (empty : s.delivery.list = []) :
    Kept t a false k s.configReset := by
  have first := disableIfEnabled_idle .a empty
  have second := disableIfEnabled_idle .b first.list
  have disabled := (h.disableIfEnabled .a).disableIfEnabled .b
  have confined := first.confined.trans second.confined
  have off (d : Drain) : (((s.disableIfEnabled .a).disableIfEnabled .b).drain d).settings.enabled = false := by
    cases d with
    | a =>
      rw [second.other .a nofun]
      exact disableIfEnabled_off s .a
    | b => exact disableIfEnabled_off _ .b
  have drains (d : Drain) : s.configReset.drain d = (((s.disableIfEnabled .a).disableIfEnabled .b).drain d).configReset := by
    cases d <;> rfl
  have low := disabled.lowered
  refine ⟨low.core.congr (u := s.configReset) rfl disabled.core.notices ⟨rfl, rfl, rfl⟩ (Nat.le_refl _) disabled.core.comments ?_,
    fun legal => (low.table legal).of_ids rfl rfl (List.Sublist.refl _), fun legal counts => ?_⟩
  · rw [drains, drains]
    exact flowing_agrees rfl rfl rfl
  · refine (low.accounts legal counts).congr (u := s.configReset) rfl rfl rfl takesAccounted_reset.preRoll nofun
      rfl (fun d => ?_) fun n => ?_
    · have idle := disabled.idle_of_off (off d) legal counts
      rw [drains]
      exact ⟨idle.symm, fun _ busy => absurd idle busy⟩
    · have before := (h.accounts legal counts).edges n
      have place : s.configReset.ring = s.ring := confined.ring
      rw [place]
      cases n <;> exact ⟨(by decide : 96 ≤ 4800), before.unset, before.pending, before.confirmed⟩

theorem Sound.configReset {t a : Prop} {k : Nat} {s : State} (h : Sound t a k s) (empty : s.delivery.list = []) :
    Sound t a k s.configReset := by
  have timeline : TimelineLegal (s.timeline.configReset s.ring.p) := timelineLegal_initial.anchored
    (a := { pos := s.ring.p, count := 0 }) (by exact_mod_cast Timeline.initial.rate.day_pos)
    |>.congr rfl rfl rfl rfl rfl rfl rfl
  have inputs : InputsInRange s.inputs.configReset := h.outer.inputs.mapChannels fun _ range => range.configReset
  have confined := confined_configDrains s
  have lost : s.configReset.timeline.lost = false := rfl
  refine ⟨lost ▸ h.kept.configReset empty, ?_⟩
  have drained := h.outer.confined confined
  exact ⟨drained.position, drained.ring, routingLegal_initial.congr rfl rfl rfl, timeline, inputs, drained.replies,
    ⟨Nat.zero_le _, h.outer.notes.buffer⟩, (iff_of_eq (congrArg (· = true) confined.audioLost)).trans h.outer.audio⟩

end Sys2Proof.Machine
end

section
/-! Every request, every command and every step keeps a legal state legal, and with the next take ids free its takes in order
and accounted for (O59). -/

namespace Sys2Proof.Machine

/-! ## Requests -/

/-- A request whose owner keeps a legal state legal, rolling one take at most. -/
def KeepsSound (handle : State → Answer) : Prop :=
  ∀ (t a : Prop) (u : State), Sound t a 1 u → Sound t a 0 (handle u).state

theorem Sound.now {t a : Prop} {s : State} (h : Sound t a 1 s) : Sound t a 0 s := Sound.fewer (k := 0) (n := 1) h

theorem Sound.answered {t a : Prop} {k : Nat} {s : State} {r : Result} (h : Sound t a k s) : Sound t a k (okAnswer s r).state := h

theorem keepsSound_refuse (x : Status) : KeepsSound fun s => refuse s x := fun _ _ _ h => h.now

theorem keepsSound_read (report : State → Result) : KeepsSound fun s => okAnswer s (report s) := fun _ _ _ h => h.now

theorem keepsSound_ite {p : State → Prop} [∀ s, Decidable (p s)] {f g : State → Answer} (hf : KeepsSound f)
    (hg : ∀ (t a : Prop) (u : State), ¬p u → Sound t a 1 u → Sound t a 0 (g u).state) :
    KeepsSound fun s => if p s then f s else g s := by
  intro t a u h
  dsimp only
  split
  · exact hf t a u h
  · exact hg t a u ‹_› h

theorem keepsSound_either {p : Prop} [Decidable p] {f g : State → Answer} (hf : KeepsSound f) (hg : KeepsSound g) :
    KeepsSound (if p then f else g) := by
  split
  · exact hf
  · exact hg

/-- A request that finds room is placed behind seven replies at most, and another is discarded (R169, R170). -/
theorem KeepsSound.serve {handle : State → Answer} (keeps : KeepsSound handle) (replies : KeepsReplies handle) {t a : Prop}
    {s : State} (h : Sound t a 1 s) (tag : BitVec 8) (kind : Text) : Sound t a 0 (s.serve tag kind handle) := by
  have counted : Sound t a 1 (s.modLink Link.goodFrame) := h.modLink h.outer.replies h.kept.core.notices rfl rfl rfl
  unfold State.serve
  split
  · rename_i room
    have room : s.link.replies.length < 8 := of_decide_eq_true room
    have handled := keeps t a _ counted
    have held : (handle (s.modLink Link.goodFrame)).state.link.replies = s.link.replies :=
      (replies (s.modLink Link.goodFrame)).1
    refine handled.modLink ?_ handled.kept.core.notices rfl rfl rfl
    rw [held, List.length_append, List.length_singleton]
    omega
  · exact counted.now.modLink h.outer.replies h.kept.core.notices rfl rfl rfl

/-! ### The interface, the inputs, the mix and the tracks -/

theorem keepsSound_linkSet (limit : BitVec 8) : KeepsSound (reqLinkSet limit) := by
  intro t a u h
  unfold reqLinkSet
  split
  · exact h.now
  · exact Sound.answered (h.now.modLink h.outer.replies h.kept.core.notices rfl rfl rfl)

theorem keepsSound_linkReadAndClear : KeepsSound reqLinkReadAndClear := fun _ _ _ h =>
  Sound.answered (h.now.modLink h.outer.replies h.kept.core.notices rfl rfl rfl)

theorem keepsSound_stat : KeepsSound reqStat := fun _ _ _ h =>
  Sound.answered (h.now.modLink h.outer.replies h.kept.core.notices rfl rfl rfl)

theorem keepsSound_rsetEngine : KeepsSound reqRsetEngine := fun _ _ _ h => h.now.engineReset

theorem keepsSound_rsetConfig : KeepsSound reqRsetConfig :=
  keepsSound_ite (keepsSound_refuse _) fun _ _ _ free h => by
    simp only [not_or, not_not] at free
    exact h.now.configReset free.2

theorem keepsSound_inptSet (input : BitVec 8) (fields : InputFields) : KeepsSound (reqInptSet input fields) := by
  refine keepsSound_ite (keepsSound_refuse _) fun t a u _ h => ?_
  split
  · exact h.now
  · rename_i x spelled
    obtain ⟨hold, high, low, dwell⟩ := channelSettingsOf_range spelled
    have configured (c : Channel) (range : ChannelInRange c) : ChannelInRange (c.configure x) :=
      range.configure hold high low dwell
    cases input_named : inputIndex input with
    | some k => exact Sound.answered (h.now.modInputs (h.outer.inputs.modChannel k configured) rfl)
    | none => exact Sound.answered (h.now.modInputs (h.outer.inputs.mapChannels configured) rfl)

theorem keepsSound_inptRead (input : BitVec 8) : KeepsSound (reqInptRead input) := by
  intro t a u h
  unfold reqInptRead
  split <;> exact h.now

theorem keepsSound_mixg (bus input : BitVec 8) (gain : BitVec 16) : KeepsSound (reqMixg bus input gain) := by
  intro t a u h
  unfold reqMixg
  split
  · exact h.now
  · rename_i b _
    split
    · exact h.now
    · cases b with
      | l => exact Sound.answered (h.now.modRouter (h.outer.routing.congr (q := u.router.modBus .l _) rfl rfl rfl))
      | r => exact Sound.answered (h.now.modRouter (h.outer.routing.congr (q := u.router.modBus .r _) rfl rfl rfl))

theorem keepsSound_trakSource (track source : BitVec 8) : KeepsSound (reqTrakSource track source) := by
  intro t a u h
  unfold reqTrakSource
  split
  · exact h.now
  · split
    · exact h.now
    · rename_i range
      split
      · exact h.now
      · exact Sound.answered (h.now.modRouter (h.outer.routing.source _ (Nat.le_of_not_lt range)))

theorem keepsSound_trakLink (track : BitVec 8) : KeepsSound (reqTrakLink track) := by
  intro t a u h
  unfold reqTrakLink
  split
  · exact h.now
  · split
    · exact h.now
    · split
      · exact h.now
      · split
        · exact h.now
        · rename_i unlinked
          rw [Bool.or_eq_true, not_or, Bool.not_eq_true, Bool.not_eq_true] at unlinked
          exact Sound.answered (h.now.modRouter (h.outer.routing.makeLink unlinked.1 unlinked.2))

theorem keepsSound_trakUnlink (track : BitVec 8) : KeepsSound (reqTrakUnlink track) := by
  intro t a u h
  unfold reqTrakUnlink
  split
  · exact h.now
  · split
    · exact h.now
    · exact Sound.answered (h.now.modRouter (h.outer.routing.breakLink _))

theorem keepsSound_trakRead (track : BitVec 8) : KeepsSound (reqTrakRead track) := by
  intro t a u h
  unfold reqTrakRead
  split <;> exact h.now

theorem keepsSound_armt (mask : BitVec 24) : KeepsSound (reqArmt mask) := fun _ _ _ h =>
  Sound.answered (h.now.modRouter (h.outer.routing.arm mask))

theorem keepsSound_metrRead : KeepsSound reqMetrRead := fun _ _ _ h => h.now.clearPeaks

theorem keepsSound_metrPeriod (period : BitVec 16) : KeepsSound (reqMetrPeriod period) := fun _ _ _ h =>
  Sound.answered (h.now.modInputs
    (f := fun i => { i with reportPeriod := reportPeriodOf period.toNat, reportTimer := Timer.zero }) h.outer.inputs rfl)

/-! ### The timeline -/

theorem keepsSound_tlmd (rate mode : BitVec 8) (tolerance : BitVec 16) : KeepsSound (reqTlmd rate mode tolerance) := by
  intro t a u h
  unfold reqTlmd
  split
  · split
    · exact h.now
    · exact h.now.takeTlmd _ _ (clamp_range _ (by decide)).2
  · exact h.now

theorem keepsSound_tcst (label : Label) : KeepsSound (reqTcst label) :=
  keepsSound_ite (keepsSound_refuse _) fun t a u valid h => by
    split
    · exact h.now
    · exact Sound.setTimecode (k := 0) h (by decide) (labelCount_lt_day (Bool.not_eq_false _ ▸ valid))

theorem keepsSound_jams : KeepsSound reqJams :=
  keepsSound_ite (keepsSound_refuse _) fun _ _ _ mode h => h.now.startJam mode

/-! ### Takes, marks, triggers, drains and notes -/

theorem keepsSound_take (id : BitVec 16) (sectionNo : BitVec 8) : KeepsSound (reqTake id sectionNo) := by
  refine keepsSound_ite (keepsSound_refuse _) fun t a u _ h => ?_
  split <;> exact h.now

theorem keepsSound_roll : KeepsSound reqRoll := by
  intro t a u h
  have rolled : Sound t a 0 (u.rollReq .command u.ring.p).1 := h.confined (confined_rollReq ..)
    (Kept.rollReq (k := 0) h.kept (by decide) .command fun _ _ => oldest_le u)
  unfold reqRoll rollAnswer
  split <;> exact rolled

theorem keepsSound_cut : KeepsSound reqCut := by
  intro t a u h
  have cut : Sound t a 0 (u.cutReq .command u.ring.p none).1 :=
    h.now.confined (confined_cutReq ..) (h.now.kept.cutReq ..)
  unfold reqCut cutAnswer
  split <;> exact cut

theorem keepsSound_capsSet (fields : CaptureFields) : KeepsSound (reqCapsSet fields) := by
  intro t a u h
  have preRoll : (capturesOf fields).preRoll ≤ 480000 := by
    have := (clamp_range (low := 0) (high := 10000) fields.preRoll.toNat (by decide)).2
    change clamp 0 10000 fields.preRoll.toNat * 48 ≤ 480000
    omega
  have stored := h.now.controls (f := fun c => { c with caps := capturesOf fields }) rfl rfl rfl (fun _ _ => preRoll)
    fun legal counts => (h.kept.accounts legal counts).markDue
  exact stored.confined (confined_takeLimitCut _) stored.kept.takeLimitCut

theorem Sound.armMark {t a : Prop} {k : Nat} {s : State} (h : Sound t a k s) (m : MarkName) (count : Nat) :
    Sound t a k (s.armMark m count) := by
  have preRoll (legal : t) (counts : a) := (h.kept.accounts legal counts).preRoll
  have due (legal : t) (counts : a) := (h.kept.accounts legal counts).markDue
  cases m with
  | start =>
    exact h.controls (f := fun c => { c with startMark := { armed := true, count := count } }) rfl rfl rfl preRoll due
  | stop =>
    exact h.controls (f := fun c => { c with stopMark := { armed := true, count := count } }) rfl rfl rfl preRoll due

theorem keepsSound_markSet (mark : BitVec 8) (label : Label) : KeepsSound (reqMarkSet mark label) := by
  intro t a u h
  unfold reqMarkSet
  split
  · exact h.now
  · split
    · exact h.now
    · exact h.now.armMark ..

theorem keepsSound_markClear (mark : BitVec 8) : KeepsSound (reqMarkClear mark) := by
  intro t a u h
  unfold reqMarkClear
  split
  · exact h.now
  · exact h.now.confined (confined_disarm ..) (h.now.kept.disarm _)

theorem keepsSound_markRead (mark : BitVec 8) : KeepsSound (reqMarkRead mark) := by
  intro t a u h
  unfold reqMarkRead
  split <;> exact h.now

theorem keepsSound_trigSet (line mode polarity : BitVec 8) (filter : BitVec 16) :
    KeepsSound (reqTrigSet line mode polarity filter) := by
  intro t a u h
  unfold reqTrigSet
  split
  · refine Sound.answered (h.now.lines fun legal counts n => ?_)
    have before := (h.kept.accounts legal counts).edges n
    rw [Triggers.get_modify]
    split
    · exact ⟨(clamp_range (low := 0) (high := 4800) filter.toNat (by decide)).2, before.unset, before.pending, before.confirmed⟩
    · exact before
  · exact h.now

theorem keepsSound_trigRead (line : BitVec 8) : KeepsSound (reqTrigRead line) := by
  intro t a u h
  unfold reqTrigRead
  split <;> exact h.now

theorem keepsSound_dranSet (drain : BitVec 8) (fields : DrainFields) : KeepsSound (reqDranSet drain fields) := by
  intro t a u h
  unfold reqDranSet
  split
  · split
    · exact h.now
    · exact h.now.confined (confined_setDrain ..) (h.now.kept.setDrain ..)
  · exact h.now

theorem keepsSound_dranRead (drain : BitVec 8) : KeepsSound (reqDranRead drain) := by
  intro t a u h
  unfold reqDranRead
  split <;> exact h.now

theorem keepsSound_nlinSet (count : BitVec 8) (stations : Vector (BitVec 8) 8) : KeepsSound (reqNlinSet count stations) :=
  keepsSound_ite (keepsSound_refuse _) fun _ _ _ _ h => Sound.answered (h.now.modNotes
    ⟨(stationList_length _).trans (namedStations_length ..), h.outer.notes.buffer⟩)

theorem keepsSound_nlinReadAndClear : KeepsSound reqNlinReadAndClear := fun _ _ _ h =>
  Sound.answered (h.now.modNotes ⟨h.outer.notes.accept, h.outer.notes.buffer⟩)

theorem keepsSound_note (text : Text) : KeepsSound (reqNote text) :=
  keepsSound_ite (keepsSound_refuse _) fun _ _ _ _ h => h.now.bindNote _

theorem keepsSound_slat (sectionNo : BitVec 8) : KeepsSound (reqSlat sectionNo) :=
  keepsSound_ite (keepsSound_refuse _) fun _ _ _ _ h => h.now

/-! ### Requests by their kind and payload (R169) -/

theorem keepsSound_setOrRead {set read : State → Answer} (action : BitVec 8) (hs : KeepsSound set) (hr : KeepsSound read) :
    KeepsSound (setOrRead action set read) := keepsSound_either hs (keepsSound_either hr (keepsSound_refuse _))

theorem keepsSound_byThree {first second third : State → Answer} (action : BitVec 8) (h1 : KeepsSound first)
    (h2 : KeepsSound second) (h3 : KeepsSound third) : KeepsSound (byThree action first second third) :=
  keepsSound_either h1 (keepsSound_either h2 (keepsSound_either h3 (keepsSound_refuse _)))

theorem keepsSound_trakAction (p : Text) : KeepsSound (trakAction p) :=
  keepsSound_either (keepsSound_trakSource _ _) (keepsSound_either (keepsSound_trakLink _)
    (keepsSound_either (keepsSound_trakUnlink _) (keepsSound_either (keepsSound_trakRead _) (keepsSound_refuse _))))

theorem keepsSound_ownerRequest (kind : ReqKind) (p : Text) : KeepsSound (ownerRequest kind p) := by
  cases kind with
  | iden => exact keepsSound_read _
  | stat => exact keepsSound_stat
  | link => exact keepsSound_byThree _ (keepsSound_linkSet _) (keepsSound_read _) keepsSound_linkReadAndClear
  | rset => exact keepsSound_setOrRead _ keepsSound_rsetEngine keepsSound_rsetConfig
  | inpt => exact keepsSound_setOrRead _ (keepsSound_inptSet _ _) (keepsSound_inptRead _)
  | mixg => exact keepsSound_mixg _ _ _
  | trak => exact keepsSound_trakAction p
  | armt => exact keepsSound_armt _
  | metr => exact keepsSound_setOrRead _ keepsSound_metrRead (keepsSound_metrPeriod _)
  | tlmd => exact keepsSound_tlmd _ _ _
  | tcst => exact keepsSound_tcst _
  | jams => exact keepsSound_jams
  | tcqr => exact keepsSound_read _
  | caps => exact keepsSound_setOrRead _ (keepsSound_capsSet _) (keepsSound_read _)
  | take => exact keepsSound_take _ _
  | roll => exact keepsSound_roll
  | cut => exact keepsSound_cut
  | mark => exact keepsSound_byThree _ (keepsSound_markSet _ _) (keepsSound_markClear _) (keepsSound_markRead _)
  | trig => exact keepsSound_setOrRead _ (keepsSound_trigSet _ _ _ _) (keepsSound_trigRead _)
  | dran => exact keepsSound_setOrRead _ (keepsSound_dranSet _ _) (keepsSound_dranRead _)
  | nlin => exact keepsSound_byThree _ (keepsSound_nlinSet _ _) (keepsSound_read _) keepsSound_nlinReadAndClear
  | note => exact keepsSound_note p
  | slat => exact keepsSound_slat _

theorem keepsSound_frameRequest (kind p : Text) : KeepsSound (frameRequest kind p) := by
  unfold frameRequest
  split
  · exact keepsSound_refuse _
  · exact keepsSound_either (keepsSound_ownerRequest _ p) (keepsSound_refuse _)

theorem keepsReplies_frameRequest (kind p : Text) : KeepsReplies (frameRequest kind p) := by
  unfold frameRequest
  split
  · exact keepsReplies_refuse _
  · exact keepsReplies_either (keepsReplies_ownerRequest _ p) (keepsReplies_refuse _)

/-! ## The control line (R166) -/

namespace Sound

variable {t a : Prop} {s : State}

theorem goodByte (h : Sound t a 1 s) (v : BitVec 8) : Sound t a 0 (s.goodByte v) := by
  unfold State.goodByte
  split
  · exact Sound.ite (fun _ => h.now.rxTo _) fun _ => h.now.modLink h.outer.replies h.kept.core.notices rfl rfl rfl
  · exact Sound.ite (fun _ => h.now.rxTo _) fun _ => h.now.frameError _
  · exact Sound.ite (fun _ => h.now.rxTo _) fun _ => h.now.rxTo _
  · exact Sound.ite (fun _ => h.now.rxTo _) fun _ => h.now.rxTo _
  · exact Sound.ite (fun _ => h.now.rxTo _) fun _ => h.now.rxTo _
  · exact h.now.rxTo _
  · refine Sound.ite (fun _ => ?_) fun _ => h.now.frameError _
    exact (keepsSound_frameRequest _ _).serve (keepsReplies_frameRequest _ _)
      (h.modLink h.outer.replies h.kept.core.notices rfl rfl rfl) ..

theorem controlByte (h : Sound t a 1 s) (v : BitVec 8) (stopHigh : Bool) : Sound t a 0 (s.controlByte v stopHigh) :=
  Sound.ite (fun _ => h.goodByte v) fun _ => h.now.byteError

end Sound

/-! ## The commands and the step -/

/-- Every command keeps a legal state legal, with three rolls at most (log entry 34), and its accounts where P has a next
value (log entry 5). -/
theorem exec_sound {i : Instr} {s u : State} {t a : Prop} (h : exec i s = .next u) (sound : Sound t a 3 s)
    (room : t → a → s.ring.p + 1 < 281474976710656) : Sound t a 0 u := by
  have one : Sound t a 1 s := sound.fewer (k := 1) (n := 2)
  have still : Sound t a 0 s := sound.fewer (k := 0) (n := 3)
  have by_unit {v : State} (ran : exec i s = .next v) (kept : Sound t a 0 v) : Sound t a 0 u :=
    Host.Outcome.next.inj (h.symm.trans ran) ▸ kept
  have by_request {handle : State → Answer} {tag : BitVec 8} {kind : Text}
      (ran : exec i s = .next (s.serve tag kind handle)) (kept : KeepsSound handle) (replies : KeepsReplies handle) :
      Sound t a 0 u := by_unit ran (kept.serve replies one ..)
  cases i with
  | powerOnReset => exact by_unit rfl still.powerOn
  | audioFrame =>
    have settled := sound.settleAdvance
    refine by_unit rfl (settled.takeAudio (settleAdvance_settled s) ?_ ..)
    rw [(settleAdvance_frame s).2.2.2.1]
    exact room
  | controlByte => exact by_unit rfl (one.controlByte ..)
  | earlyFrameSync => exact by_unit rfl still
  | clipEpisodeEnd => exact by_unit rfl (still.takeClipEnd _)
  | busClipEpisodeEnd => exact by_unit rfl (still.takeBusClipEnd _)
  | silent => exact by_unit rfl (still.takeSilent _)
  | audioSyncLoss => exact by_unit rfl still.loseSync
  | lvlsReport => exact by_unit rfl still.reportLevels
  | frameArrival => exact by_unit rfl (Sound.takeFrame (k := 0) one (by decide) ..)
  | refLost => exact by_unit rfl still.takeRefLost
  | edgeConfirmed => exact by_unit rfl (Sound.takeEdges (k := 0) (sound.fewer (k := 2) (n := 1)) (by decide))
  | markFired => exact by_unit rfl (Sound.takeMarksFired (k := 0) one (by decide))
  | tailEnd => exact by_unit rfl (still.confined (confined_takeTailEnd s) still.kept.takeTailEnd)
  | limitCut => exact by_unit rfl (still.confined (confined_takeLimitCut s) still.kept.takeLimitCut)
  | windowEnd => exact by_unit rfl (still.confined (confined_takeWindowEnd s) still.kept.takeWindowEnd)
  | formBlock d => exact by_unit rfl (still.confined (confined_takeForm s d) (still.kept.takeForm d))
  | completion d => exact by_unit rfl (still.confined (confined_takeCompletion s d) (still.kept.takeCompletion d))
  | hold d => exact by_unit rfl (still.port (still.kept.takeHold d))
  | go d => exact by_unit rfl (still.port (still.kept.takeGo d))
  | linkDown d => exact by_unit rfl (still.confined (confined_takeLinkDown s d) (still.kept.takeLinkDown d))
  | linkUp d => exact by_unit rfl (still.port (still.kept.takeLinkUp d))
  | stalled d => exact by_unit rfl (still.confined (confined_takeStall s d) (still.kept.takeStall d))
  | character bits => exact by_unit rfl (still.modNotes (still.outer.notes.character bits s.ring.p))
  | idleTimeout => exact by_unit rfl (still.modNotes still.outer.notes.timeout)
  | lineBreak => exact by_unit rfl (still.modNotes still.outer.notes.enterBreak)
  | breakEnd => exact by_unit rfl (still.modNotes still.outer.notes.goesHigh)
  | startBitEdge => exact by_unit rfl (still.modNotes still.outer.notes.startEdge)
  | bindNote => exact by_unit rfl still.takeNextNote
  | silenceDiscard => exact by_unit rfl still.silenceDiscard
  | badKind =>
    exact by_unit rfl (Sound.ite (fun _ => (keepsSound_refuse _).serve (keepsReplies_refuse _) one ..) fun _ => still)
  | transmitFrame => exact by_unit rfl still.transmit
  | iden => exact by_request rfl (keepsSound_read _) (keepsReplies_read _)
  | stat => exact by_request rfl keepsSound_stat fun _ => ⟨rfl, id⟩
  | linkSet => exact by_request rfl (keepsSound_linkSet _) (keepsReplies_linkSet _)
  | linkRead => exact by_request rfl (keepsSound_read _) (keepsReplies_read _)
  | linkReadAndClear => exact by_request rfl keepsSound_linkReadAndClear fun _ => ⟨rfl, id⟩
  | rsetEngine => exact by_request rfl keepsSound_rsetEngine fun _ => ⟨rfl, fun _ => rfl⟩
  | rsetConfig => exact by_request rfl keepsSound_rsetConfig keepsReplies_rsetConfig
  | inptSet => exact by_request rfl (keepsSound_inptSet _ _) (keepsReplies_inptSet _ _)
  | inptRead => exact by_request rfl (keepsSound_inptRead _) (keepsReplies_inptRead _)
  | mixg => exact by_request rfl (keepsSound_mixg _ _ _) (keepsReplies_mixg _ _ _)
  | trakSource => exact by_request rfl (keepsSound_trakSource _ _) (keepsReplies_trakSource _ _)
  | trakLink => exact by_request rfl (keepsSound_trakLink _) (keepsReplies_trakLink _)
  | trakUnlink => exact by_request rfl (keepsSound_trakUnlink _) (keepsReplies_trakUnlink _)
  | trakRead => exact by_request rfl (keepsSound_trakRead _) (keepsReplies_trakRead _)
  | armt => exact by_request rfl (keepsSound_armt _) fun _ => ⟨rfl, id⟩
  | metrRead => exact by_request rfl keepsSound_metrRead fun _ => ⟨rfl, id⟩
  | metrPeriod => exact by_request rfl (keepsSound_metrPeriod _) fun _ => ⟨rfl, id⟩
  | tlmd => exact by_request rfl (keepsSound_tlmd _ _ _) (keepsReplies_tlmd _ _ _)
  | tcst => exact by_request rfl (keepsSound_tcst _) (keepsReplies_tcst _)
  | jams => exact by_request rfl keepsSound_jams keepsReplies_jams
  | tcqr => exact by_request rfl (keepsSound_read _) (keepsReplies_read _)
  | capsSet => exact by_request rfl (keepsSound_capsSet _) (keepsReplies_capsSet _)
  | capsRead => exact by_request rfl (keepsSound_read _) (keepsReplies_read _)
  | take => exact by_request rfl (keepsSound_take _ _) (keepsReplies_take _ _)
  | roll => exact by_request rfl keepsSound_roll keepsReplies_roll
  | cut => exact by_request rfl keepsSound_cut keepsReplies_cut
  | markSet => exact by_request rfl (keepsSound_markSet _ _) (keepsReplies_markSet _ _)
  | markClear => exact by_request rfl (keepsSound_markClear _) (keepsReplies_markClear _)
  | markRead => exact by_request rfl (keepsSound_markRead _) (keepsReplies_markRead _)
  | trigSet => exact by_request rfl (keepsSound_trigSet _ _ _ _) (keepsReplies_trigSet _ _ _ _)
  | trigRead => exact by_request rfl (keepsSound_trigRead _) (keepsReplies_trigRead _)
  | dranSet => exact by_request rfl (keepsSound_dranSet _ _) (keepsReplies_dranSet _ _)
  | dranRead => exact by_request rfl (keepsSound_dranRead _) (keepsReplies_dranRead _)
  | nlinSet => exact by_request rfl (keepsSound_nlinSet _ _) (keepsReplies_nlinSet _ _)
  | nlinRead => exact by_request rfl (keepsSound_read _) (keepsReplies_read _)
  | nlinReadAndClear => exact by_request rfl keepsSound_nlinReadAndClear fun _ => ⟨rfl, id⟩
  | note => exact by_request rfl (keepsSound_note _) (keepsReplies_note _)
  | slat => exact by_request rfl (keepsSound_slat _) (keepsReplies_slat _)

theorem step_sound {s u : State} {t a : Prop} (h : step s = .next u) (sound : Sound t a 3 s)
    (room : t → a → s.ring.p + 1 < 281474976710656) : Sound t a 0 u := by
  unfold step at h
  split at h
  · rename_i c rest _
    have taken : Sound t a 3 (s.withPending rest) :=
      sound.aside rfl rfl rfl rfl rfl rfl sound.kept.core.notices rfl rfl { sound.outer with }
    exact exec_sound h taken room
  · unfold idleStep at h
    split at h
    · exact exec_sound h sound room
    · cases h
      exact (sound.fewer (k := 0) (n := 3)).tick

/-! ## Where it holds -/

/-- The next take ids are those that the count comes to (R75, log entry 34). -/
theorem tableKept_of_free {s : State} (legal : TableLegal s) (free : NextIdsFree s.takes) : TableKept 3 s := by
  refine ⟨legal, fun i below r held => ?_⟩
  obtain ⟨first, second, third⟩ := free r held
  match i, below with
  | 0, _ => exact first
  | 1, _ => exact second
  | 2, _ => exact third

/-- Settles O59: the legal state, its table and its accounts are the three layers of one invariant, which every command
keeps. -/
theorem everyStepKeepsTheStateLegal : Obligations.EveryStepKeepsTheStateLegal := by
  unfold Obligations.EveryStepKeepsTheStateLegal
  intro s u legal run
  obtain ⟨outer, core⟩ := legal_iff.1 legal
  have sound : Sound (TableLegal s ∧ NextIdsFree s.takes) (TakesAccounted s ∧ s.ring.p + 1 < 281474976710656) 3 s :=
    ⟨⟨core, fun ⟨table, free⟩ => tableKept_of_free table free, fun _ counts => counts.1⟩, outer⟩
  obtain ⟨kept, outside⟩ := step_sound run sound fun _ counts => counts.2
  refine ⟨legal_iff.2 ⟨outside, kept.core⟩, fun table free => ⟨(kept.table ⟨table, free⟩).table, fun accounts room => ?_⟩⟩
  exact kept.accounts ⟨table, free⟩ ⟨accounts, room⟩

end Sys2Proof.Machine
end
